-- ==== Sys2Proof/Word.lean ====
section
/-! DEFINITION. The word types of the pit link: a byte, and the fixed-width words that the WP620 lets wrap. -/

namespace Sys2Proof

/-- One byte of a frame body (R200). -/
abbrev Byte := BitVec 8

/-- A run of bytes, first byte first. -/
abbrev Bytes := List Byte

/-- The 16-bit register of the frame check (R3), and a channel's start count (R55). -/
abbrev Word16 := BitVec 16

/-- The 32-bit words of the part: the pit time, a node serial and a record's revision (R20, R27, R183). -/
abbrev Word32 := BitVec 32

/-- A wheel-geometry quantity in 0.01 mm (section 4.1 of the opening file). -/
abbrev Geometry := Int

/-- A wheelset serial: its characters as character codes (R200), 1 to 12 of them. -/
abbrev Serial := Bytes

end Sys2Proof
end

