-- ==== Sys2Proof/Syntax.lean ====
section
/-! DEFINITION. The commands of the WP620: one constructor of `Instr` for each row of spec/opcode_table.json, with
the names and the reports that the commands carry from outside the part. -/

namespace Sys2Proof

/-- A lathe position (section 4.2 of the opening file). -/
inductive StationId where
  | A
  | B
deriving DecidableEq, Repr

/-- The side of a wheel. -/
inductive Side where
  | L
  | R
deriving DecidableEq, Repr

/-- A wheel head, named by station and side: A-L, A-R, B-L, B-R. -/
structure HeadId where
  station : StationId
  side : Side
deriving DecidableEq, Repr

/-- A lift column. -/
inductive Column where
  | J1
  | J2
  | J3
  | J4
deriving DecidableEq, Repr

/-- The pit function a node fills: J1 to J4, A-L, A-R, B-L, B-R, CA, CB. -/
inductive Role where
  | column (c : Column)
  | head (h : HeadId)
  | clamp (st : StationId)
deriving DecidableEq, Repr

/-- What a node declares itself to be at discovery (section 2.1). -/
inductive NodeKind where
  | liftColumn
  | wheelHead
  | axleClamp
deriving DecidableEq, Repr

/-- The eleven timing channels (section 3.2). -/
inductive Channel where
  | warn
  | step
  | settle
  | pace
  | clamp (st : StationId)
  | head (h : HeadId)
  | discover
deriving DecidableEq, Repr

/-- The three owners of loop nodes, each with its own view of the loop (R46). -/
inductive LoopOwner where
  | lift
  | clamps
  | heads
deriving DecidableEq, Repr

/-- The two discrete inputs of the Zone Monitor. -/
inductive PitInput where
  | curtain
  | stopChain
deriving DecidableEq, Repr

/-- The outcome of a segment diagnosis (R36). -/
inductive SegmentOutcome where
  | clean
  | shortToReturn
  | shortToFeed
  | crossed
  | opened
  | reversed
  | undetermined
deriving DecidableEq, Repr

/-- A column's reported status (section 4.1). -/
inductive ColumnStatus where
  | atSetpoint
  | moving
  | blocked
deriving DecidableEq, Repr

/-- A clamp's reported jaw position (section 4.9). -/
inductive Jaw where
  | atOpen
  | between
  | atClosed
deriving DecidableEq, Repr

/-- A head's reported status (section 5.6). -/
inductive HeadStatus where
  | atPark
  | working
  | halted
  | returning
deriving DecidableEq, Repr

/-- The phases of a walk or a scan (R114, R137). -/
inductive Phase where
  | datum
  | lateral
  | circumferential
deriving DecidableEq, Repr

/-- Where a head stands in its task: for a walk or a scan the phase and the next point index, for a pass list the
pass number and the lateral tool position (section 5.6). -/
inductive Cursor where
  | point (phase : Phase) (index : Nat)
  | pass (number lateral : Nat)
deriving DecidableEq, Repr

/-- The status of one sample (R115). -/
inductive SampleStatus where
  | good
  | saturated
  | noContact
deriving DecidableEq, Repr

/-- One sample of a walk or a scan (R115); the radius of a NO-CONTACT sample is read by nothing. -/
structure Sample where
  phase : Phase
  index : Nat
  radius : Geometry
  status : SampleStatus
deriving DecidableEq, Repr

/-- A head's report (section 5.6): its status and cursor, the mark naming a pass just completed, the mark saying that
the whole task is complete, the samples of a walk or scan, and the back-face offset of a walk. -/
structure HeadReadings where
  status : HeadStatus
  cursor : Option Cursor
  passDone : Option Nat
  taskDone : Bool
  samples : List Sample
  backFace : Option Geometry
deriving DecidableEq, Repr

/-- The readings of one report, by the kind of the node (section 2.2). -/
inductive Readings where
  | column (height load : Nat) (status : ColumnStatus) (ack : Nat)
  | clamp (jaw : Jaw) (force holding : Nat)
  | head (r : HeadReadings)
deriving DecidableEq, Repr

/-- What arrived in one node's report slot of a cycle: whether its check agrees with its content, the cycle number it
carries, and its readings (R29). -/
structure SlotReport where
  checkOk : Bool
  cycle : Byte
  readings : Readings
deriving DecidableEq, Repr

/-- One character on the pit link: eight data bits, and whether its stop bit is present (R1). -/
structure RxChar where
  data : Byte
  stop : Bool
deriving DecidableEq, Repr

/-- The block that hands a notice to the Warning Outputs (R58). -/
inductive ViewSource where
  | lift
  | clamps
  | loop
  | station (st : StationId)
  | zone
  | attention
  | history
deriving DecidableEq, Repr

/-- The commands: one constructor for each row of spec/opcode_table.json. A request command takes no operand of its
own: it is the request frame at the front of the input queue, handled by its owner (R5), and its fields are the body
bytes of that frame. A notice command takes the oldest such notice that is under way. -/
inductive Instr where
  /-- POWER_UP (R44) -/
  | powerUp
  /-- GOOD_FRAME_ARRIVAL (R4): the characters received after the start mark -/
  | goodFrameArrival (chars : List RxChar)
  /-- FRAME_DISCARD (R2): the characters received after the start mark, up to the one that settles it -/
  | frameDiscard (chars : List RxChar)
  /-- INTER_BYTE_TIMEOUT (R2) -/
  | interByteTimeout
  /-- IDENTIFY (R23) -/
  | identify
  /-- STATUS (R24) -/
  | status
  /-- SET_CLOCK (R21) -/
  | setClock
  /-- SETTING_WRITE (R16) -/
  | settingWrite
  /-- LOOP_ERROR_KINDS_WRITE (R18) -/
  | loopErrorKindsWrite
  /-- PIT_MAP_WRITE (R18) -/
  | pitMapWrite
  /-- SETTING_READ (R17) -/
  | settingRead
  /-- TAKE_ATTENTION (R13) -/
  | takeAttention
  /-- RESTART (R25) -/
  | restart
  /-- RESTART_COME_UP (R26) -/
  | restartComeUp
  /-- HORN_MUTE (R60) -/
  | hornMute
  /-- PANEL_SET (R65) -/
  | panelSet
  /-- LOOP_START (R34) -/
  | loopStart
  /-- MAP_ADOPT (R43) -/
  | mapAdopt
  /-- NODE_LIST (R47) -/
  | nodeList
  /-- LIFT_RAISE (R70) -/
  | liftRaise
  /-- LIFT_LOWER (R71) -/
  | liftLower
  /-- LIFT_STOP (R81) -/
  | liftStop
  /-- LIFT_RESUME (R72) -/
  | liftResume
  /-- CLAMP_CLOSE (R84) -/
  | clampClose
  /-- CLAMP_OPEN (R85) -/
  | clampOpen
  /-- MOUNT (R93) -/
  | mount
  /-- DISMOUNT (R94) -/
  | dismount
  /-- STATION_PAUSE (R96) -/
  | stationPause
  /-- STATION_RESUME (R97) -/
  | stationResume
  /-- STATION_ABANDON (R98) -/
  | stationAbandon
  /-- STATION_REPORT (R110) -/
  | stationReport
  /-- INSERT_CHANGED (R109) -/
  | insertChanged
  /-- TRACE (R112) -/
  | trace
  /-- SURVEY (R144) -/
  | survey
  /-- PROFILE_LOAD_CLEAR (R203) -/
  | profileLoadClear
  /-- PROFILE_LOAD_FIRST_PART (R203) -/
  | profileLoadFirstPart
  /-- PROFILE_LOAD_SECOND_PART (R203) -/
  | profileLoadSecondPart
  /-- PROFILE_READ (R136) -/
  | profileRead
  /-- PLAN (R149) -/
  | plan
  /-- PLAN_BOTH (R150) -/
  | planBoth
  /-- APPROVE (R163) -/
  | approve
  /-- CUT_START (R168) -/
  | cutStart
  /-- CUT_START_BOTH (R166) -/
  | cutStartBoth
  /-- ACCEPT (R174) -/
  | accept
  /-- RECUT (R176) -/
  | recut
  /-- RECORD_ENTER (R192) -/
  | recordEnter
  /-- RECORD_READ (R198) -/
  | recordRead
  /-- RECORD_FIT (R194) -/
  | recordFit
  /-- RECORD_AMEND (R196) -/
  | recordAmend
  /-- RECORD_RETIRE (R197) -/
  | recordRetire
  /-- EXPORT_TAKE (R191) -/
  | exportTake
  /-- CLOCK_WRAP (R20) -/
  | clockWrap
  /-- ATTENTION_POSTING (R10): which of the postings under way reaches the queue, counted from the oldest, 0 -/
  | attentionPosting (i : Nat)
  /-- RETURN_PENDING (R48): one sample of an input, and whether it shows safety -/
  | returnPending (input : PitInput) (safe : Bool)
  /-- BREACH (R50) -/
  | breach
  /-- CLEAR (R51) -/
  | clear
  /-- BREAK (R52) -/
  | chainBreak
  /-- HEALTHY (R53) -/
  | healthy
  /-- ZONE_GATE_CLOSE (R56) -/
  | zoneGateClose
  /-- ZONE_GATE_OPEN (R56) -/
  | zoneGateOpen
  /-- TIMER_EXPIRY (R57) -/
  | timerExpiry (ch : Channel)
  /-- WARN_EXPIRY (R73) -/
  | warnExpiry
  /-- STEP_EXPIRY (R76) -/
  | stepExpiry
  /-- SETTLE_EXPIRY (R77) -/
  | settleExpiry
  /-- PACE_EXPIRY (R79) -/
  | paceExpiry
  /-- CLAMP_TIMER_EXPIRY (R86) -/
  | clampTimerExpiry (st : StationId)
  /-- HEAD_TIMER_EXPIRY (R104) -/
  | headTimerExpiry (h : HeadId)
  /-- DARK_HOLD_EXPIRY (R35) -/
  | darkHoldExpiry
  /-- SEGMENT_DIAGNOSIS (R37): the outcome and the localized flag that the feeding switch returns -/
  | segmentDiagnosis (outcome : SegmentOutcome) (localized : Bool)
  /-- DIAGNOSIS_TIMEOUT (R36) -/
  | diagnosisTimeout
  /-- IDENTITY_ANSWER (R38): whether the answer's check agrees, and the kind and serial it declares -/
  | identityAnswer (checkOk : Bool) (kind : NodeKind) (serial : Word32)
  /-- IDENTITY_QUERY_TIMEOUT (R38) -/
  | identityQueryTimeout
  /-- LOOP_CYCLE (R29): what arrived in the report slot of each loop position; a position not listed was silent -/
  | loopCycle (slots : List (Nat × SlotReport))
  /-- LOOP_DOWN_NOTICE (R46) -/
  | loopDownNotice (owner : LoopOwner)
  /-- LIFT_LOOP_UP (R68) -/
  | liftLoopUp
  /-- CLAMP_LOOP_UP (R91) -/
  | clampLoopUp
  /-- HEAD_LOOP_UP (R102) -/
  | headLoopUp
  /-- COLUMN_REPORT (R67) -/
  | columnReport (c : Column)
  /-- LIFT_BREACH_NOTICE (R81) -/
  | liftBreachNotice
  /-- LIFT_BREAK_NOTICE (R81) -/
  | liftBreakNotice
  /-- COLUMN_LOST (R82) -/
  | columnLost (c : Column)
  /-- COLUMN_REGAINED (R83) -/
  | columnRegained (c : Column)
  /-- CLAMP_REPORT (R86) -/
  | clampReport (st : StationId)
  /-- CLAMP_BREAK_NOTICE (R90) -/
  | clampBreakNotice
  /-- CLAMP_LOST (R90) -/
  | clampLost (st : StationId)
  /-- CLAMP_REGAINED (R90) -/
  | clampRegained (st : StationId)
  /-- HEAD_REPORT (R104) -/
  | headReport (h : HeadId)
  /-- TASK_HANDED (R103) -/
  | taskHanded (h : HeadId)
  /-- HEAD_BREACH_NOTICE (R105) -/
  | headBreachNotice
  /-- HALT_NOTICE (R105) -/
  | haltNotice (st : StationId)
  /-- HEAD_BREAK_NOTICE (R107) -/
  | headBreakNotice
  /-- WITHDRAW_NOTICE (R107) -/
  | withdrawNotice (st : StationId)
  /-- HEAD_LOST (R107) -/
  | headLost (h : HeadId)
  /-- HEAD_REGAINED (R107) -/
  | headRegained (h : HeadId)
  /-- TRACE_SAMPLES (R116) -/
  | traceSamples (h : HeadId)
  /-- SCAN_SAMPLES (R138) -/
  | scanSamples (h : HeadId)
  /-- WALK_END (R117) -/
  | walkEnd (h : HeadId)
  /-- PASS_COMPLETION (R169) -/
  | passCompletion (h : HeadId)
  /-- CUT_PART_COMPLETE (R170) -/
  | cutPartComplete (h : HeadId)
  /-- SCAN_TASK_END (R142) -/
  | scanTaskEnd (h : HeadId)
  /-- STATION_BREACH_NOTICE (R96) -/
  | stationBreachNotice (st : StationId)
  /-- STATION_BREAK_NOTICE (R98) -/
  | stationBreakNotice (st : StationId)
  /-- LIFT_FAULTED_NOTICE (R98) -/
  | liftFaultedNotice (st : StationId)
  /-- CLAMP_FAILED_NOTICE (R88) -/
  | clampFailedNotice (st : StationId)
  /-- HEAD_FAILED_NOTICE (R98) -/
  | headFailedNotice (st : StationId)
  /-- RECORD_CHANGED_NOTICE (R164) -/
  | recordChangedNotice (st : StationId)
  /-- WARNING_VIEW_NOTICE (R58): the block whose oldest notice is taken -/
  | warningViewNotice (src : ViewSource)
  /-- PANEL_REFRESH (R62) -/
  | panelRefresh
  /-- START_MARK (R2): one character received while HUNTING -/
  | startMark (ch : RxChar)
  /-- REPLY_SENT (R6) -/
  | replySent
  /-- CLOCK_ADVANCE (R20) -/
  | clockAdvance
  /-- POWER_LOSS (R199) -/
  | powerLoss
deriving DecidableEq, Repr

end Sys2Proof
end

