-- ==== Sys2Proof/Config.lean ====
section
/-! DEFINITION. What the manufacture of one WP620 fixes and the spec does not state: values left free. -/

namespace Sys2Proof

/-- The revision text that IDENTIFY returns: "up to 16 characters, fixed at manufacture" (R23). The spec states no
text, so this is a free value with no body; what is sent is cut to the 16 bytes of a name (R200).
DESIGN CHOICE (safe), log entry 3. -/
opaque Config.revisionText : Bytes

end Sys2Proof
end

