-- ==== Sys2Proof/Machine/Containers.lean ====
section
/-! DEFINITION. Tables of a fixed number of like things (per station, per side, per column, per head), and sparse
tables keyed by a number, held as lists in one canonical form. -/

namespace Sys2Proof.Machine

/-- One value for each station. -/
structure PerStation (α : Type) where
  a : α
  b : α
deriving DecidableEq, Repr

/-- One value for each wheel of a wheelset. -/
structure PerSide (α : Type) where
  l : α
  r : α
deriving DecidableEq, Repr

/-- One value for each lift column. -/
structure PerColumn (α : Type) where
  j1 : α
  j2 : α
  j3 : α
  j4 : α
deriving DecidableEq, Repr

/-- One value for each wheel head. -/
abbrev PerHead (α : Type) := PerStation (PerSide α)

def PerStation.get {α : Type} (p : PerStation α) (i : StationId) : α :=
  match i with
  | .A => p.a
  | .B => p.b

def PerStation.set {α : Type} (p : PerStation α) (i : StationId) (x : α) : PerStation α :=
  match i with
  | .A => { p with a := x }
  | .B => { p with b := x }

def PerSide.get {α : Type} (p : PerSide α) (i : Side) : α :=
  match i with
  | .L => p.l
  | .R => p.r

def PerSide.set {α : Type} (p : PerSide α) (i : Side) (x : α) : PerSide α :=
  match i with
  | .L => { p with l := x }
  | .R => { p with r := x }

def PerColumn.get {α : Type} (p : PerColumn α) (i : Column) : α :=
  match i with
  | .J1 => p.j1
  | .J2 => p.j2
  | .J3 => p.j3
  | .J4 => p.j4

def PerColumn.set {α : Type} (p : PerColumn α) (i : Column) (x : α) : PerColumn α :=
  match i with
  | .J1 => { p with j1 := x }
  | .J2 => { p with j2 := x }
  | .J3 => { p with j3 := x }
  | .J4 => { p with j4 := x }

def PerStation.map {α β : Type} (f : α → β) (p : PerStation α) : PerStation β := ⟨f p.a, f p.b⟩
def PerSide.map {α β : Type} (f : α → β) (p : PerSide α) : PerSide β := ⟨f p.l, f p.r⟩
def PerColumn.map {α β : Type} (f : α → β) (p : PerColumn α) : PerColumn β := ⟨f p.j1, f p.j2, f p.j3, f p.j4⟩

def PerStation.both {α : Type} (x : α) : PerStation α := ⟨x, x⟩
def PerSide.both {α : Type} (x : α) : PerSide α := ⟨x, x⟩
def PerColumn.all {α : Type} (x : α) : PerColumn α := ⟨x, x, x, x⟩

/-- The two values, station A first. -/
def PerStation.toList {α : Type} (p : PerStation α) : List α := [p.a, p.b]
/-- The two values, wheel L first. -/
def PerSide.toList {α : Type} (p : PerSide α) : List α := [p.l, p.r]
/-- The four values, J1 first. -/
def PerColumn.toList {α : Type} (p : PerColumn α) : List α := [p.j1, p.j2, p.j3, p.j4]

/-- A head's value. -/
def headGet {α : Type} (p : PerHead α) (h : HeadId) : α := (p.get h.station).get h.side
/-- The table with a head's value replaced. -/
def headSet {α : Type} (p : PerHead α) (h : HeadId) (x : α) : PerHead α :=
  p.set h.station ((p.get h.station).set h.side x)

/-- The other lathe position. -/
def otherStation : StationId → StationId
  | .A => .B
  | .B => .A

def stationIds : List StationId := [.A, .B]
def sides : List Side := [.L, .R]
def columns : List Column := [.J1, .J2, .J3, .J4]
/-- The heads in the order A-L, A-R, B-L, B-R. -/
def headIds : List HeadId := [⟨.A, .L⟩, ⟨.A, .R⟩, ⟨.B, .L⟩, ⟨.B, .R⟩]
/-- The ten roles in the order of section 1.6: J1 to J4, A-L, A-R, B-L, B-R, CA, CB. -/
def roles : List Role := columns.map .column ++ headIds.map .head ++ stationIds.map .clamp

/-- The value listed under a key. -/
def sparseGet {α : Type} : List (Nat × α) → Nat → Option α
  | [], _ => none
  | (k, v) :: rest, key => if k = key then some v else sparseGet rest key

/-- The table with a key's value set, its keys kept rising. -/
def sparseSet {α : Type} : List (Nat × α) → Nat → α → List (Nat × α)
  | [], key, x => [(key, x)]
  | (k, v) :: rest, key, x =>
    if key < k then (key, x) :: (k, v) :: rest
    else if k = key then (key, x) :: rest
    else (k, v) :: sparseSet rest key x

/-- The table with a key unlisted. -/
def sparseErase {α : Type} (m : List (Nat × α)) (key : Nat) : List (Nat × α) := m.filter (fun e => e.1 != key)

/-- The canonical form of a sparse table: its keys strictly rise. -/
def sparseWf {α : Type} : List (Nat × α) → Bool
  | [] => true
  | [_] => true
  | (k, _) :: (k', v') :: rest => decide (k < k') && sparseWf ((k', v') :: rest)

end Sys2Proof.Machine
end

