-- ==== Sys2Proof/Machine/State.lean ====
section
/-! DEFINITION. The state of the WP620 as plain data: every block of the spec with every field the spec gives it, the
notices that are under way between the blocks, and the queue of the commands that wait. -/

namespace Sys2Proof.Machine

/-! ### Zone, stop, warnings -/

inductive ZoneState where
  | clear
  | breached
deriving DecidableEq, Repr

inductive StopState where
  | healthy
  | broken
deriving DecidableEq, Repr

/-- An owner's own view of the zone and of the stop chain (R49, R54); no decision reads it. -/
structure PitView where
  zone : ZoneState
  stop : StopState
deriving DecidableEq, Repr

/-- The Zone Monitor (section 3.1). A pending return holds the moment, in milliseconds of `State.uptime`, at which the
input last began to show safety. -/
structure ZoneMonitor where
  zone : ZoneState
  zonePending : Option Nat
  stop : StopState
  stopPending : Option Nat
  /-- the curtain input as last sampled: it shows clear -/
  curtainClear : Bool
  /-- the stop input as last sampled: it shows healthy -/
  chainHealthy : Bool
deriving DecidableEq, Repr

/-- One lamp cell (R62). -/
inductive Lamp where
  | off
  | on
  | flash
deriving DecidableEq, Repr

/-- A horn tone (R61); a silent horn has none. -/
inductive Tone where
  | fault
  | zone
  | lift
deriving DecidableEq, Repr

/-! ### Lift -/

/-- The states of the lift group (section 4.2), in the order tabled. -/
inductive LiftState where
  | unknown
  | lowered
  | warning
  | raising
  | settling
  | raised
  | holding
  | lowering
  | faulted
deriving DecidableEq, Repr

inductive Direction where
  | up
  | down
deriving DecidableEq, Repr

inductive HoldReason where
  | zone
  | stopped
  | host
  | stepTimeout
  | level
  | overload
  | lag
  | recovered
deriving DecidableEq, Repr

/-- A node's condition (section 2.1). -/
inductive NodeCondition where
  | active
  | lost
deriving DecidableEq, Repr

/-- One step of a MOVE order: its index and its setpoint (R66). -/
structure LiftStep where
  index : Nat
  setpoint : Nat
deriving DecidableEq, Repr

/-- A column's order (R66); the steps of a MOVE are oldest first. -/
inductive ColumnOrder where
  | hold
  | move (steps : List LiftStep)
deriving DecidableEq, Repr

/-- A column record (section 4.1). -/
structure ColumnRec where
  condition : NodeCondition
  height : Option Nat
  load : Option Nat
  status : Option ColumnStatus
  current : Option Nat
  next : Option LiftStep
  lastAck : Nat
deriving DecidableEq, Repr

/-- The Lift Coordinator (section 4.2). `issued` is the setpoint of the latest step offered or issued in the present
run, from which R74 and R78 form the next one. -/
structure Lift where
  state : LiftState
  direction : Direction
  stepIndex : Nat
  finalIndex : Option Nat
  issued : Nat
  holdReason : Option HoldReason
  loopUp : Bool
  view : PitView
  columns : PerColumn ColumnRec
  orders : PerColumn ColumnOrder
deriving DecidableEq, Repr

/-- The particulars of a LIFT-STOPPED item, by its cause (R68, R75, R76, R79, R82). -/
inductive Particulars where
  | none
  | failedFirstCycle (cols : List Column)
  | level (highest lowest : Column) (spread : Nat)
  | overload (cols : List Column)
  | timeout (cols : List (Column × Option ColumnStatus))
  | lag (cols : List (Column × Option Nat × Option ColumnStatus))
  | lost (c : Column)
deriving DecidableEq, Repr

/-! ### Clamps -/

inductive ClampState where
  | opened
  | closing
  | closed
  | opening
  | faulted
deriving DecidableEq, Repr

inductive ClampCause where
  | timeout
  | stopped
  | lost
  | force
  | recovered
deriving DecidableEq, Repr

inductive ClampOrder where
  | opened
  | close
  | hold
deriving DecidableEq, Repr

/-- A clamp record (section 4.9). -/
structure Clamp where
  state : ClampState
  cause : Option ClampCause
  condition : NodeCondition
  jaw : Option Jaw
  force : Option Nat
  holding : Option Nat
  order : ClampOrder
deriving DecidableEq, Repr

/-- Clamp Control: its view of the loop and the two clamp records. -/
structure ClampControl where
  loopUp : Bool
  view : PitView
  recs : PerStation Clamp
deriving DecidableEq, Repr

/-! ### Heads -/

inductive HeadState where
  | parked
  | tracing
  | cutting
  | scanning
  | paused
  | returning
  | faulted
deriving DecidableEq, Repr

inductive HeadCause where
  | timeout
  | lost
  | recovered
deriving DecidableEq, Repr

inductive ScanMode where
  | verify
  | survey
deriving DecidableEq, Repr

/-- One pass of a pass list: its number and its depth (R169). -/
structure Pass where
  number : Nat
  depth : Geometry
deriving DecidableEq, Repr

/-- A station's work for a head, with its start point (section 5.6). -/
inductive HeadTask where
  | walk (start : Cursor)
  | passes (list : List Pass) (lateral : Nat)
  | scan (mode : ScanMode) (start : Cursor)
deriving DecidableEq, Repr

/-- A head's order (R102). -/
inductive HeadOrder where
  | halt
  | ret
  | walk (start : Cursor)
  | pass (remaining : List Pass) (lateral : Nat)
  | scan (mode : ScanMode) (start : Cursor)
deriving DecidableEq, Repr

/-- A head's latest report as Head Control keeps it: status, cursor and completion marks (section 5.6). -/
structure HeadLatest where
  status : HeadStatus
  cursor : Option Cursor
  passDone : Option Nat
  taskDone : Bool
deriving DecidableEq, Repr

/-- A head record (section 5.6); the insert pass count is non-volatile. -/
structure Head where
  condition : NodeCondition
  state : HeadState
  cause : Option HeadCause
  task : Option HeadTask
  pendingTask : Option HeadTask
  order : HeadOrder
  latest : Option HeadLatest
  insertCount : Nat
deriving DecidableEq, Repr

/-- Head Control: its views and the four head records. -/
structure HeadControl where
  loopUp : Bool
  view : PitView
  recs : PerHead Head
deriving DecidableEq, Repr

/-- What kind of task a task-complete mark ends. -/
inductive TaskKind where
  | walk
  | passes
  | scan
deriving DecidableEq, Repr

/-! ### The clock and the history store -/

/-- A stamp: pit time in seconds and 1/64 s with the clock's mark (R22). -/
structure Stamp where
  secs : Word32
  frac : Nat
  set : Bool
deriving DecidableEq, Repr

/-- A fleet position: unit / vehicle / bogie / axle (section 10.1). -/
structure Position where
  unit : Nat
  vehicle : Nat
  bogie : Nat
  axle : Nat
deriving DecidableEq, Repr

/-- The parameters of the limit checks, in their order (R125). -/
inductive Param where
  | sh
  | sd
  | qr
  | f
  | b
deriving DecidableEq, Repr

inductive BandOutcome where
  | low
  | inside
  | high
deriving DecidableEq, Repr

/-- The action a limit line chooses (R132). -/
inductive LimitAction where
  | nothing
  | note
  | hold
deriving DecidableEq, Repr

/-- What a finding is about (R126, R159). -/
inductive FindingKind where
  | param (p : Param)
  | lastTurn
  | excess
  | fallback
  | ceiling
deriving DecidableEq, Repr

/-- The wheel a finding names, or the wheelset. -/
inductive FindingWheel where
  | wheel (s : Side)
  | wheelset
  | none
deriving DecidableEq, Repr

/-- A finding of a trace or of a plan (R126, R159), with its three values as R201 tables them. -/
structure Finding where
  kind : FindingKind
  wheel : FindingWheel
  outcome : Option BandOutcome
  hold : Bool
  v1 : Option Geometry
  v2 : Option Geometry
  v3 : Option Geometry
deriving DecidableEq, Repr

/-- A wheel's trace status (R116). -/
inductive TraceStatus where
  | inProgress
  | good
  | incomplete
  | unresolved
  | saturated
deriving DecidableEq, Repr

/-- The results of extraction, each present only once derived (R116). -/
structure TraceResults where
  missLateral : Option Nat
  missCirc : Option Nat
  r70 : Option Geometry
  d : Option Geometry
  f : Option Geometry
  sh : Option Geometry
  tip : Option Nat
  sd : Option Geometry
  xs : Option Geometry
  qr : Option Geometry
deriving DecidableEq, Repr

/-- The cause of an INCONCLUSIVE scan result (R142). -/
inductive InconclusiveCause where
  | sweep
  | skipped
  | noDatum
deriving DecidableEq, Repr

/-- A wheel's scan result (R138, R142, R143). -/
inductive ScanResult where
  | inProgress
  | conform
  | low
  | high
  | inconclusive (cause : InconclusiveCause)
  | surveyed
  | noDatum
  | unfinished
deriving DecidableEq, Repr

inductive PlanKind where
  | single
  | joint
deriving DecidableEq, Repr

/-- The tolerance kind of a ceiling (section 9.6). -/
inductive ToleranceKind where
  | bogie
  | vehicle
deriving DecidableEq, Repr

/-- The cause that ends or interrupts an operation (section 5.4, R100). -/
inductive AbandonCause where
  | host
  | stopped
  | head
  | lift
  | clamp
  | power
deriving DecidableEq, Repr

/-- One wheel's part of a TRACED body (R128). -/
structure TracedWheel where
  status : TraceStatus
  results : TraceResults
deriving DecidableEq, Repr

/-- One wheel's part of a CUT body (R178). -/
structure CutWheel where
  radialCut : Geometry
  listed : Nat
  completed : Nat
  depth : Geometry
  finished : Geometry
  fromSweep : Bool
  result : ScanResult
deriving DecidableEq, Repr

/-- The body of a CUT entry (R178). -/
structure CutBody where
  profileUsed : Nat
  profileTried : Nat
  fallback : Bool
  kind : PlanKind
  bogieLowered : Bool
  planned : Stamp
  approved : List Finding
  wheels : PerSide CutWheel
  recuts : Nat
  accepted : Bool
deriving DecidableEq, Repr

/-- One wheel's part of a CUT-INTERRUPTED body (R100). -/
structure InterruptedWheel where
  passes : Nat
  depth : Geometry
  diameter : Geometry
deriving DecidableEq, Repr

/-- The body of a history entry, by its kind (section 10.2). -/
inductive EntryBody where
  | fitted (position : Position) (former : Option Position)
  /-- the cause is the serial that displaced the record, or none for HOST -/
  | unfitted (former : Position) (cause : Option Serial)
  | traced (wheels : PerSide TracedWheel) (b : Option Geometry) (profile : Option Nat) (findings : List Finding) (usable : Bool)
  | cut (body : CutBody)
  | cutInterrupted (cause : AbandonCause) (recuts : Nat) (wheels : PerSide InterruptedWheel)
  /-- reason SCRAP; the traced diameters, the profile tried with its provisional finals, the fallback with its own -/
  | condemned (traced : PerSide Geometry) (tried : Nat) (finals : PerSide Geometry) (fallback : Option (Nat × PerSide Geometry)) (ds : Geometry)
  | ceiling (value : Geometry) (former : Option Geometry) (kind : ToleranceKind) (df : Geometry) (cause : Serial) (deferred : Bool)
  /-- each changed field: its amend field number, its former and its new value -/
  | amended (changes : List (Nat × Option Geometry × Option Geometry))
deriving DecidableEq, Repr

/-- A history entry (section 10.2). -/
structure Entry where
  seq : Nat
  stamp : Stamp
  body : EntryBody
deriving DecidableEq, Repr

/-- A wheelset record (section 10.1). -/
structure WheelsetRecord where
  serial : Serial
  position : Option Position
  profile : Nat
  ds : Geometry
  dlt : Geometry
  diameters : PerSide Geometry
  ceiling : Option Geometry
  condemned : Bool
  matchDue : Bool
  retraceDue : Bool
  cutCount : Nat
  revision : Word32
  entries : List Entry
deriving DecidableEq, Repr

/-- An entry waiting in the export queue, with the serial of the record it came from (R187). -/
structure ExportEntry where
  serial : Serial
  entry : Entry
deriving DecidableEq, Repr

/-- The History Store (chapter 10); all of it is non-volatile. -/
structure History where
  records : List WheelsetRecord
  exportQueue : List ExportEntry
  counter : Nat
deriving DecidableEq, Repr

/-! ### Profiles -/

/-- One line of a limit set (R132). -/
structure LimitLine where
  lo : Geometry
  hi : Geometry
  low : LimitAction
  inside : LimitAction
  high : LimitAction
deriving DecidableEq, Repr

/-- A limit set: one line for each parameter (R132). -/
structure LimitSet where
  sh : LimitLine
  sd : LimitLine
  qr : LimitLine
  f : LimitLine
  b : LimitLine
deriving DecidableEq, Repr

/-- A profile record (R131). -/
structure Profile where
  name : Bytes
  sht : Geometry
  sdt : Geometry
  kf : Nat
  cmin : Geometry
  pmax : Geometry
  band : Geometry
  pad : Geometry
  fallback : Option Nat
  heights : List Geometry
  limits : LimitSet
deriving DecidableEq, Repr

/-- The content of one first part (R203): the profile with the heights so far, and the list length it declares. -/
structure LoadBuffer where
  slot : Nat
  partial_ : Profile
  length : Nat
deriving DecidableEq, Repr

/-- The Profile Table: its slots 1 to 8 as a sparse table (an empty slot is not listed) and the load buffer. -/
structure ProfileTable where
  slots : List (Nat × Profile)
  buffer : Option LoadBuffer
deriving DecidableEq, Repr

/-! ### Traces and scans -/

/-- The sample stored at one point. -/
structure Reading where
  radius : Geometry
  status : SampleStatus
deriving DecidableEq, Repr

/-- A trace record of one wheel (R116): its samples, its back-face offset, its status and its results. -/
structure TraceRecord where
  lateral : List (Nat × Reading)
  circ : List (Nat × Reading)
  backFace : Option Geometry
  status : TraceStatus
  results : TraceResults
deriving DecidableEq, Repr

/-- The station's trace (R127, R129). -/
structure StationTrace where
  wheels : PerSide TraceRecord
  b : Option Geometry
  findings : List Finding
  usable : Bool
  profile : Option Nat
  time : Stamp
deriving DecidableEq, Repr

/-- A scan's datum (R139). -/
inductive Datum where
  | none
  | radius (r : Geometry)
  | failed
deriving DecidableEq, Repr

/-- An out-of-band point (R140): its index, whether it is HIGH, and its deviation. -/
structure OutPoint where
  index : Nat
  high : Bool
  deviation : Geometry
deriving DecidableEq, Repr

/-- A sweep's status (R142). -/
inductive SweepStatus where
  | good
  | incomplete
  | saturated
deriving DecidableEq, Repr

/-- A scan record of one wheel (R138); `reported` is the head's latest reported cursor (R140). -/
structure ScanRecord where
  datum : Datum
  datumSample : Option Reading
  lateral : List (Nat × Reading)
  circ : List (Nat × Reading)
  reported : Option Cursor
  judged : Nat
  skips : Nat
  firstOut : Option OutPoint
  largest : Option OutPoint
  outCount : Nat
  missCirc : Option Nat
  sweep : Option SweepStatus
  d : Option Geometry
  f : Option Geometry
  result : ScanResult
deriving DecidableEq, Repr

/-- A scan in hand, or the results of the latest one (R138, R142, R145). -/
structure Scan where
  mode : ScanMode
  slot : Nat
  abandoned : Bool
  wheels : PerSide ScanRecord
deriving DecidableEq, Repr

/-- What the Trace Unit holds for one station. `held` is the station's trace, which is the saved pair while a trace is
in hand (R116, R129); `walk` is the pair of new records of a trace in hand; `scan` the scan records in hand. -/
structure TraceUnit where
  held : Option StationTrace
  walk : Option (PerSide TraceRecord)
  scan : Option Scan
deriving DecidableEq, Repr

/-! ### Plans -/

/-- The four terms of a radial requirement, in the order of R153's table. -/
inductive GoverningTerm where
  | flangeThickness
  | flangeHeight
  | outOfRound
  | cleanUp
deriving DecidableEq, Repr

/-- A share's figures for one wheel (R147). -/
structure WheelPlan where
  traced : Geometry
  governing : GoverningTerm
  a : Geometry
  c : Geometry
  final : Geometry
  count : Nat
  depth : Geometry
  last : Geometry
  recuts : Nat
  recutDepth : Geometry
deriving DecidableEq, Repr

inductive ShareOutcome where
  | planned
  | held
  | condemned
deriving DecidableEq, Repr

inductive CondemnCause where
  | flagged
  | scrap
deriving DecidableEq, Repr

inductive HeldReason where
  | limit
  | lastTurn
  | excess
  | nonconform
  | unverified
deriving DecidableEq, Repr

/-- A share of a plan (R147). The wheel figures are absent in the share of a wheelset condemned FLAGGED, for which no
arithmetic is made (R156). -/
structure Share where
  occupant : Serial
  outcome : ShareOutcome
  cause : Option CondemnCause
  profileUsed : Option Nat
  profileTried : Nat
  fallback : Bool
  bogieLowered : Bool
  target : Option Geometry
  wheels : Option (PerSide WheelPlan)
  findings : List Finding
  heldReason : Option HeldReason
  approved : Bool
deriving DecidableEq, Repr

/-- The place of a capture item (R151). -/
inductive CapturePlace where
  | own (st : StationId)
  | bogiePartner
  | otherBogie1
  | otherBogie2
deriving DecidableEq, Repr

/-- A capture item (R151); no serial is the mark EMPTY. -/
structure Capture where
  place : CapturePlace
  position : Option Position
  captured : Option (Serial × Word32)
deriving DecidableEq, Repr

/-- A plan (R147). -/
structure Plan where
  kind : PlanKind
  madeAt : Stamp
  btol : Geometry
  vtol : Geometry
  cvisit : Geometry
  captures : List Capture
  shares : PerStation (Option Share)
deriving DecidableEq, Repr

/-- The names of the two plans that the Cut Planner can hold. -/
inductive PlanSlot where
  | one
  | two
deriving DecidableEq, Repr

/-- The Cut Planner (chapter 8). -/
structure Planner where
  one : Option Plan
  two : Option Plan
deriving DecidableEq, Repr

/-! ### Stations -/

/-- The work states of a station (section 5.1), in the order tabled. -/
inductive WorkState where
  | vacant
  | mounted
  | tracing
  | traced
  | planned
  | held
  | cutting
  | scanning
  | paused
  | finished
  | condemned
deriving DecidableEq, Repr

inductive Operation where
  | trace
  | cut
  | verify
  | survey
deriving DecidableEq, Repr

/-- A head's pass progress in the cut in hand (section 5.1). -/
structure PassProgress where
  passes : Nat
  depth : Geometry
deriving DecidableEq, Repr

/-- A deferred ceiling (section 9.6); its reserved slot is the one that its presence counts (R188). -/
structure Deferred where
  value : Geometry
  cause : Serial
  kind : ToleranceKind
  df : Geometry
deriving DecidableEq, Repr

/-- A station record (section 5.1 and section 9.6). -/
structure Station where
  occupant : Option Serial
  work : WorkState
  operation : Option Operation
  prior : Option WorkState
  held : Option HeldReason
  reservation : Nat
  recuts : Nat
  progress : PerSide PassProgress
  deferred : Option Deferred
  cursor : PerSide (Option Cursor)
  part : PerSide Bool
  accepted : Bool
  plan : Option PlanSlot
  results : Option Scan
  /-- the trace claim held at the History Store for this station (R113) -/
  claim : Bool
  view : PitView
deriving DecidableEq, Repr

/-! ### The pit loop -/

/-- The states of the pit loop (chapter 2). -/
inductive LoopState where
  | dark
  | discovering
  | faulted
  | mismatch
  | running
deriving DecidableEq, Repr

/-- The three loop error kinds (R29). -/
inductive LoopError where
  | check
  | silent
  | order
deriving DecidableEq, Repr

/-- The outcome of a node's cycle (R29). -/
inductive CycleOutcome where
  | good (r : Readings)
  | failed (e : LoopError)
deriving DecidableEq, Repr

/-- A node table entry (section 2.1). -/
structure NodeEntry where
  position : Nat
  kind : NodeKind
  serial : Word32
  role : Option Role
  condition : NodeCondition
  count : Nat
  failures : List LoopError
  latest : Option Readings
deriving DecidableEq, Repr

/-- The fault record of the last segment fault. -/
structure SegmentFault where
  position : Nat
  outcome : SegmentOutcome
  localized : Bool
deriving DecidableEq, Repr

/-- One count per loop error kind (R33). -/
structure Tallies where
  check : Nat
  silent : Nat
  order : Nat
deriving DecidableEq, Repr

/-- What the DISCOVER channel is being waited on for (section 2.3). -/
inductive DiscoveryWait where
  | none
  | darkHold
  | diagnosis
  | query (attempt : Nat)
deriving DecidableEq, Repr

/-- An order that a cycle sends to a node (R28). -/
inductive NodeOrder where
  | column (o : ColumnOrder)
  | clamp (o : ClampOrder)
  | head (o : HeadOrder)
deriving DecidableEq, Repr

/-- The Loop Controller (chapter 2). `cycle` is the number of the next cycle to open; `wait` the discovery step in
flight; `powered` how many segments carry loop power; `firstCycle` says that roles are assigned and the first cycle has
not closed yet; `sent` holds the orders that the last cycle's opening sent. -/
structure LoopControl where
  state : LoopState
  table : List NodeEntry
  chainEnd : Nat
  discovery : Option Nat
  cycle : Byte
  errors : Nat
  tallies : Tallies
  fault : Option SegmentFault
  wait : DiscoveryWait
  powered : Nat
  firstCycle : Bool
  sent : List (Nat × NodeOrder)
deriving DecidableEq, Repr

/-! ### Settings -/

/-- A set of loop error kinds. -/
structure ErrorKinds where
  check : Bool
  silent : Bool
  order : Bool
deriving DecidableEq, Repr

/-- The pit map: a loop position for each of the ten roles. -/
structure PitMap where
  columns : PerColumn Nat
  heads : PerHead Nat
  clamps : PerStation Nat
deriving DecidableEq, Repr

/-- The Settings Store (section 1.6); all of it is non-volatile. -/
structure Settings where
  raiseHeight : Nat
  liftStep : Nat
  levelTolerance : Nat
  loadLimit : Nat
  stepTimeout : Nat
  settleTime : Nat
  lowerPace : Nat
  warnTime : Nat
  clampTimeout : Nat
  headTimeout : Nat
  btol : Nat
  vtol : Nat
  cvisit : Nat
  insertLife : Nat
  missingTolerance : Nat
  exportThreshold : Nat
  errorIndex : Nat
  errorKinds : ErrorKinds
  pitMap : PitMap
deriving DecidableEq, Repr

/-! ### Timers -/

inductive ChannelCondition where
  | idle
  | counting
  | frozen
deriving DecidableEq, Repr

/-- A channel's record (R55); times in milliseconds. -/
structure TimerRec where
  condition : ChannelCondition
  remaining : Nat
  loaded : Nat
  count : Word16
deriving DecidableEq, Repr

/-- The Timer Bank (section 3.2): the zone gate and the eleven channels. -/
structure TimerBank where
  gateOpen : Bool
  warn : TimerRec
  step : TimerRec
  settle : TimerRec
  pace : TimerRec
  clamp : PerStation TimerRec
  head : PerHead TimerRec
  discover : TimerRec
deriving DecidableEq, Repr

/-! ### Warning Outputs -/

/-- What the export notice carries (R190): the queue's length, the threshold, and whether the free slots equal the
total reservation. -/
structure ExportView where
  length : Nat
  threshold : Nat
  full : Bool
deriving DecidableEq, Repr

/-- The view of the pit (R58); an item is absent until its owner's first notice is taken. -/
structure View where
  lift : Option LiftState
  clamps : PerStation (Option ClampState)
  nodes : List (Nat × NodeCondition)
  loop : Option LoopState
  stations : PerStation (Option WorkState)
  zone : Option (ZoneState × Bool)
  stop : Option (StopState × Bool)
  /-- whether the attention queue is empty, and whether it holds an item of class SAFETY or FAULT -/
  attention : Option (Bool × Bool)
  exports : Option ExportView
deriving DecidableEq, Repr

/-- One item of the view, as a notice carries it (R58). -/
inductive ViewItem where
  | lift (s : LiftState)
  | clamp (st : StationId) (s : ClampState)
  | tableEmpty
  | node (position : Nat) (c : NodeCondition)
  | loop (s : LoopState)
  | station (st : StationId) (s : WorkState)
  | zone (s : ZoneState) (pending : Bool)
  | stop (s : StopState) (pending : Bool)
  | attention (empty urgent : Bool)
  | exports (v : ExportView)
deriving DecidableEq, Repr

/-- The Warning Outputs (sections 3.3 and 3.4): the view, the mute mark, the tone sounding with the moment its pattern
began, the lamp table of sixteen cells, and the cells that the panel was last sent. -/
structure Warnings where
  view : View
  muted : Bool
  tone : Option Tone
  toneSince : Nat
  cells : List Lamp
  shown : List Lamp
deriving DecidableEq, Repr

/-! ### The attention queue -/

/-- The 17 kinds of attention item, in the order of section 1.5. -/
inductive AttentionKind where
  | zone
  | estop
  | loopState
  | recovery
  | clockUnset
  | exportDue
  | loopQuality
  | liftStopped
  | liftDone
  | clampFault
  | cutStopped
  | traceEnd
  | planEnd
  | cutEnd
  | nodeLost
  | segmentFault
  | insertDue
deriving DecidableEq, Repr

/-- The source of an attention item. -/
inductive Source where
  | pit
  | lift
  | station (st : StationId)
  | position (p : Nat)
deriving DecidableEq, Repr

/-- The particulars of one column in LIFT-STOPPED (section 4.2). -/
structure ColumnDetail where
  column : Column
  condition : NodeCondition
  height : Option Nat
  load : Option Nat
  status : Option ColumnStatus
  lastAck : Nat
deriving DecidableEq, Repr

/-- The detail word of PLAN-END's outcome (R162). -/
inductive PlanEndOutcome where
  | planned
  | held
  | condemned
  | stale
deriving DecidableEq, Repr

/-- The field that caused a withdrawal (R164). -/
inductive StaleField where
  | condemned
  | ds
  | ceiling
deriving DecidableEq, Repr

/-- The wheel figures that PLAN-END and the PLAN reply report (R161, R162). -/
structure WheelFigures where
  governing : GoverningTerm
  a : Geometry
  c : Geometry
  final : Geometry
  count : Nat
deriving DecidableEq, Repr

/-- The detail of PLAN-END (R162, R164). -/
structure PlanEndDetail where
  outcome : PlanEndOutcome
  heldReason : Option HeldReason
  cause : Option CondemnCause
  kind : Option PlanKind
  profileTried : Option Nat
  profileUsed : Option Nat
  fallback : Bool
  bogieLowered : Bool
  wheels : Option (PerSide WheelFigures)
  findings : Nat
  anyHold : Bool
  entryWritten : Bool
  field : Option StaleField
deriving DecidableEq, Repr

/-- What became of a partner place at a finish (R177, R179). -/
inductive CeilingFate where
  | notNeeded
  | written
  | deferred
deriving DecidableEq, Repr

/-- One wheel's part of CUT-END (R171, R177). -/
structure CutEndWheel where
  result : ScanResult
  firstOut : Option OutPoint
  skips : Nat
  sweep : Option SweepStatus
  d : Option Geometry
deriving DecidableEq, Repr

/-- One wheel's part of a survey's TRACE-END (R145). -/
structure SurveyWheel where
  result : ScanResult
  largest : Option OutPoint
  outCount : Nat
  firstOut : Option OutPoint
  skips : Nat
deriving DecidableEq, Repr

/-- The data of CUT-STOPPED paused, and of the STATION PAUSE reply (R96). -/
structure PauseData where
  /-- cause HOST, or ZONE -/
  byZone : Bool
  operation : Option Operation
  cursors : PerSide (Option Cursor)
  progress : PerSide PassProgress
deriving DecidableEq, Repr

/-- The detail of a posting, in the form its posting rule gives. -/
inductive Detail where
  | empty
  | zone (breach : Bool)
  | estop (broken : Bool)
  | loopRunning (chainEnd : Nat)
  | loopFaulted (chainEnd position : Nat)
  | loopMismatch (chainEnd first columns heads clamps : Nat)
  | recovery (st : StationId) (occupant : Option Serial) (work : WorkState) (operation : Option Operation) (written : Bool)
  | exportDue (length threshold free reserved lowest highest : Nat)
  | loopQuality (tallies : Tallies) (threshold : Nat)
  | liftStopped (state : LiftState) (reason : Option HoldReason) (direction : Direction) (stepIndex : Nat)
      (columns : List ColumnDetail) (particulars : Particulars)
  | liftDone (raised : Bool) (heights loads : PerColumn (Option Nat))
  | clampFault (st : StationId) (cause : ClampCause) (before : ClampState) (jaw : Option Jaw) (force holding : Option Nat)
  | cutPaused (data : PauseData)
  | cutAbandoned (dismounted : Bool) (cause : AbandonCause) (wheels : PerSide PassProgress)
  | verifyAbandoned (cause : AbandonCause) (work : WorkState)
  | traceFailed (operation : Operation) (cause : AbandonCause)
  | traceDone (usable : Bool) (wheels : PerSide (TraceStatus × Option Geometry)) (findings : Nat) (anyHold : Bool)
  | surveyDone (slot : Nat) (wheels : PerSide SurveyWheel)
  | planEnd (d : PlanEndDetail)
  | verifyHeld (recuts : Nat) (wheels : PerSide CutEndWheel)
  | cutFinished (accepted : Bool) (recuts : Nat) (wheels : PerSide (ScanResult × Geometry)) (df : Geometry)
      (partners : List (CapturePlace × CeilingFate))
  | nodeLost (role : Role) (kind : NodeKind) (serial : Word32) (condition : NodeCondition) (failures : List LoopError)
  | segmentFault (outcome : SegmentOutcome) (localized : Bool) (chainEnd : Nat)
  | insertDue (h : HeadId) (count life : Nat) (beyond : Bool)
deriving DecidableEq, Repr

/-- An attention item (section 1.5); its class is fixed by its kind. -/
structure AttentionItem where
  kind : AttentionKind
  source : Source
  detail : Detail
  repeats : Nat
  first : Stamp
  last : Stamp
deriving DecidableEq, Repr

/-! ### Replies -/

/-- The reasons of a REFUSED reply, in the order of their codes (R201). -/
inductive Reason where
  | wrongState
  | liftNotRaised
  | liftMoving
  | clampNotClosed
  | clampNotOpen
  | zoneBreached
  | stopped
  | loopNotRunning
  | nodeUnavailable
  | noRecord
  | recordExists
  | storeFull
  | historyFull
  | alreadyMounted
  | notSameBogie
  | stalePlan
  | insertDue
  | traceUnusable
  | unsafe_
  | noProfile
  | profileInUse
  | badField
  | empty
deriving DecidableEq, Repr

/-- The refusal detail that follows a reason (R201). -/
inductive RefusalDetail where
  | none
  | scrap (s : Side)
  | room (count reserved sought : Nat)
  | places (ps : List CapturePlace)
  | head (h : HeadId)
  | offset (n : Nat)
  | cut (st : StationId) (s : Side) (c : Geometry)
deriving DecidableEq, Repr

/-- What STATUS returns (R24). -/
structure StatusData where
  loop : LoopState
  lift : LiftState
  stations : PerStation WorkState
  zone : ZoneState
  stop : StopState
  attention : Nat
  exports : Nat
  accepted : Nat
  busy : Nat
  discarded : Nat
  time : Stamp
deriving DecidableEq, Repr

/-- One share's part of the PLAN reply (R161). -/
structure PlanReply where
  outcome : ShareOutcome
  heldReason : Option HeldReason
  profileUsed : Option Nat
  fallback : Bool
  bogieLowered : Bool
  wheels : Option (PerSide WheelFigures)
deriving DecidableEq, Repr

/-- What RECORD READ's first part returns beside the record (R198): the station of which it is the occupant, that
station's work state, and its deferred ceiling's value and cause serial. -/
structure OccupantData where
  station : StationId
  work : WorkState
  deferred : Option (Geometry × Serial)
deriving DecidableEq, Repr

/-- The use of a profile slot at one station (R136): a plan of the station uses it, and its survey compares with it. -/
structure SlotUse where
  plan : Bool
  survey : Bool
deriving DecidableEq, Repr

/-- The data of a DONE or ADJUSTED reply. -/
inductive ReplyData where
  | empty
  | identify (revision : Bytes)
  | status (d : StatusData)
  | clock (secs : Word32)
  | setting (value : Nat)
  | settingKinds (k : ErrorKinds)
  | pitMap (m : PitMap)
  | settingRange (value lo hi : Nat)
  | item (i : AttentionItem)
  | horn (before after : Option Tone) (faults : Nat)
  | panel (cells : List Lamp) (tone : Option Tone) (muted : Bool)
  | nodeList (state : LoopState) (chainEnd : Nat) (fault : Option SegmentFault) (table : List NodeEntry)
  | liftHeld (heights : PerColumn (Option Nat))
  | paused (d : PauseData)
  | stationState (work : WorkState)
  | stationRecord (st : Station) (clamp : Clamp) (heads : PerSide Head)
  | stationTrace (held : Option StationTrace) (walk : Option (PerSide TraceRecord)) (cursors : PerSide (Option Cursor))
  | stationPlan (st : StationId) (plan : Option Plan)
  | stationScan (results : Option Scan) (scan : Option Scan)
  | shareFindings (findings : List Finding)
  | insertCount (before : Nat)
  | profileLoaded (slot : Nat) (before : Bool)
  | profileStaged (slot : Nat)
  | profileFirst (p : Profile) (use : PerStation SlotUse)
  | profileSecond (heights : List Geometry)
  | planned (shares : List PlanReply)
  | findings (fs : List Finding)
  | accepted (finished : PerSide Geometry) (df : Geometry) (written : List (Serial × Geometry))
  | recordEntered (revision : Word32) (displaced : Option Serial)
  | recordFirst (r : WheelsetRecord) (occ : Option OccupantData)
  | recordEntry (part parts : Nat) (serial : Serial) (revision : Word32) (e : Entry)
  | recordFitted (unchanged : Bool) (revision : Word32) (displaced : Option Serial)
  | recordAmended (unchanged : Bool) (revision : Word32) (fields : List Nat)
  | recordRetired (moved : Nat)
  | exportTaken (length : Nat) (e : ExportEntry)
deriving DecidableEq, Repr

/-- The status of a reply with what follows it (R9, R201). -/
inductive ReplyBody where
  | done (d : ReplyData)
  | started
  | refused (r : Reason) (d : RefusalDetail)
  | busy
  | malformed
  | adjusted (d : ReplyData)
deriving DecidableEq, Repr

/-- A reply waiting in transmit order (R6), with the tag and kind of the request it answers. -/
structure Reply where
  tag : Byte
  kind : Byte
  body : ReplyBody
deriving DecidableEq, Repr

/-- A good request frame (section 1.1). -/
structure Frame where
  tag : Byte
  kind : Byte
  body : Bytes
deriving DecidableEq, Repr

/-- The Link Interface (chapter 1). `restarting` is the time between the taking of RESTART and the coming up (R25);
`sentFrame` holds the bytes of the reply frame that the transmitter last sent. -/
structure Link where
  inFrame : Bool
  queue : List Frame
  backlog : List Reply
  accepted : Nat
  busy : Nat
  discarded : Nat
  restarting : Bool
  sentFrame : Bytes
deriving DecidableEq, Repr

/-! ### Notices under way -/

/-- A block that keeps a view of the zone and of the stop chain (R49): the owners that the Zone Monitor notifies. -/
inductive PitOwner where
  | lift
  | clamps
  | heads
  | station (st : StationId)
deriving DecidableEq, Repr

/-- A notice, report or posting that one block has handed to another and that the other has not yet taken
(section 4.7 of the opening file). -/
inductive Notice where
  | posting (kind : AttentionKind) (source : Source) (detail : Detail)
  | view (src : ViewSource) (item : ViewItem)
  | expiry (ch : Channel) (count : Word16)
  /-- a notice of a change of the zone or of the stop chain that changes nothing at its owner but the view: the clear
  and the healthy notice at each owner, the breach notice at Clamp Control (R50, R51, R53) -/
  | ownView (owner : PitOwner) (input : PitInput)
  | gateClose
  | gateOpen
  | liftBreach
  | liftBreak
  | clampBreak
  | headBreach
  | headBreak
  | stationBreach (st : StationId)
  | stationBreak (st : StationId)
  | loopDown (owner : LoopOwner)
  | loopUp (owner : LoopOwner) (outcomes : List (Role × CycleOutcome))
  | report (role : Role) (r : Readings)
  | lost (role : Role)
  | regained (role : Role) (r : Readings)
  | task (h : HeadId) (t : HeadTask)
  | halt (st : StationId)
  | withdraw (st : StationId)
  | traceSamples (h : HeadId) (samples : List Sample) (backFace : Option Geometry)
  | scanSamples (h : HeadId) (samples : List Sample) (cursor : Option Cursor)
  | passDone (h : HeadId) (number : Nat)
  | taskDone (h : HeadId) (kind : TaskKind)
  | liftFaulted (st : StationId)
  | clampFailed (st : StationId)
  | headFailed (st : StationId)
  | recordChanged (st : StationId) (r : WheelsetRecord)
deriving DecidableEq, Repr

/-! ### The state -/

/-- The WP620. `uptime` counts the milliseconds since power was applied; `pending` is the queue of the commands that
wait, first in first out. -/
structure State where
  powered : Bool
  uptime : Nat
  clock : Stamp
  link : Link
  attention : List AttentionItem
  settings : Settings
  loop : LoopControl
  zone : ZoneMonitor
  timers : TimerBank
  warnings : Warnings
  lift : Lift
  clamps : ClampControl
  stations : PerStation Station
  heads : HeadControl
  traces : PerStation TraceUnit
  profiles : ProfileTable
  planner : Planner
  history : History
  notices : List Notice
  pending : List Instr
deriving DecidableEq, Repr

/-- The reasons a step can stop with a fault. There are none: every event of the spec leaves the part in a next state. -/
inductive Fault where
deriving DecidableEq, Repr

/-- The reasons a command can be refused. -/
inductive Refusal where
  /-- Raised by `exec` alone, for a command that has no meaning yet; safe, since the run stops. No arm raises it now. -/
  | notModelled (mnemonic : String)
deriving DecidableEq, Repr

/-! ### Reset -/

/-- The starting view of an owner: breached and broken (R49). -/
def startView : PitView := { zone := .breached, stop := .broken }

/-- An IDLE channel, as at power-up (R55). -/
def idleTimer : TimerRec := { condition := .idle, remaining := 0, loaded := 0, count := 0 }

/-- The Timer Bank at power-up, with the dark hold of discovery begun (R44, R55, R56). -/
def startTimers : TimerBank :=
  { gateOpen := false, warn := idleTimer, step := idleTimer, settle := idleTimer, pace := idleTimer,
    clamp := .both idleTimer, head := .both (.both idleTimer),
    discover := { condition := .counting, remaining := 500, loaded := 500, count := 1 } }

/-- The Loop Controller at power-up: DARK, in the dark hold (R44). -/
def startLoop : LoopControl :=
  { state := .dark, table := [], chainEnd := 0, discovery := none, cycle := 0, errors := 0,
    tallies := { check := 0, silent := 0, order := 0 }, fault := none, wait := .darkHold, powered := 0,
    firstCycle := false, sent := [] }

/-- A column record at power-up (section 4.2). -/
def startColumn : ColumnRec :=
  { condition := .active, height := none, load := none, status := none, current := none, next := none, lastAck := 0 }

/-- The Lift Coordinator at power-up (section 4.2). -/
def startLift : Lift :=
  { state := .unknown, direction := .up, stepIndex := 0, finalIndex := none, issued := 0, holdReason := none,
    loopUp := false, view := startView, columns := .all startColumn, orders := .all .hold }

/-- A clamp record at power-up (section 4.9). -/
def startClamp : Clamp :=
  { state := .opened, cause := none, condition := .active, jaw := none, force := none, holding := none, order := .hold }

def startClamps : ClampControl := { loopUp := false, view := startView, recs := .both startClamp }

/-- A head record at power-up (section 5.6), with the insert pass count it kept. -/
def startHead (insertCount : Nat) : Head :=
  { condition := .active, state := .parked, cause := none, task := none, pendingTask := none, order := .halt,
    latest := none, insertCount := insertCount }

/-- Head Control at power-up, with the insert pass counts kept. -/
def startHeads (counts : PerHead Nat) : HeadControl :=
  { loopUp := false, view := startView, recs := counts.map (·.map startHead) }

/-- The view before any notice has been taken (R58). -/
def startViewOfPit : View :=
  { lift := none, clamps := .both none, nodes := [], loop := none, stations := .both none, zone := none, stop := none,
    attention := none, exports := none }

/-- The Warning Outputs at power-up: silent, SOUNDING, every cell OFF (R59, R61, R62). -/
def startWarnings : Warnings :=
  { view := startViewOfPit, muted := false, tone := none, toneSince := 0, cells := List.replicate 16 .off,
    shown := List.replicate 16 .off }

/-- The Zone Monitor at power-up (R49). -/
def startZone : ZoneMonitor :=
  { zone := .breached, zonePending := none, stop := .broken, stopPending := none, curtainClear := false,
    chainHealthy := false }

/-- The Link Interface at power-up (R2, R6, R8, R26). -/
def startLink : Link :=
  { inFrame := false, queue := [], backlog := [], accepted := 0, busy := 0, discarded := 0, restarting := false,
    sentFrame := [] }

/-- Pass progress of 0 passes and 0 depth for each head. -/
def noProgress : PerSide PassProgress := .both { passes := 0, depth := 0 }

/-- A VACANT station record, as at manufacture (R92). -/
def vacantStation : Station :=
  { occupant := none, work := .vacant, operation := none, prior := none, held := none, reservation := 0, recuts := 0,
    progress := noProgress, deferred := none, cursor := .both none, part := .both false, accepted := false,
    plan := none, results := none, claim := false, view := startView }

/-- The Trace Unit's empty holding for a station. -/
def emptyTrace : TraceUnit := { held := none, walk := none, scan := none }

/-- The settings at their defaults (section 1.6). -/
def defaultSettings : Settings :=
  { raiseHeight := 1200, liftStep := 100, levelTolerance := 30, loadLimit := 1500, stepTimeout := 80, settleTime := 30,
    lowerPace := 40, warnTime := 50, clampTimeout := 100, headTimeout := 300, btol := 100, vtol := 300, cvisit := 800,
    insertLife := 24, missingTolerance := 4, exportThreshold := 48, errorIndex := 4,
    errorKinds := { check := true, silent := true, order := true },
    pitMap := { columns := ⟨1, 2, 3, 4⟩, heads := ⟨⟨5, 6⟩, ⟨7, 8⟩⟩, clamps := ⟨9, 10⟩ } }

/-- The pit time at power-up (R20). -/
def startClock : Stamp := { secs := 0, frac := 0, set := false }

/-- The notices that the owners hand the Warning Outputs once as they come up (R58), for a part fresh from
manufacture. -/
def startNotices : List Notice :=
  [.view .lift (.lift .unknown), .view .clamps (.clamp .A .opened), .view .clamps (.clamp .B .opened),
   .view .loop .tableEmpty, .view .loop (.loop .dark), .view (.station .A) (.station .A .vacant),
   .view (.station .B) (.station .B .vacant), .view .zone (.zone .breached false), .view .zone (.stop .broken false),
   .view .attention (.attention false false),
   .view .history (.exports { length := 0, threshold := 48, full := false })]

/-- The machine right after reset: a WP620 as it leaves manufacture, to which power has just been applied. The
attention queue holds the CLOCK-UNSET item of R15. -/
def State.reset : State :=
  { powered := true, uptime := 0, clock := startClock, link := startLink,
    attention := [{ kind := .clockUnset, source := .pit, detail := .empty, repeats := 1, first := startClock, last := startClock }],
    settings := defaultSettings, loop := startLoop, zone := startZone, timers := startTimers,
    warnings := startWarnings, lift := startLift, clamps := startClamps, stations := .both vacantStation,
    heads := startHeads (.both (.both 0)), traces := .both emptyTrace,
    profiles := { slots := [], buffer := none }, planner := { one := none, two := none },
    history := { records := [], exportQueue := [], counter := 0 },
    notices := startNotices, pending := [] }

end Sys2Proof.Machine
end

