-- ==== Sys2Proof/Machine/Ops.lean ====
section
/-! DEFINITION. The operations that the commands share: the updates of the state, the notices under way between the
blocks, postings, the Timer Bank, the records and the export queue, and the frame of one event. -/

namespace Sys2Proof.Machine

/-! ### One update per field -/

def State.setPowered (s : State) (x : Bool) : State := { s with powered := x }
def State.setUptime (s : State) (x : Nat) : State := { s with uptime := x }
def State.setClock (s : State) (x : Stamp) : State := { s with clock := x }
def State.setLink (s : State) (x : Link) : State := { s with link := x }
def State.setAttention (s : State) (x : List AttentionItem) : State := { s with attention := x }
def State.setSettings (s : State) (x : Settings) : State := { s with settings := x }
def State.setLoop (s : State) (x : LoopControl) : State := { s with loop := x }
def State.setZone (s : State) (x : ZoneMonitor) : State := { s with zone := x }
def State.setTimers (s : State) (x : TimerBank) : State := { s with timers := x }
def State.setWarnings (s : State) (x : Warnings) : State := { s with warnings := x }
def State.setLift (s : State) (x : Lift) : State := { s with lift := x }
def State.setClamps (s : State) (x : ClampControl) : State := { s with clamps := x }
def State.setStations (s : State) (x : PerStation Station) : State := { s with stations := x }
def State.setHeads (s : State) (x : HeadControl) : State := { s with heads := x }
def State.setTraces (s : State) (x : PerStation TraceUnit) : State := { s with traces := x }
def State.setProfiles (s : State) (x : ProfileTable) : State := { s with profiles := x }
def State.setPlanner (s : State) (x : Planner) : State := { s with planner := x }
def State.setHistory (s : State) (x : History) : State := { s with history := x }
def State.setNotices (s : State) (x : List Notice) : State := { s with notices := x }
def State.setPending (s : State) (x : List Instr) : State := { s with pending := x }

/-- Station `st`'s record. -/
def State.station (s : State) (st : StationId) : Station := s.stations.get st
/-- The state with station `st`'s record replaced. -/
def State.setStation (s : State) (st : StationId) (x : Station) : State := s.setStations (s.stations.set st x)
/-- Clamp `st`'s record. -/
def State.clamp (s : State) (st : StationId) : Clamp := s.clamps.recs.get st
/-- The state with clamp `st`'s record replaced. -/
def State.setClamp (s : State) (st : StationId) (x : Clamp) : State :=
  s.setClamps { s.clamps with recs := s.clamps.recs.set st x }
/-- Head `h`'s record. -/
def State.head (s : State) (h : HeadId) : Head := headGet s.heads.recs h
/-- The state with head `h`'s record replaced. -/
def State.setHead (s : State) (h : HeadId) (x : Head) : State :=
  s.setHeads { s.heads with recs := headSet s.heads.recs h x }
/-- What the Trace Unit holds for station `st`. -/
def State.traceUnit (s : State) (st : StationId) : TraceUnit := s.traces.get st
/-- The state with the Trace Unit's holding for station `st` replaced. -/
def State.setTraceUnit (s : State) (st : StationId) (x : TraceUnit) : State := s.setTraces (s.traces.set st x)

/-! ### Notices under way -/

/-- A path on which notices keep their order (R30: the reports of one node reach its owner in cycle order; section 4.7
leaves notices of different paths unordered). DEDUCED, log entry 5. -/
inductive Lane where
  | view (src : ViewSource)
  | timer (ch : Channel)
  | gate
  | node (r : Role)
  | toHeads (st : StationId)
  | fromHead (h : HeadId)
  | record (st : StationId)
deriving DecidableEq, Repr

/-- The block that owns a role (section 2.1). -/
def ownerOf : Role → LoopOwner
  | .column _ => .lift
  | .head _ => .heads
  | .clamp _ => .clamps

/-- The roles an owner owns, in the order of section 1.6. -/
def rolesOf (o : LoopOwner) : List Role := roles.filter (fun r => ownerOf r == o)

/-- The paths a notice travels. An owner's loop-up and loop-down notices travel with the reports of all its nodes. -/
def Notice.lanes : Notice → List Lane
  | .view src _ => [.view src]
  | .expiry ch _ => [.timer ch]
  | .gateClose => [.gate]
  | .gateOpen => [.gate]
  | .loopDown o => (rolesOf o).map .node
  | .loopUp o _ => (rolesOf o).map .node
  | .report r _ => [.node r]
  | .lost r => [.node r]
  | .regained r _ => [.node r]
  | .task h _ => [.toHeads h.station]
  | .halt st => [.toHeads st]
  | .withdraw st => [.toHeads st]
  | .traceSamples h _ _ => [.fromHead h]
  | .scanSamples h _ _ => [.fromHead h]
  | .passDone h _ => [.fromHead h]
  | .taskDone h _ => [.fromHead h]
  | .recordChanged st _ => [.record st]
  | .posting _ _ _ => []
  | .ownView _ _ => []
  | .liftBreach => []
  | .liftBreak => []
  | .clampBreak => []
  | .headBreach => []
  | .headBreak => []
  | .stationBreach _ => []
  | .stationBreak _ => []
  | .liftFaulted _ => []
  | .clampFailed _ => []
  | .headFailed _ => []

/-- Whether an earlier notice must be taken before a later one. -/
def Notice.before (earlier later : Notice) : Bool := earlier.lanes.any (fun l => later.lanes.contains l)

/-- The oldest notice that `p` picks, with the notices that remain; none where an older notice of its own path must be
taken first. -/
def takeNotice (p : Notice → Bool) : List Notice → Option (Notice × List Notice)
  | [] => none
  | n :: ns =>
    if p n then some (n, ns)
    else
      match takeNotice p ns with
      | none => none
      | some (m, rest) => if n.before m then none else some (m, n :: rest)

/-- A notice that the block `src` hands the Warning Outputs (R58). -/
def isView (src : ViewSource) : Notice → Bool
  | .view x _ => x == src
  | _ => false

/-- An expiry notice of a channel (R57). -/
def isExpiry (ch : Channel) : Notice → Bool
  | .expiry c _ => c == ch
  | _ => false

/-- A task handed to a head (R103). -/
def isTask (h : HeadId) : Notice → Bool
  | .task x _ => x == h
  | _ => false

/-- The samples of a walk report of a head (R104, R116). -/
def isTraceSamples (h : HeadId) : Notice → Bool
  | .traceSamples x _ _ => x == h
  | _ => false

/-- The samples of a scan report of a head (R104, R138). -/
def isScanSamples (h : HeadId) : Notice → Bool
  | .scanSamples x _ _ => x == h
  | _ => false

/-- A pass completion of a head (R104, R169). -/
def isPassDone (h : HeadId) : Notice → Bool
  | .passDone x _ => x == h
  | _ => false

/-- A record-changed notice for a station (R184). -/
def isRecordChanged (st : StationId) : Notice → Bool
  | .recordChanged x _ => x == st
  | _ => false

/-- Hand notices on: they join those under way. -/
def send (s : State) (ns : List Notice) : State := s.setNotices (s.notices ++ ns)

/-- Take the oldest notice that `p` picks and let `act` act on it; where none is under way the event does not occur and
nothing changes (DESIGN CHOICE, log entry 4). -/
def onNotice (s : State) (p : Notice → Bool) (act : Notice → State → State) : State :=
  match takeNotice p s.notices with
  | none => s
  | some (n, rest) => act n (s.setNotices rest)

/-- A posting handed to the Attention Queue (R10). -/
def post (s : State) (kind : AttentionKind) (source : Source) (detail : Detail) : State :=
  send s [.posting kind source detail]

/-! ### The Timer Bank (R55 to R57) -/

def TimerBank.get (b : TimerBank) : Channel → TimerRec
  | .warn => b.warn
  | .step => b.step
  | .settle => b.settle
  | .pace => b.pace
  | .clamp st => b.clamp.get st
  | .head h => headGet b.head h
  | .discover => b.discover

def TimerBank.set (b : TimerBank) (ch : Channel) (x : TimerRec) : TimerBank :=
  match ch with
  | .warn => { b with warn := x }
  | .step => { b with step := x }
  | .settle => { b with settle := x }
  | .pace => { b with pace := x }
  | .clamp st => { b with clamp := b.clamp.set st x }
  | .head h => { b with head := headSet b.head h x }
  | .discover => { b with discover := x }

/-- Whether a channel is gated by the zone (section 3.2). -/
def channelGated : Channel → Bool
  | .warn => true
  | .settle => true
  | .pace => true
  | .head _ => true
  | .step => false
  | .clamp _ => false
  | .discover => false

/-- Whether a channel ignores a start while it runs (section 3.2). -/
def channelIgnoresStart : Channel → Bool
  | .warn => true
  | .pace => true
  | .step => false
  | .settle => false
  | .clamp _ => false
  | .head _ => false
  | .discover => false

/-- Whether a channel is continuous (section 3.2). -/
def channelContinuous : Channel → Bool
  | .pace => true
  | .warn => false
  | .step => false
  | .settle => false
  | .clamp _ => false
  | .head _ => false
  | .discover => false

/-- The duration a start loads, in milliseconds: the channel's setting, in tenths of a second (R55). DISCOVER has no
setting; the Loop Controller names its duration. -/
def channelMs (g : Settings) : Channel → Nat
  | .warn => g.warnTime * 100
  | .step => g.stepTimeout * 100
  | .settle => g.settleTime * 100
  | .pace => g.lowerPace * 100
  | .clamp _ => g.clampTimeout * 100
  | .head _ => g.headTimeout * 100
  | .discover => 0

/-- The record of a channel after a start of `ms` milliseconds (R55). -/
def startedRec (gateOpen : Bool) (ch : Channel) (r : TimerRec) (ms : Nat) : TimerRec :=
  if r.condition = .idle ∨ channelIgnoresStart ch = false then
    { condition := if channelGated ch && !gateOpen then .frozen else .counting,
      remaining := ms, loaded := ms, count := r.count + 1 }
  else r

/-- The record of a channel after a cancel (R55). -/
def cancelledRec (r : TimerRec) : TimerRec := { r with condition := .idle, count := r.count + 1 }

/-- Start a channel with a duration named with the start. -/
def startChannel (s : State) (ch : Channel) (ms : Nat) : State :=
  s.setTimers (s.timers.set ch (startedRec s.timers.gateOpen ch (s.timers.get ch) ms))

/-- Start a channel with the duration of its setting, read now (R19, R55). -/
def startTimer (s : State) (ch : Channel) : State := startChannel s ch (channelMs s.settings ch)

/-- Cancel a channel, whatever its condition (R55). -/
def cancelTimer (s : State) (ch : Channel) : State :=
  s.setTimers (s.timers.set ch (cancelledRec (s.timers.get ch)))

/-- Cancel a channel if it is running. -/
def cancelRunning (s : State) (ch : Channel) : State :=
  if (s.timers.get ch).condition = .idle then s else cancelTimer s ch

/-- A channel's record one millisecond later (R55). -/
def tickRec (r : TimerRec) : TimerRec :=
  if r.condition = .counting then { r with remaining := r.remaining - 1 } else r

/-- Every channel one millisecond later. -/
def tickBank (b : TimerBank) : TimerBank :=
  { b with
    warn := tickRec b.warn, step := tickRec b.step, settle := tickRec b.settle, pace := tickRec b.pace,
    clamp := b.clamp.map tickRec, head := b.head.map (·.map tickRec), discover := tickRec b.discover }

/-- One millisecond passes: power-on time and the counting channels go on. -/
def tick (s : State) : State :=
  if s.powered then (s.setUptime (s.uptime + 1)).setTimers (tickBank s.timers) else s

/-- Freeze a counting channel (R56). -/
def freezeRec (r : TimerRec) : TimerRec := if r.condition = .counting then { r with condition := .frozen } else r

/-- Let a frozen channel count again (R56). -/
def thawRec (r : TimerRec) : TimerRec := if r.condition = .frozen then { r with condition := .counting } else r

/-- The zone-gated channels changed by `f` (R56). -/
def mapGated (f : TimerRec → TimerRec) (b : TimerBank) : TimerBank :=
  { b with warn := f b.warn, settle := f b.settle, pace := f b.pace, head := b.head.map (·.map f) }

/-- Take an expiry notice of a channel; a stale one is disregarded (R57). -/
def onExpiry (s : State) (ch : Channel) (act : State → State) : State :=
  onNotice s (isExpiry ch)
    (fun n t =>
      match n with
      | .expiry _ count => if count = (t.timers.get ch).count then act t else t
      | _ => t)

/-! ### Records and the export queue (chapter 10) -/

/-- The record that holds a serial. -/
def findRecord (h : History) (serial : Serial) : Option WheelsetRecord := h.records.find? (fun r => r.serial == serial)

/-- The record that holds a fleet position. -/
def recordAt (h : History) (p : Position) : Option WheelsetRecord := h.records.find? (fun r => r.position == some p)

/-- The records with one replaced by serial. -/
def replaceRecord (rs : List WheelsetRecord) (r : WheelsetRecord) : List WheelsetRecord :=
  rs.map (fun q => if q.serial = r.serial then r else q)

/-- An entry placed in the export queue by its sequence number (R187). -/
def insertExport : List ExportEntry → ExportEntry → List ExportEntry
  | [], e => [e]
  | q :: qs, e => if e.entry.seq < q.entry.seq then e :: q :: qs else q :: insertExport qs e

/-- The record-changed notices for a record: one for each station whose occupant it is (R184). -/
def changedNotices (s : State) (r : WheelsetRecord) : List Notice :=
  (stationIds.filter (fun st => (s.station st).occupant == some r.serial)).map (fun st => .recordChanged st r)

/-- A change to a record that appends nothing (R183): fields set, revision raised, notice handed. -/
def changeRecord (s : State) (serial : Serial) (upd : WheelsetRecord → WheelsetRecord) : State :=
  match findRecord s.history serial with
  | none => s
  | some r =>
    let r' := { upd r with revision := r.revision + 1 }
    send (s.setHistory { s.history with records := replaceRecord s.history.records r' }) (changedNotices s r')

/-- The record and the export queue after an entry joins the record's list (R186, steps 2 and 3). -/
def pushEntry (serial : Serial) (entries : List Entry) (q : List ExportEntry) (e : Entry) : List Entry × List ExportEntry :=
  match entries with
  | oldest :: rest =>
    if entries.length ≥ 12 then (rest ++ [e], insertExport q { serial := serial, entry := oldest })
    else (entries ++ [e], q)
  | [] => ([e], q)

/-- An append to a record (R186): the entry created with the next sequence number and the stamp, a full list's oldest
entry moved to the export queue, the fields of the same step set, the revision raised, the notice handed. -/
def append (s : State) (serial : Serial) (body : EntryBody) (upd : WheelsetRecord → WheelsetRecord) : State :=
  match findRecord s.history serial with
  | none => s
  | some r =>
    let seq := s.history.counter + 1
    let pushed := pushEntry serial r.entries s.history.exportQueue { seq := seq, stamp := s.clock, body := body }
    let r' := { upd r with entries := pushed.1, revision := r.revision + 1 }
    send (s.setHistory { records := replaceRecord s.history.records r', exportQueue := pushed.2, counter := seq })
      (changedNotices s r')

/-- What a station sets aside of the total reservation: its cut's reservation, its trace claim and its deferred
ceiling's slot (R188). -/
def stationReserved (x : Station) : Nat :=
  x.reservation + (if x.claim then 1 else 0) + (if x.deferred.isSome then 1 else 0)

/-- The total reservation (R188). -/
def totalReservation (s : State) : Nat := stationReserved s.stations.a + stationReserved s.stations.b

/-- The export queue's free slots (R187). -/
def freeSlots (s : State) : Nat := 96 - s.history.exportQueue.length

/-- The room count (R188). -/
def roomCount (s : State) : Nat := min (freeSlots s) (4294967295 - s.history.counter)

/-- The refusal detail of HISTORY-FULL: room count, total reservation, entries sought (R201). -/
def roomDetail (s : State) (sought : Nat) : RefusalDetail := .room (roomCount s) (totalReservation s) sought

/-! ### What an event leaves for the Warning Outputs and EXPORT-DUE -/

/-- The class of an attention kind is SAFETY or FAULT (section 1.5). -/
def urgentKind : AttentionKind → Bool
  | .zone => true
  | .estop => true
  | .loopState => true
  | .liftStopped => true
  | .clampFault => true
  | .cutStopped => true
  | .nodeLost => true
  | .segmentFault => true
  | .recovery => false
  | .clockUnset => false
  | .exportDue => false
  | .loopQuality => false
  | .liftDone => false
  | .traceEnd => false
  | .planEnd => false
  | .cutEnd => false
  | .insertDue => false

/-- The attention line (R14): asserted exactly while the queue holds an item. -/
def attentionLine (s : State) : Bool := !s.attention.isEmpty

/-- What the Attention Queue shows the Warning Outputs: empty, and holding an item of class SAFETY or FAULT. -/
def attentionView (s : State) : Bool × Bool := (s.attention.isEmpty, s.attention.any (fun i => urgentKind i.kind))

/-- What the History Store shows the Warning Outputs (R190). -/
def exportView (s : State) : ExportView :=
  { length := s.history.exportQueue.length, threshold := s.settings.exportThreshold,
    full := freeSlots s == totalReservation s }

/-- What the Zone Monitor shows of the zone and of the stop chain. -/
def zoneView (s : State) : ZoneState × Bool := (s.zone.zone, s.zone.zonePending.isSome)
def stopView (s : State) : StopState × Bool := (s.zone.stop, s.zone.stopPending.isSome)

/-- A node table shows a node's condition: an entry of its position has it. -/
def showsCondition (table : List NodeEntry) (e : NodeEntry) : Bool :=
  table.any (fun x => x.position == e.position && x.condition == e.condition)

/-- One notice if a condition holds. -/
def noticeIf (c : Bool) (n : Notice) : List Notice := if c then [n] else []

/-- The notices that the Loop Controller hands the Warning Outputs when its table changed (R58). -/
def nodeChanges (o n : List NodeEntry) : List Notice :=
  noticeIf (n.isEmpty && !o.isEmpty) (.view .loop .tableEmpty) ++
  (n.filter (fun e => !showsCondition o e)).map (fun e => .view .loop (.node e.position e.condition))

/-- The notices that an event's changes hand the Warning Outputs: each item of the view that changed (R58, R92, R190). -/
def viewChanges (o n : State) : List Notice :=
  noticeIf (o.lift.state != n.lift.state) (.view .lift (.lift n.lift.state)) ++
  noticeIf ((o.clamp .A).state != (n.clamp .A).state) (.view .clamps (.clamp .A (n.clamp .A).state)) ++
  noticeIf ((o.clamp .B).state != (n.clamp .B).state) (.view .clamps (.clamp .B (n.clamp .B).state)) ++
  nodeChanges o.loop.table n.loop.table ++
  noticeIf (o.loop.state != n.loop.state) (.view .loop (.loop n.loop.state)) ++
  noticeIf ((o.station .A).work != (n.station .A).work) (.view (.station .A) (.station .A (n.station .A).work)) ++
  noticeIf ((o.station .B).work != (n.station .B).work) (.view (.station .B) (.station .B (n.station .B).work)) ++
  noticeIf (zoneView o != zoneView n) (.view .zone (.zone n.zone.zone n.zone.zonePending.isSome)) ++
  noticeIf (stopView o != stopView n) (.view .zone (.stop n.zone.stop n.zone.stopPending.isSome)) ++
  noticeIf (attentionView o != attentionView n) (.view .attention (.attention (attentionView n).1 (attentionView n).2)) ++
  noticeIf (o.history.exportQueue.length != n.history.exportQueue.length || totalReservation o != totalReservation n ||
      o.settings.exportThreshold != n.settings.exportThreshold) (.view .history (.exports (exportView n)))

/-- The notices that every owner hands the Warning Outputs once as it comes up (R58). -/
def viewAll (n : State) : List Notice :=
  [.view .lift (.lift n.lift.state), .view .clamps (.clamp .A (n.clamp .A).state),
   .view .clamps (.clamp .B (n.clamp .B).state), .view .loop .tableEmpty, .view .loop (.loop n.loop.state),
   .view (.station .A) (.station .A (n.station .A).work), .view (.station .B) (.station .B (n.station .B).work),
   .view .zone (.zone n.zone.zone n.zone.zonePending.isSome), .view .zone (.stop n.zone.stop n.zone.stopPending.isSome),
   .view .attention (.attention (attentionView n).1 (attentionView n).2), .view .history (.exports (exportView n))]

/-- The lowest and the highest sequence number waiting in the export queue. -/
def exportEnds (q : List ExportEntry) : Nat × Nat :=
  ((q.head?.map (·.entry.seq)).getD 0, (q.getLast?.map (·.entry.seq)).getD 0)

/-- The EXPORT-DUE posting (R190). -/
def exportDueNotice (s : State) : Notice :=
  .posting .exportDue .pit
    (.exportDue s.history.exportQueue.length s.settings.exportThreshold (freeSlots s) (totalReservation s)
      (exportEnds s.history.exportQueue).1 (exportEnds s.history.exportQueue).2)

/-- The EXPORT-DUE posting of an event that placed entries in the export queue and left it at or above the threshold
(R190). -/
def exportDueChange (o n : State) : List Notice :=
  noticeIf (decide (o.history.exportQueue.length < n.history.exportQueue.length) &&
    decide (n.settings.exportThreshold ≤ n.history.exportQueue.length)) (exportDueNotice n)

/-- An event's end: EXPORT-DUE is posted where it is called for, and the Warning Outputs are handed what changed. -/
def settle (o n : State) : State := send n (exportDueChange o n ++ viewChanges o n)

/-- One event of a powered part. A part without power takes no event (log entry 7). -/
def event (s : State) (f : State → State) : Host.Outcome State Fault Refusal :=
  if s.powered then .next (settle s (f s)) else .next s

/-! ### Requests (R4 to R7) -/

/-- The kind codes of the 42 requests (R201). -/
def knownKind (k : Byte) : Bool := decide (1 ≤ k.toNat) && decide (k.toNat ≤ 42)

/-- A reply formed and placed in transmit order (R6). -/
def formReply (s : State) (f : Frame) (b : ReplyBody) : State :=
  s.setLink { s.link with backlog := s.link.backlog ++ [{ tag := f.tag, kind := f.kind, body := b }] }

/-- The reply to the oldest request is formed, and the request leaves the queue (R5). -/
def answer (s : State) (f : Frame) (b : ReplyBody) : State :=
  s.setLink { s.link with
    queue := s.link.queue.tail
    backlog := s.link.backlog ++ [{ tag := f.tag, kind := f.kind, body := b }] }

/-- Handle the oldest request in the input queue (R5, R7). A kind code that is no request's fails the form check; a body
that `parse` does not read fails it; otherwise the owner acts and forms the reply. Where no request of this command is
the oldest, the event does not occur (log entry 4). -/
def serve {α : Type} (mine : Frame → Bool) (parse : Bytes → Option α) (own : State → α → State × ReplyBody) (s : State) :
    State :=
  match s.link.queue with
  | [] => s
  | f :: _ =>
    if knownKind f.kind then
      if mine f then
        match parse f.body with
        | none => answer s f .malformed
        | some a => answer (own s a).1 f (own s a).2
      else s
    else answer s f .malformed

/-- A refusal without detail: the state is kept. -/
def refuse (s : State) (r : Reason) : State × ReplyBody := (s, .refused r .none)

/-- The first failing condition of a list, in order (R9). -/
def firstFailing {α : Type} : List (Bool × α) → Option α
  | [] => none
  | (ok, x) :: rest => if ok then firstFailing rest else some x

end Sys2Proof.Machine
end

