-- ==== Sys2Proof/Machine/Codec.lean ====
section
/-! DEFINITION. The byte layouts of chapter 11: the frame check, the forms of R200, the codes of the value sets, and the
bodies of replies, attention details and history entries. -/

namespace Sys2Proof.Machine

/-! ### The check (R3) -/

/-- One bit fed into the check register: shifted toward its most significant end, and combined with the polynomial's low
sixteen terms if the bit shifted out differs from the bit fed in. -/
def crcBit (reg : Word16) (bit : Bool) : Word16 :=
  if reg.msb != bit then (reg <<< 1) ^^^ 0x1021#16 else reg <<< 1

/-- One byte fed in, most significant bit first. -/
def crcByte (reg : Word16) (b : Byte) : Word16 :=
  [7, 6, 5, 4, 3, 2, 1, 0].foldl (fun r i => crcBit r (b.getLsbD i)) reg

/-- The check of a run of bytes: the register starts with all sixteen bits 1. -/
def crc16 (bs : Bytes) : Word16 := bs.foldl crcByte 0xFFFF#16

/-! ### Field forms (R200) -/

def u8 (n : Nat) : Bytes := [BitVec.ofNat 8 n]
def u16 (n : Nat) : Bytes := [BitVec.ofNat 8 (n / 256), BitVec.ofNat 8 n]
def u24 (n : Nat) : Bytes := [BitVec.ofNat 8 (n / 65536), BitVec.ofNat 8 (n / 256), BitVec.ofNat 8 n]
def u32 (n : Nat) : Bytes :=
  [BitVec.ofNat 8 (n / 16777216), BitVec.ofNat 8 (n / 65536), BitVec.ofNat 8 (n / 256), BitVec.ofNat 8 n]
def s16 (i : Int) : Bytes := u16 (BitVec.ofInt 16 i).toNat
def s24 (i : Int) : Bytes := u24 (BitVec.ofInt 24 i).toNat
/-- A geometry value, or absent. -/
def optS24 (o : Option Int) : Bytes := s24 (o.getD (-8388608))
/-- A U16 value, or absent. -/
def optU16 (o : Option Nat) : Bytes := u16 (o.getD 65535)
/-- A count of at most 254, or absent, for which R200 gives no form: 255 (DESIGN CHOICE, log entry 34). -/
def optCount (o : Option Nat) : Bytes := u8 (o.getD 255)
/-- A slot id, or absent. -/
def optSlot (o : Option Nat) : Bytes := u8 (o.getD 0)
/-- A yes-or-no mark. -/
def mark (b : Bool) : Bytes := u8 (if b then 1 else 0)
/-- Characters followed by bytes of value 0 up to `n`. -/
def padded (n : Nat) (cs : Bytes) : Bytes := (cs ++ List.replicate n 0#8).take n
def serialBytes (s : Serial) : Bytes := padded 12 s
def nameBytes (cs : Bytes) : Bytes := padded 16 cs
/-- A serial, or twelve bytes of value 0. -/
def optSerial (o : Option Serial) : Bytes := serialBytes (o.getD [])
def stampBytes (s : Stamp) : Bytes := u32 s.secs.toNat ++ u8 (s.frac + (if s.set then 128 else 0))
def positionBytes (o : Option Position) : Bytes :=
  match o with
  | none => u16 0 ++ u8 0 ++ u8 0 ++ u8 0
  | some p => u16 p.unit ++ u8 p.vehicle ++ u8 p.bogie ++ u8 p.axle
/-- A list of varying length: its count, then its items. -/
def listBytes {α : Type} (f : α → Bytes) (xs : List α) : Bytes := u8 xs.length ++ xs.flatMap f
/-- An enumerated value, or absent as 0. -/
def optCode {α : Type} (f : α → Nat) (o : Option α) : Bytes := u8 ((o.map f).getD 0)
/-- The values of both wheels, L first. -/
def sideBytes {α : Type} (f : α → Bytes) (p : PerSide α) : Bytes := f p.l ++ f p.r

/-! ### Codes of the value sets (R200, R201; where no rule gives a code, log entries 6 and 43) -/

def stationCode : StationId → Nat
  | .A => 1
  | .B => 2
def sideCode : Side → Nat
  | .L => 1
  | .R => 2
def columnCode : Column → Nat
  | .J1 => 1
  | .J2 => 2
  | .J3 => 3
  | .J4 => 4
def headCode (h : HeadId) : Nat := 4 + 2 * (stationCode h.station - 1) + sideCode h.side
def roleCode : Role → Nat
  | .column c => columnCode c
  | .head h => headCode h
  | .clamp st => 8 + stationCode st
def nodeKindCode : NodeKind → Nat
  | .liftColumn => 1
  | .wheelHead => 2
  | .axleClamp => 3
def conditionCode : NodeCondition → Nat
  | .active => 1
  | .lost => 2
def loopErrorCode : LoopError → Nat
  | .check => 1
  | .silent => 2
  | .order => 3
def segmentCode : SegmentOutcome → Nat
  | .clean => 1
  | .shortToReturn => 2
  | .shortToFeed => 3
  | .crossed => 4
  | .opened => 5
  | .reversed => 6
  | .undetermined => 7
def loopStateCode : LoopState → Nat
  | .dark => 1
  | .discovering => 2
  | .faulted => 3
  | .mismatch => 4
  | .running => 5
def zoneCode : ZoneState → Nat
  | .clear => 1
  | .breached => 2
def stopCode : StopState → Nat
  | .healthy => 1
  | .broken => 2
def liftStateCode : LiftState → Nat
  | .unknown => 1
  | .lowered => 2
  | .warning => 3
  | .raising => 4
  | .settling => 5
  | .raised => 6
  | .holding => 7
  | .lowering => 8
  | .faulted => 9
def directionCode : Direction → Nat
  | .up => 1
  | .down => 2
def holdReasonCode : HoldReason → Nat
  | .zone => 1
  | .stopped => 2
  | .host => 3
  | .stepTimeout => 4
  | .level => 5
  | .overload => 6
  | .lag => 7
  | .recovered => 8
def columnStatusCode : ColumnStatus → Nat
  | .atSetpoint => 1
  | .moving => 2
  | .blocked => 3
def clampStateCode : ClampState → Nat
  | .opened => 1
  | .closing => 2
  | .closed => 3
  | .opening => 4
  | .faulted => 5
def clampCauseCode : ClampCause → Nat
  | .timeout => 1
  | .stopped => 2
  | .lost => 3
  | .force => 4
  | .recovered => 5
def jawCode : Jaw → Nat
  | .atOpen => 1
  | .between => 2
  | .atClosed => 3
def headStateCode : HeadState → Nat
  | .parked => 1
  | .tracing => 2
  | .cutting => 3
  | .scanning => 4
  | .paused => 5
  | .returning => 6
  | .faulted => 7
def headCauseCode : HeadCause → Nat
  | .timeout => 1
  | .lost => 2
  | .recovered => 3
def headStatusCode : HeadStatus → Nat
  | .atPark => 1
  | .working => 2
  | .halted => 3
  | .returning => 4
def workCode : WorkState → Nat
  | .vacant => 1
  | .mounted => 2
  | .tracing => 3
  | .traced => 4
  | .planned => 5
  | .held => 6
  | .cutting => 7
  | .scanning => 8
  | .paused => 9
  | .finished => 10
  | .condemned => 11
def operationCode : Operation → Nat
  | .trace => 1
  | .cut => 2
  | .verify => 3
  | .survey => 4
def heldReasonCode : HeldReason → Nat
  | .limit => 1
  | .lastTurn => 2
  | .excess => 3
  | .nonconform => 4
  | .unverified => 5
def causeCode : AbandonCause → Nat
  | .host => 1
  | .stopped => 2
  | .head => 3
  | .lift => 4
  | .clamp => 5
  | .power => 6
/-- The phases of walks and of scans as one set, in the order of R137 (DESIGN CHOICE, log entry 43): R114 tables the two of a
walk alone. -/
def phaseCode : Phase → Nat
  | .datum => 1
  | .lateral => 2
  | .circumferential => 3
def traceStatusCode : TraceStatus → Nat
  | .inProgress => 1
  | .good => 2
  | .incomplete => 3
  | .unresolved => 4
  | .saturated => 5
def scanModeCode : ScanMode → Nat
  | .verify => 1
  | .survey => 2
/-- The scan results, which no one list holds: numbered CONFORM, LOW, HIGH, INCONCLUSIVE, SURVEYED, NO-DATUM, UNFINISHED,
IN-PROGRESS (DESIGN CHOICE, log entry 43). -/
def scanResultCode : ScanResult → Nat
  | .conform => 1
  | .low => 2
  | .high => 3
  | .inconclusive _ => 4
  | .surveyed => 5
  | .noDatum => 6
  | .unfinished => 7
  | .inProgress => 8
def inconclusiveCode : ScanResult → Nat
  | .inconclusive .sweep => 1
  | .inconclusive .skipped => 2
  | .inconclusive .noDatum => 3
  | .conform => 0
  | .low => 0
  | .high => 0
  | .surveyed => 0
  | .noDatum => 0
  | .unfinished => 0
  | .inProgress => 0
def sweepCode : SweepStatus → Nat
  | .good => 1
  | .incomplete => 2
  | .saturated => 3
def planKindCode : PlanKind → Nat
  | .single => 1
  | .joint => 2
def outcomeCode : ShareOutcome → Nat
  | .planned => 1
  | .held => 2
  | .condemned => 3
def planEndCode : PlanEndOutcome → Nat
  | .planned => 1
  | .held => 2
  | .condemned => 3
  | .stale => 4
def condemnCode : CondemnCause → Nat
  | .flagged => 1
  | .scrap => 2
/-- The field that PLAN-END STALE names, numbered in the order of R164's conditions (DESIGN CHOICE, log entry 43). -/
def staleFieldCode : StaleField → Nat
  | .condemned => 1
  | .ds => 2
  | .ceiling => 3
def governingCode : GoverningTerm → Nat
  | .flangeThickness => 1
  | .flangeHeight => 2
  | .outOfRound => 3
  | .cleanUp => 4
def toleranceCode : ToleranceKind → Nat
  | .bogie => 1
  | .vehicle => 2
def placeCode : CapturePlace → Nat
  | .own .A => 1
  | .own .B => 2
  | .bogiePartner => 3
  | .otherBogie1 => 4
  | .otherBogie2 => 5
def fateCode : CeilingFate → Nat
  | .notNeeded => 1
  | .written => 2
  | .deferred => 3
def toneCode : Tone → Nat
  | .fault => 1
  | .zone => 2
  | .lift => 3
/-- A lamp cell in the reply of PANEL SET, coded as R201 codes the values of the request (DESIGN CHOICE, log entry 43). -/
def lampCode : Lamp → Nat
  | .off => 0
  | .on => 1
  | .flash => 2
def bandOutcomeCode : BandOutcome → Nat
  | .low => 1
  | .inside => 2
  | .high => 3
def actionCode : LimitAction → Nat
  | .nothing => 0
  | .note => 1
  | .hold => 2
def paramCode : Param → Nat
  | .sh => 1
  | .sd => 2
  | .qr => 3
  | .f => 4
  | .b => 5
def findingCode : FindingKind → Nat
  | .param p => paramCode p
  | .lastTurn => 6
  | .excess => 7
  | .fallback => 8
  | .ceiling => 9
def findingWheelCode : FindingWheel → Nat
  | .wheel s => sideCode s
  | .wheelset => 3
  | .none => 0
/-- The attention kinds are numbered 1 to 17 in the order of section 1.5. -/
def kindCode : AttentionKind → Nat
  | .zone => 1
  | .estop => 2
  | .loopState => 3
  | .recovery => 4
  | .clockUnset => 5
  | .exportDue => 6
  | .loopQuality => 7
  | .liftStopped => 8
  | .liftDone => 9
  | .clampFault => 10
  | .cutStopped => 11
  | .traceEnd => 12
  | .planEnd => 13
  | .cutEnd => 14
  | .nodeLost => 15
  | .segmentFault => 16
  | .insertDue => 17
/-- The source code, which is the source rank (R12, R200). -/
def sourceCode : Source → Nat
  | .pit => 0
  | .lift => 1
  | .station .A => 2
  | .station .B => 3
  | .position p => p + 3
/-- The class of an attention kind: SAFETY 1, FAULT 2, WORK 3, ADVICE 4 (section 1.5, R201). -/
def classCode : AttentionKind → Nat
  | .zone => 1
  | .estop => 1
  | .loopState => 2
  | .recovery => 4
  | .clockUnset => 4
  | .exportDue => 4
  | .loopQuality => 4
  | .liftStopped => 2
  | .liftDone => 3
  | .clampFault => 2
  | .cutStopped => 2
  | .traceEnd => 3
  | .planEnd => 3
  | .cutEnd => 3
  | .nodeLost => 2
  | .segmentFault => 2
  | .insertDue => 4
def statusCode : ReplyBody → Nat
  | .done _ => 1
  | .started => 2
  | .refused _ _ => 3
  | .busy => 4
  | .malformed => 5
  | .adjusted _ => 6
def reasonCode : Reason → Nat
  | .wrongState => 1
  | .liftNotRaised => 2
  | .liftMoving => 3
  | .clampNotClosed => 4
  | .clampNotOpen => 5
  | .zoneBreached => 6
  | .stopped => 7
  | .loopNotRunning => 8
  | .nodeUnavailable => 9
  | .noRecord => 10
  | .recordExists => 11
  | .storeFull => 12
  | .historyFull => 13
  | .alreadyMounted => 14
  | .notSameBogie => 15
  | .stalePlan => 16
  | .insertDue => 17
  | .traceUnusable => 18
  | .unsafe_ => 19
  | .noProfile => 20
  | .profileInUse => 21
  | .badField => 22
  | .empty => 23
/-- The kind code of an entry body. -/
def entryKindCode : EntryBody → Nat
  | .fitted _ _ => 1
  | .unfitted _ _ => 2
  | .traced _ _ _ _ _ => 3
  | .cut _ => 4
  | .cutInterrupted _ _ _ => 5
  | .condemned _ _ _ _ _ => 6
  | .ceiling _ _ _ _ _ _ => 7
  | .amended _ => 8

/-! ### Composite layouts -/

/-- A head's cursor: phase and index of a walk or scan, pass number and lateral position of a pass list; the part that
does not apply is absent (log entries 6 and 34). -/
def cursorBytes : Option Cursor → Bytes
  | none => u8 0 ++ u8 0 ++ u8 0 ++ optS24 none
  | some (.point ph i) => u8 (phaseCode ph) ++ u8 i ++ u8 0 ++ optS24 none
  | some (.pass n x) => u8 0 ++ u8 0 ++ u8 n ++ s24 x

def progressBytes (p : PassProgress) : Bytes := u8 p.passes ++ s24 p.depth

/-- A finding, in 13 bytes (R201). -/
def findingBytes (f : Finding) : Bytes :=
  u8 (findingCode f.kind) ++ u8 (findingWheelCode f.wheel) ++ optCode bandOutcomeCode f.outcome ++
  u8 (if f.hold then 2 else 1) ++ optS24 f.v1 ++ optS24 f.v2 ++ optS24 f.v3

/-- One wheel's part of a TRACED body (R128); an absent missing count is written as log entry 34 says. -/
def tracedWheelBytes (w : TracedWheel) : Bytes :=
  u8 (traceStatusCode w.status) ++ optS24 w.results.d ++ optS24 w.results.sh ++ optS24 w.results.sd ++
  optS24 w.results.qr ++ optS24 w.results.f ++ optCount w.results.missLateral ++ optCount w.results.missCirc

/-- One wheel's part of a CUT body (R178): whether the finished diameter came from the sweep or from the planned final is a
yes-or-no mark, sweep 1 and planned final 0 (DESIGN CHOICE, log entry 43), and the verify result is followed by the
INCONCLUSIVE cause (DESIGN CHOICE, log entry 47). -/
def cutWheelBytes (w : CutWheel) : Bytes :=
  s24 w.radialCut ++ u8 w.listed ++ u8 w.completed ++ s24 w.depth ++ s24 w.finished ++ mark w.fromSweep ++
  u8 (scanResultCode w.result) ++ u8 (inconclusiveCode w.result)

def interruptedWheelBytes (w : InterruptedWheel) : Bytes := u8 w.passes ++ s24 w.depth ++ s24 w.diameter

/-- The body of a history entry, in the order its writing rule lists it (R100, R128, R156, R178, R179, R201). The cause HOST
of an UNFITTED entry is twelve bytes of value 0 (DESIGN CHOICE, log entry 47). -/
def entryBodyBytes : EntryBody → Bytes
  | .fitted p former => positionBytes (some p) ++ positionBytes former
  | .unfitted former cause => positionBytes (some former) ++ optSerial cause
  | .traced ws b profile fs usable =>
    sideBytes tracedWheelBytes ws ++ optS24 b ++ optSlot profile ++ listBytes findingBytes fs ++ mark usable
  | .cut c =>
    u8 c.profileUsed ++ u8 c.profileTried ++ mark c.fallback ++ u8 (planKindCode c.kind) ++ mark c.bogieLowered ++
    stampBytes c.planned ++ listBytes findingBytes c.approved ++ sideBytes cutWheelBytes c.wheels ++ u8 c.recuts ++
    mark c.accepted
  | .cutInterrupted cause recuts ws => u8 (causeCode cause) ++ u8 recuts ++ sideBytes interruptedWheelBytes ws
  | .condemned traced tried finals fallback ds =>
    u8 (condemnCode .scrap) ++ sideBytes s24 traced ++ u8 tried ++ sideBytes s24 finals ++
    optSlot (fallback.map (·.1)) ++ optS24 (fallback.map (·.2.l)) ++ optS24 (fallback.map (·.2.r)) ++ s24 ds
  | .ceiling v former kind df cause deferred =>
    s24 v ++ optS24 former ++ u8 (toleranceCode kind) ++ s24 df ++ serialBytes cause ++ mark deferred
  | .amended cs => listBytes (fun c => u8 c.1 ++ optS24 c.2.1 ++ optS24 c.2.2) cs

/-- An entry as RECORD READ's parts and EXPORT TAKE give it (R201). -/
def entryBytes (e : Entry) : Bytes :=
  u32 e.seq ++ stampBytes e.stamp ++ u8 (entryKindCode e.body) ++ u8 (entryBodyBytes e.body).length ++ entryBodyBytes e.body

def particularsBytes : Particulars → Bytes
  | .none => []
  | .failedFirstCycle cs => listBytes (fun c => u8 (columnCode c)) cs
  | .level hi lo spread => u8 (columnCode hi) ++ u8 (columnCode lo) ++ u16 spread
  | .overload cs => listBytes (fun c => u8 (columnCode c)) cs
  | .timeout cs => listBytes (fun c => u8 (columnCode c.1) ++ optCode columnStatusCode c.2) cs
  | .lag cs => listBytes (fun c => u8 (columnCode c.1) ++ optU16 c.2.1 ++ optCode columnStatusCode c.2.2) cs
  | .lost c => u8 (columnCode c)

def columnDetailBytes (c : ColumnDetail) : Bytes :=
  u8 (columnCode c.column) ++ u8 (conditionCode c.condition) ++ optU16 c.height ++ optU16 c.load ++
  optCode columnStatusCode c.status ++ u8 c.lastAck

def wheelFiguresBytes (w : WheelFigures) : Bytes :=
  u8 (governingCode w.governing) ++ s24 w.a ++ s24 w.c ++ s24 w.final ++ u8 w.count
/-- The figures of a wheel that has none, its pass count as log entry 34 says. -/
def noFiguresBytes : Bytes := u8 0 ++ optS24 none ++ optS24 none ++ optS24 none ++ optCount none
def optFiguresBytes : Option (PerSide WheelFigures) → Bytes
  | none => noFiguresBytes ++ noFiguresBytes
  | some ws => sideBytes wheelFiguresBytes ws

def outXBytes (o : Option OutPoint) : Bytes := optS24 (o.map (fun p => 100 * (p.index : Int)))
/-- The outcome of an out-of-band point, numbered in the order EQUAL, LOW, HIGH in which R140 tables it (R200). -/
def outSideBytes (o : Option OutPoint) : Bytes := optCode (fun p => if p.high then 3 else 2) o
/-- An out-of-band point: its index, x, outcome and deviation (R138). -/
def outPointBytes (o : Option OutPoint) : Bytes :=
  optCount (o.map (·.index)) ++ outXBytes o ++ outSideBytes o ++ optS24 (o.map (·.deviation))

/-- The data of a pause (R96): its cause, HOST 1 or ZONE 2 (DESIGN CHOICE, log entry 43), the operation, cursors, progress. -/
def pauseBytes (d : PauseData) : Bytes :=
  u8 (if d.byZone then 2 else 1) ++ optCode operationCode d.operation ++ sideBytes cursorBytes d.cursors ++
  sideBytes progressBytes d.progress

/-- Up to three failure kinds as a list of varying length: their count, then the kinds (R200). -/
def failuresBytes (fs : List LoopError) : Bytes := listBytes (fun e => u8 (loopErrorCode e)) fs

/-- The detail of a posting, in the order its posting rule lists it (R200). The detail words are done 1, failed 2,
paused 3, abandoned 4, dismounted 5, verify-held 6, finished 7. CUT-STOPPED of a DISMOUNT writes the word dismounted in
place of the word abandoned and of the operation (DESIGN CHOICE, log entry 37), and NODE-LOST writes its failure kinds as a
counted list, of none where a node is regained (DESIGN CHOICE, log entry 35). LIFT-DONE writes raised and lowered as the
lift states' codes (log entry 43); PLAN-END writes the held reason and the condemnation cause in one byte, told apart by the
outcome, and its entry mark and the field of a withdrawal last, and CUT-END its partner places as a counted list (DESIGN
CHOICE, log entry 47). -/
def detailBytes : Detail → Bytes
  | .empty => []
  | .zone breach => u8 (if breach then 1 else 2)
  | .estop broken => u8 (if broken then 1 else 2)
  | .loopRunning n => u8 (loopStateCode .running) ++ u8 n
  | .loopFaulted n p => u8 (loopStateCode .faulted) ++ u8 n ++ u8 p
  | .loopMismatch n first cs hs ks => u8 (loopStateCode .mismatch) ++ u8 n ++ u8 first ++ u8 cs ++ u8 hs ++ u8 ks
  | .recovery st occ w op written =>
    u8 (stationCode st) ++ optSerial occ ++ u8 (workCode w) ++ optCode operationCode op ++ mark written
  | .exportDue len thr free res lo hi => u8 len ++ u8 thr ++ u8 free ++ u8 res ++ u32 lo ++ u32 hi
  | .loopQuality t thr => u16 t.check ++ u16 t.silent ++ u16 t.order ++ u16 thr
  | .liftStopped st reason dir idx cols ps =>
    u8 (liftStateCode st) ++ optCode holdReasonCode reason ++ u8 (directionCode dir) ++ u8 idx ++
    cols.flatMap columnDetailBytes ++ particularsBytes ps
  | .liftDone raised hs ls =>
    u8 (liftStateCode (if raised then .raised else .lowered)) ++ hs.toList.flatMap optU16 ++ ls.toList.flatMap optU16
  | .clampFault st cause before jaw force holding =>
    u8 (roleCode (.clamp st)) ++ u8 (clampCauseCode cause) ++ u8 (clampStateCode before) ++ optCode jawCode jaw ++
    optU16 force ++ optU16 holding
  | .cutPaused d => u8 3 ++ pauseBytes d
  | .cutAbandoned dismounted cause ws =>
    (if dismounted then u8 5 else u8 4 ++ u8 (operationCode .cut)) ++ u8 (causeCode cause) ++ sideBytes progressBytes ws
  | .verifyAbandoned cause w => u8 4 ++ u8 (operationCode .verify) ++ u8 (causeCode cause) ++ u8 (workCode w)
  | .traceFailed op cause => u8 2 ++ u8 (operationCode op) ++ u8 (causeCode cause)
  | .traceDone usable ws n hold =>
    u8 1 ++ u8 (operationCode .trace) ++ mark usable ++
    sideBytes (fun w => u8 (traceStatusCode w.1) ++ optS24 w.2) ws ++ u8 n ++ mark hold
  | .surveyDone slot ws =>
    u8 1 ++ u8 (operationCode .survey) ++ u8 slot ++
    sideBytes (fun w => u8 (scanResultCode w.result) ++ optS24 (w.largest.map (·.deviation)) ++ outXBytes w.largest ++
      u8 w.outCount ++ outXBytes w.firstOut ++ u8 w.skips) ws
  | .planEnd d =>
    u8 (planEndCode d.outcome) ++
    u8 ((d.heldReason.map heldReasonCode).getD ((d.cause.map condemnCode).getD 0)) ++ optCode planKindCode d.kind ++
    optSlot d.profileTried ++ optSlot d.profileUsed ++ mark d.fallback ++ mark d.bogieLowered ++ optFiguresBytes d.wheels ++
    u8 d.findings ++ mark d.anyHold ++ mark d.entryWritten ++ optCode staleFieldCode d.field
  | .verifyHeld recuts ws =>
    u8 6 ++ u8 recuts ++
    sideBytes (fun w => u8 (scanResultCode w.result) ++ outXBytes w.firstOut ++ outSideBytes w.firstOut ++
      u8 (inconclusiveCode w.result) ++ u8 w.skips ++ optCode sweepCode w.sweep ++ optS24 w.d) ws
  | .cutFinished accepted recuts ws df ps =>
    u8 7 ++ mark accepted ++ u8 recuts ++
    sideBytes (fun w => u8 (scanResultCode w.1) ++ u8 (inconclusiveCode w.1) ++ s24 w.2) ws ++ s24 df ++
    listBytes (fun p => u8 (placeCode p.1) ++ u8 (fateCode p.2)) ps
  | .nodeLost role kind serial c fs =>
    u8 (roleCode role) ++ u8 (nodeKindCode kind) ++ u32 serial.toNat ++ u8 (conditionCode c) ++
    failuresBytes fs
  | .segmentFault o localized n => u8 (segmentCode o) ++ mark localized ++ u8 n
  | .insertDue h count life beyond => u8 (headCode h) ++ u8 count ++ u8 life ++ mark beyond

/-- An attention item, as TAKE ATTENTION returns it (R201). -/
def itemBytes (i : AttentionItem) : Bytes :=
  u8 (kindCode i.kind) ++ u8 (sourceCode i.source) ++ u8 (classCode i.kind) ++ u8 i.repeats ++ stampBytes i.first ++
  stampBytes i.last ++ u8 (detailBytes i.detail).length ++ detailBytes i.detail

def limitLineBytes (x : LimitLine) : Bytes :=
  s24 x.lo ++ s24 x.hi ++ u8 (actionCode x.low) ++ u8 (actionCode x.inside) ++ u8 (actionCode x.high)

/-- The profile record as the first part of a load carries it, after the slot id (section 11.5). -/
def profileBytes (p : Profile) : Bytes :=
  nameBytes p.name ++ u16 p.sht.toNat ++ u16 p.sdt.toNat ++ u8 p.kf ++ u8 p.cmin.toNat ++ u16 p.pmax.toNat ++
  u8 p.band.toNat ++ s16 p.pad ++ optSlot p.fallback ++ u8 p.heights.length ++ limitLineBytes p.limits.sh ++
  limitLineBytes p.limits.sd ++ limitLineBytes p.limits.qr ++ limitLineBytes p.limits.f ++ limitLineBytes p.limits.b ++
  (p.heights.take 70).flatMap s16

/-- One sample of a walk or scan report: phase, index, radius and status. -/
def sampleBytes (x : Sample) : Bytes :=
  u8 (phaseCode x.phase) ++ u8 x.index ++ s24 x.radius ++
  u8 (match x.status with
      | .good => 1
      | .saturated => 2
      | .noContact => 3)

/-- A head's report: status, cursor, the completion marks (the pass completed, 0 for none, and the mark of the whole
task), the back-face offset and the samples (section 5.6; log entry 6). -/
def headReadingsBytes (r : HeadReadings) : Bytes :=
  u8 (headStatusCode r.status) ++ cursorBytes r.cursor ++ u8 (r.passDone.getD 0) ++ mark r.taskDone ++
  optS24 r.backFace ++ listBytes sampleBytes r.samples

/-- The readings of a node's latest report, by kind, absent where there are none (log entry 6). -/
def readingsBytes (kind : NodeKind) (r : Option Readings) : Bytes :=
  match kind, r with
  | .liftColumn, some (.column h l st ack) => u16 h ++ u16 l ++ u8 (columnStatusCode st) ++ u8 ack
  | .axleClamp, some (.clamp j f hold) => u8 (jawCode j) ++ u16 f ++ u16 hold
  | .wheelHead, some (.head x) => headReadingsBytes x
  | .liftColumn, _ => optU16 none ++ optU16 none ++ u8 0 ++ optCount none
  | .axleClamp, _ => u8 0 ++ optU16 none ++ optU16 none
  | .wheelHead, _ => u8 0 ++ cursorBytes none ++ u8 0 ++ mark false ++ optS24 none ++ u8 0

/-- One entry of NODE LIST (R47), its last failures as a counted list (DESIGN CHOICE, log entry 35). -/
def nodeBytes (e : NodeEntry) : Bytes :=
  u8 e.position ++ u8 (nodeKindCode e.kind) ++ u32 e.serial.toNat ++ optCode roleCode e.role ++
  u8 (conditionCode e.condition) ++ u8 e.count ++ failuresBytes e.failures ++ readingsBytes e.kind e.latest

def kindsCode (k : ErrorKinds) : Nat := (if k.check then 1 else 0) + (if k.silent then 2 else 0) + (if k.order then 4 else 0)

def mapBytes (m : PitMap) : Bytes :=
  m.columns.toList.flatMap u8 ++ m.heads.toList.flatMap (fun p => p.toList.flatMap u8) ++ m.clamps.toList.flatMap u8

/-- A deferred ceiling, its reserved slot as a mark (DESIGN CHOICE, log entry 44). -/
def deferredBytes : Option Deferred → Bytes
  | none => optS24 none ++ optSerial none ++ u8 0 ++ mark false
  | some d => s24 d.value ++ serialBytes d.cause ++ u8 (toleranceCode d.kind) ++ mark true

/-- The station record's fields, then the clamp's, then each head's (R110, R202, section 5.1, section 9.6). The plan
reference is a mark of whether there is a plan, and the deferred ceiling follows it (DESIGN CHOICE, log entry 44). -/
def stationRecordBytes (x : Station) (c : Clamp) (hs : PerSide Head) : Bytes :=
  optSerial x.occupant ++ u8 (workCode x.work) ++ optCode operationCode x.operation ++ optCode workCode x.prior ++
  optCode heldReasonCode x.held ++ u8 x.reservation ++ u8 x.recuts ++ sideBytes progressBytes x.progress ++
  sideBytes cursorBytes x.cursor ++ sideBytes mark x.part ++ mark x.accepted ++ mark x.plan.isSome ++
  deferredBytes x.deferred ++
  u8 (clampStateCode c.state) ++ optCode clampCauseCode c.cause ++ optCode jawCode c.jaw ++ optU16 c.force ++
  sideBytes (fun h => u8 (headStateCode h.state) ++ u8 (conditionCode h.condition) ++ optCode headCauseCode h.cause ++
    u8 h.insertCount ++ cursorBytes (h.latest.bind (·.cursor))) hs

/-- One wheel of the station's trace, in R129's order; all of it absent where the station holds none. An absent tip index
or missing count is written as log entry 34 says, and the parameters derived stand in the order D, F, Sh, Sd, qR (DESIGN
CHOICE, log entry 45). -/
def traceWheelBytes (w : Option TraceRecord) : Bytes :=
  let r := fun {α : Type} (f : TraceResults → Option α) => w.bind (fun x => f x.results)
  optCode (fun (x : TraceRecord) => traceStatusCode x.status) w ++ optS24 (r (·.r70)) ++ optCount (r (·.tip)) ++
  optS24 (r (·.xs)) ++ optCount (r (·.missLateral)) ++ optCount (r (·.missCirc)) ++ optS24 (r (·.d)) ++
  optS24 (r (·.f)) ++ optS24 (r (·.sh)) ++ optS24 (r (·.sd)) ++ optS24 (r (·.qr))

/-- One wheel's record of a trace in hand while it is IN-PROGRESS: the phase and index of its cursor and its sample counts
(R129; DESIGN CHOICE, log entry 45); absent otherwise. -/
def walkWheelBytes (w : Option TraceRecord) (c : Option Cursor) : Bytes :=
  match w with
  | none => u8 0 ++ optCount none ++ optCount none ++ optCount none
  | some x =>
    if x.status = .inProgress then
      (match c with
       | some (.point ph i) => u8 (phaseCode ph) ++ u8 i
       | some (.pass _ _) => u8 0 ++ optCount none
       | none => u8 0 ++ optCount none) ++ u8 x.lateral.length ++ u8 x.circ.length
    else u8 0 ++ optCount none ++ optCount none ++ optCount none

/-- The station's trace, in R129's order: each wheel, then B, the findings and the usable mark; then each wheel's record of
a trace in hand. -/
def traceBytes (held : Option StationTrace) (walk : Option (PerSide TraceRecord)) (cursors : PerSide (Option Cursor)) :
    Bytes :=
  traceWheelBytes (held.map (·.wheels.l)) ++ traceWheelBytes (held.map (·.wheels.r)) ++ optS24 (held.bind (·.b)) ++
  listBytes findingBytes ((held.map (·.findings)).getD []) ++ mark ((held.map (·.usable)).getD false) ++
  walkWheelBytes (walk.map (·.l)) cursors.l ++ walkWheelBytes (walk.map (·.r)) cursors.r

/-- A capture item (R151); an EMPTY place has a serial of twelve bytes of value 0 (R200), and its revision is written as log
entry 34 says. -/
def captureBytes (c : Capture) : Bytes :=
  u8 (placeCode c.place) ++ positionBytes c.position ++ optSerial (c.captured.map (·.1)) ++
  u32 ((c.captured.map (·.2.toNat)).getD 0)

def wheelPlanBytes (w : WheelPlan) : Bytes :=
  s24 w.traced ++ u8 (governingCode w.governing) ++ s24 w.a ++ s24 w.c ++ s24 w.final ++ u8 w.count ++ s24 w.depth ++
  s24 w.last ++ u8 w.recuts ++ s24 w.recutDepth

/-- The wheel of a share that is not there, its counts as log entry 34 says. -/
def noWheelPlanBytes : Bytes :=
  optS24 none ++ u8 0 ++ optS24 none ++ optS24 none ++ optS24 none ++ optCount none ++ optS24 none ++ optS24 none ++
  optCount none ++ optS24 none

/-- A station's share without its findings (R147, R202), absent field by field where there is none. -/
def shareBytes (st : StationId) (x : Option Share) : Bytes :=
  optCode (fun _ => stationCode st) x ++ optSerial (x.map (·.occupant)) ++
  optCode (fun (y : Share) => outcomeCode y.outcome) x ++ optSlot (x.bind (·.profileUsed)) ++
  optSlot (x.map (·.profileTried)) ++ mark ((x.map (·.fallback)).getD false) ++
  mark ((x.map (·.bogieLowered)).getD false) ++ optS24 (x.bind (·.target)) ++
  (match x.bind (·.wheels) with
   | none => noWheelPlanBytes ++ noWheelPlanBytes
   | some ws => sideBytes wheelPlanBytes ws) ++
  optCode heldReasonCode (x.bind (·.heldReason)) ++ mark ((x.map (·.approved)).getD false)

/-- The plan's contents for one station, in R165's order (DESIGN CHOICE, log entry 46): the station's share, the plan's
kind, stamp, settings used and captures, the other share's outcome. With no plan every field is absent (R110, R200; an absent
stamp is written as bytes of value 0, log entry 34). -/
def planBytes (st : StationId) (p : Option Plan) : Bytes :=
  shareBytes st (p.bind (fun x => x.shares.get st)) ++ optCode (fun (x : Plan) => planKindCode x.kind) p ++
  stampBytes ((p.map (·.madeAt)).getD { secs := 0, frac := 0, set := false }) ++ optS24 (p.map (·.btol)) ++
  optS24 (p.map (·.vtol)) ++ optS24 (p.map (·.cvisit)) ++ listBytes captureBytes ((p.map (·.captures)).getD []) ++
  optCode (fun (x : Share) => outcomeCode x.outcome) (p.bind (fun x => x.shares.get (otherStation st)))

/-- A scan's datum radius, where it has one. -/
def datumRadius : Datum → Option Geometry
  | .radius r => some r
  | .none => none
  | .failed => none

/-- A datum of a scan in hand: none 0, a radius 1, FAILED 2, then the radius, absent where there is none (DESIGN CHOICE,
log entry 36). -/
def datumBytes (d : Datum) : Bytes :=
  u8 (match d with
      | .none => 0
      | .radius _ => 1
      | .failed => 2) ++ optS24 (datumRadius d)

/-- One wheel of the last scan results, in R142's order: result, x and outcome, skip count, sweep status, circumferential
missing count, D and F, and r70s; absent where there are none. -/
def resultWheelBytes (w : Option ScanRecord) : Bytes :=
  optCode (fun (x : ScanRecord) => scanResultCode x.result) w ++ outXBytes (w.bind (·.firstOut)) ++
  outSideBytes (w.bind (·.firstOut)) ++ optCount (w.map (·.skips)) ++ optCode sweepCode (w.bind (·.sweep)) ++
  optCount (w.bind (·.missCirc)) ++ optS24 (w.bind (·.d)) ++ optS24 (w.bind (·.f)) ++
  optS24 (w.bind (fun x => datumRadius x.datum))

/-- A wheel's running figures of a survey: the largest deviation with its x, and the out-of-band count; absent in a
verify. -/
def figuresBytes (mode : ScanMode) (w : ScanRecord) : Bytes :=
  match mode with
  | .survey => optS24 (w.largest.map (·.deviation)) ++ outXBytes w.largest ++ optCount (some w.outCount)
  | .verify => optS24 none ++ outXBytes none ++ optCount none

/-- What the last scan results hold beside R142's list, after both wheels: the mode, the slot and the abandoned mark, then
each wheel's INCONCLUSIVE cause and survey figures (DESIGN CHOICE, log entry 36). -/
def resultTailBytes : Option Scan → Bytes
  | none => u8 0 ++ optSlot none ++ mark false ++ u8 0 ++ optS24 none ++ outXBytes none ++ optCount none ++ u8 0 ++
      optS24 none ++ outXBytes none ++ optCount none
  | some x =>
    u8 (scanModeCode x.mode) ++ u8 x.slot ++ mark x.abandoned ++
    sideBytes (fun (w : ScanRecord) => u8 (inconclusiveCode w.result) ++ figuresBytes x.mode w) x.wheels

/-- A wheel's record of a scan in hand, in R146's order: mode, slot, datum, judgment cursor, skip count, first out-of-band
point, running figures; absent where no scan is in hand. -/
def scanWheelBytes (x : Option Scan) (d : Side) : Bytes :=
  match x with
  | none =>
    u8 0 ++ optSlot none ++ datumBytes .none ++ optCount none ++ optCount none ++ outPointBytes none ++ optS24 none ++
    outXBytes none ++ optCount none
  | some y =>
    let w := y.wheels.get d
    u8 (scanModeCode y.mode) ++ u8 y.slot ++ datumBytes w.datum ++ u8 w.judged ++ u8 w.skips ++ outPointBytes w.firstOut ++
    figuresBytes y.mode w

/-- The last scan results, then the scan records in hand (R142, R145, R146). -/
def scanBytes (results scan : Option Scan) : Bytes :=
  resultWheelBytes (results.map (·.wheels.l)) ++ resultWheelBytes (results.map (·.wheels.r)) ++ resultTailBytes results ++
  scanWheelBytes scan .L ++ scanWheelBytes scan .R

def useBytes (u : PerStation SlotUse) : Bytes :=
  mark u.a.plan ++ mark u.a.survey ++ mark u.b.plan ++ mark u.b.survey

/-- The wheelset record, as part 0 of RECORD READ returns it (section 11.4). -/
def recordBytes (r : WheelsetRecord) (occ : Option OccupantData) : Bytes :=
  serialBytes r.serial ++ positionBytes r.position ++ u8 r.profile ++ s24 r.ds ++ s24 r.dlt ++ s24 r.diameters.l ++
  s24 r.diameters.r ++ optS24 r.ceiling ++
  u8 ((if r.condemned then 1 else 0) + (if r.matchDue then 2 else 0) + (if r.retraceDue then 4 else 0)) ++
  u16 r.cutCount ++ u32 r.revision.toNat ++ u8 r.entries.length ++
  optCode (fun (o : OccupantData) => stationCode o.station) occ ++ optCode (fun (o : OccupantData) => workCode o.work) occ ++
  optS24 ((occ.bind (·.deferred)).map (·.1)) ++ optSerial ((occ.bind (·.deferred)).map (·.2))

/-- The characters "Zostrel". -/
def vendorText : Bytes := [90, 111, 115, 116, 114, 101, 108]
/-- The characters "Semwyn WP620". -/
def partText : Bytes := [83, 101, 109, 119, 121, 110, 32, 87, 80, 54, 50, 48]

/-- One share of the PLAN reply (R161). -/
def planReplyBytes (p : PlanReply) : Bytes :=
  u8 (outcomeCode p.outcome) ++ optCode heldReasonCode p.heldReason ++ optSlot p.profileUsed ++ mark p.fallback ++
  mark p.bogieLowered ++ optFiguresBytes p.wheels

/-- The part number and the number of parts that open a reading in parts (R202). -/
def partBytes (part parts : Nat) : Bytes := u8 part ++ u8 parts

/-- The data of a DONE or ADJUSTED reply, in the order the owning rule lists them (R200). DESIGN CHOICE: the bytes of an absent
fault record of NODE LIST (log entry 34), the mute mark MUTED 1 and SOUNDING 2 (log entry 43), the shares of the PLAN reply
without a count (log entry 46), and the mark unchanged before the revision (log entry 47). -/
def replyDataBytes : ReplyData → Bytes
  | .empty => []
  | .identify revision =>
    nameBytes vendorText ++ nameBytes partText ++ nameBytes revision ++ u8 4 ++ u8 55 ++ u16 384 ++ u8 12 ++ u8 96 ++
    u8 8 ++ u8 12
  | .status d =>
    u8 (loopStateCode d.loop) ++ u8 (liftStateCode d.lift) ++ u8 (workCode d.stations.a) ++ u8 (workCode d.stations.b) ++
    u8 (zoneCode d.zone) ++ u8 (stopCode d.stop) ++ u8 d.attention ++ u8 d.exports ++ u16 d.accepted ++ u16 d.busy ++
    u16 d.discarded ++ stampBytes d.time
  | .clock secs => u32 secs.toNat
  | .setting v => u16 v
  | .settingKinds k => u8 (kindsCode k)
  | .pitMap m => mapBytes m
  | .settingRange v lo hi => u16 v ++ u16 lo ++ u16 hi
  | .item i => itemBytes i
  | .horn before after n => optCode toneCode before ++ optCode toneCode after ++ u8 n
  | .panel cells tone muted => cells.flatMap (fun c => u8 (lampCode c)) ++ optCode toneCode tone ++ u8 (if muted then 1 else 2)
  | .nodeList st n fault table =>
    u8 (loopStateCode st) ++ u8 n ++
    (match fault with
     | none => u8 0 ++ u8 0 ++ u8 0
     | some x => u8 x.position ++ u8 (segmentCode x.outcome) ++ mark x.localized) ++
    listBytes nodeBytes table
  | .liftHeld hs => u8 (liftStateCode .holding) ++ hs.toList.flatMap optU16
  | .paused d => u8 3 ++ pauseBytes d
  | .stationState w => u8 (workCode w)
  | .stationRecord x c hs => partBytes 0 5 ++ stationRecordBytes x c hs
  | .stationTrace held walk cursors => partBytes 1 5 ++ traceBytes held walk cursors
  | .stationPlan st p => partBytes 2 5 ++ planBytes st p
  | .stationScan results scan => partBytes 3 5 ++ scanBytes results scan
  | .shareFindings fs => partBytes 4 5 ++ listBytes findingBytes fs
  | .insertCount n => u8 n
  | .profileLoaded slot before => u8 slot ++ mark before
  | .profileStaged slot => u8 slot ++ mark true
  | .profileFirst p use => partBytes 1 2 ++ profileBytes p ++ useBytes use
  | .profileSecond hs => partBytes 2 2 ++ listBytes s16 hs
  | .planned shares => shares.flatMap planReplyBytes
  | .findings fs => listBytes findingBytes fs
  | .accepted finished df written =>
    sideBytes s24 finished ++ s24 df ++ listBytes (fun w => serialBytes w.1 ++ s24 w.2) written
  | .recordEntered rev displaced => u32 rev.toNat ++ optSerial displaced
  | .recordFirst r occ =>
    partBytes 0 (r.entries.length + 1) ++ recordBytes r occ ++
    r.entries.flatMap (fun e => u32 e.seq ++ stampBytes e.stamp ++ u8 (entryKindCode e.body))
  | .recordEntry part parts serial rev e => partBytes part parts ++ serialBytes serial ++ u32 rev.toNat ++ entryBytes e
  | .recordFitted unchanged rev displaced => mark unchanged ++ u32 rev.toNat ++ optSerial displaced
  | .recordAmended unchanged rev fields => mark unchanged ++ u32 rev.toNat ++ listBytes u8 fields
  | .recordRetired n => u8 n
  | .exportTaken len e => u8 len ++ serialBytes e.serial ++ entryBytes e.entry

/-- The refusal detail of a reason (R201). -/
def refusalBytes (r : Reason) : RefusalDetail → Bytes
  | .none => if r = .wrongState ∨ r = .badField then u8 0 else []
  | .scrap s => u8 1 ++ u8 (sideCode s)
  | .room count reserved sought => u8 count ++ u8 reserved ++ u8 sought
  | .places ps => listBytes (fun p => u8 (placeCode p)) ps
  | .head h => u8 (headCode h)
  | .offset n => u8 n
  | .cut st s c => u8 0 ++ u8 (stationCode st) ++ u8 (sideCode s) ++ s24 c

/-- A reply body: the status, then what follows it (R9, R201). -/
def replyBodyBytes (b : ReplyBody) : Bytes :=
  u8 (statusCode b) ++
  match b with
  | .done d => replyDataBytes d
  | .adjusted d => replyDataBytes d
  | .refused r d => u8 (reasonCode r) ++ refusalBytes r d
  | .started => []
  | .busy => []
  | .malformed => []

/-- The bytes that a frame's check covers: length, tag, kind and body (R2, R3). -/
def checkedBytes (tag kind : Byte) (body : Bytes) : Bytes := u8 body.length ++ [tag, kind] ++ body

/-- A whole frame: the start mark of value 165, the checked bytes, the check most significant byte first (R3, R201). -/
def frameBytes (tag kind : Byte) (body : Bytes) : Bytes :=
  [165#8] ++ checkedBytes tag kind body ++ u16 (crc16 (checkedBytes tag kind body)).toNat

/-- The frame of a reply. A frame holds at most 250 body bytes (section 11.3): of a longer body the first 250 are sent
(DESIGN CHOICE, log entry 42). -/
def replyFrame (r : Reply) : Bytes := frameBytes r.tag r.kind ((replyBodyBytes r.body).take 250)

end Sys2Proof.Machine
end

