-- ==== Sys2Proof/Machine/Operands.lean ====
section
/-! DEFINITION. The operands of the requests: the form check of R7 on the body bytes of each kind, in the forms of
R200 and R201, and the frame receiver's judgment of the characters of a frame (R2). A body that a parser does not read
fails the form check. -/

namespace Sys2Proof.Machine

/-! ### The frame receiver -/

/-- What the receiver makes of the characters after a start mark, at the last of them. -/
inductive Received where
  /-- nothing is settled by the last character given -/
  | undecided
  /-- the check agrees: a good frame -/
  | good (f : Frame)
  /-- the frame is discarded -/
  | discarded
deriving DecidableEq, Repr

/-- The receiver's judgment IN-FRAME (R2). A length above 250 discards at once; a framing error discards; the frame is
complete at its second check byte, and its check then decides. -/
def received : List RxChar → Received
  | [] => .undecided
  | len :: rest =>
    if len.stop = false ∨ len.data.toNat > 250 then
      if rest.isEmpty then .discarded else .undecided
    else if rest.length > len.data.toNat + 4 ∨ rest.dropLast.any (fun c => !c.stop) then .undecided
    else
      match rest.getLast? with
      | none => .undecided
      | some c =>
        if c.stop = false then .discarded
        else if rest.length < len.data.toNat + 4 then .undecided
        else
          let bytes := rest.map (·.data)
          let body := (bytes.drop 2).take len.data.toNat
          let tag := bytes.getD 0 0
          let kind := bytes.getD 1 0
          if bytes.drop (len.data.toNat + 2) = u16 (crc16 (checkedBytes tag kind body)).toNat then
            .good { tag := tag, kind := kind, body := body }
          else .discarded

/-! ### Field forms -/

def n16 (a b : Byte) : Nat := a.toNat * 256 + b.toNat
def n24 (a b c : Byte) : Nat := a.toNat * 65536 + b.toNat * 256 + c.toNat
def n32 (a b c d : Byte) : Nat := a.toNat * 16777216 + b.toNat * 65536 + c.toNat * 256 + d.toNat
def i16 (a b : Byte) : Int := (BitVec.ofNat 16 (n16 a b)).toInt
def i24 (a b c : Byte) : Int := (BitVec.ofNat 24 (n24 a b c)).toInt

/-- The S16 values of a run of bytes, two bytes each. -/
def i16s : Bytes → List Geometry
  | a :: b :: rest => i16 a b :: i16s rest
  | _ => []

/-- A character of a serial: a capital letter, a digit or the hyphen (R200). -/
def serialChar (c : Byte) : Bool :=
  (decide (65 ≤ c.toNat) && decide (c.toNat ≤ 90)) || (decide (48 ≤ c.toNat) && decide (c.toNat ≤ 57)) || c.toNat == 45

/-- A character of a name (R200). -/
def nameChar (c : Byte) : Bool :=
  serialChar c || (decide (97 ≤ c.toNat) && decide (c.toNat ≤ 122)) || c.toNat == 32

/-- The characters of a padded text: those before the first byte of value 0, where only such bytes follow. -/
def unpad (ok : Byte → Bool) (bs : Bytes) : Option Bytes :=
  let cs := bs.takeWhile (fun c => c != 0)
  if cs.all ok && (bs.drop cs.length).all (fun c => c == 0) then some cs else none

/-- A serial of 12 bytes: 1 to 12 characters. -/
def serialOf (bs : Bytes) : Option Serial :=
  match unpad serialChar bs with
  | none => none
  | some cs => if cs.isEmpty then none else some cs

/-- A position: five bytes of value 0 mean none. -/
def positionOf (bs : Bytes) : Option Position :=
  match bs with
  | [a, b, v, g, x] =>
    if bs.all (fun c => c == 0) then none
    else some { unit := n16 a b, vehicle := v.toNat, bogie := g.toNat, axle := x.toNat }
  | _ => none

/-- A station byte of 1 or 2. -/
def stationOf (b : Byte) : Option StationId :=
  if b = 1 then some .A else if b = 2 then some .B else none

/-- A head's role byte, 5 to 8. -/
def headOf (b : Byte) : Option HeadId := headIds.find? (fun h => headCode h == b.toNat)

/-! ### Bodies -/

/-- A request without fields. -/
def parseNone (body : Bytes) : Option Unit := if body.isEmpty then some () else none

/-- A request that names one station. -/
def parseStation (body : Bytes) : Option StationId :=
  match body with
  | [b] => stationOf b
  | _ => none

/-- SET CLOCK: a time, U32. -/
def parseClock (body : Bytes) : Option Word32 :=
  match body with
  | [a, b, c, d] => some (BitVec.ofNat 32 (n32 a b c d))
  | _ => none

/-- A numeric SETTING WRITE: a setting number 1 to 17 and one U16. -/
def parseSettingWrite (body : Bytes) : Option (Nat × Nat) :=
  match body with
  | [i, a, b] => if 1 ≤ i.toNat ∧ i.toNat ≤ 17 then some (i.toNat, n16 a b) else none
  | _ => none

/-- SETTING WRITE of the loop error kinds counted: setting 18 and a set of at most 7. -/
def parseKindsWrite (body : Bytes) : Option ErrorKinds :=
  match body with
  | [i, k] =>
    if i.toNat = 18 ∧ k.toNat ≤ 7 then some { check := k.getLsbD 0, silent := k.getLsbD 1, order := k.getLsbD 2 }
    else none
  | _ => none

/-- SETTING WRITE of the pit map: setting 19 and ten positions in role order. -/
def parseMapWrite (body : Bytes) : Option PitMap :=
  match body with
  | [i, a, b, c, d, e, f, g, h, k, l] =>
    if i.toNat = 19 then
      some { columns := ⟨a.toNat, b.toNat, c.toNat, d.toNat⟩
             heads := ⟨⟨e.toNat, f.toNat⟩, ⟨g.toNat, h.toNat⟩⟩
             clamps := ⟨k.toNat, l.toNat⟩ }
    else none
  | _ => none

/-- SETTING READ: a setting number 1 to 19. -/
def parseSettingRead (body : Bytes) : Option Nat :=
  match body with
  | [i] => if 1 ≤ i.toNat ∧ i.toNat ≤ 19 then some i.toNat else none
  | _ => none

/-- A PANEL SET value: OFF 0, ON 1, FLASH 2, or UNCHANGED 3, which is no lamp. -/
def lampOf (b : Byte) : Option (Option Lamp) :=
  if b = 0 then some (some .off)
  else if b = 1 then some (some .on)
  else if b = 2 then some (some .flash)
  else if b = 3 then some none
  else none

/-- PANEL SET: four values, for cells 12 to 15. -/
def parsePanel (body : Bytes) : Option (List (Option Lamp)) :=
  if body.length = 4 then body.mapM lampOf else none

/-- MOUNT: a station and a serial. -/
def parseMount (body : Bytes) : Option (StationId × Serial) :=
  match body with
  | [] => none
  | b :: rest =>
    if rest.length = 12 then (stationOf b).bind (fun st => (serialOf rest).map (fun ser => (st, ser))) else none

/-- SURVEY: a station and a profile id, 0 for none. -/
def parseSurvey (body : Bytes) : Option (StationId × Option Nat) :=
  match body with
  | [b, p] => (stationOf b).map (fun st => (st, if p.toNat = 0 then none else some p.toNat))
  | _ => none

/-- A request naming BOTH. -/
def parseBoth (body : Bytes) : Option Unit := if body = [3] then some () else none

/-- STATION REPORT: a station and a part number 0 to 4. -/
def parseReport (body : Bytes) : Option (StationId × Nat) :=
  match body with
  | [b, p] => if p.toNat ≤ 4 then (stationOf b).map (fun st => (st, p.toNat)) else none
  | _ => none

/-- INSERT CHANGED: a head. -/
def parseHead (body : Bytes) : Option HeadId :=
  match body with
  | [b] => headOf b
  | _ => none

/-- PROFILE LOAD, clear: a slot id, whatever its value. -/
def parseSlot (body : Bytes) : Option Nat :=
  match body with
  | [b] => some b.toNat
  | _ => none

/-- PROFILE READ: a slot id and a part number 1 or 2. -/
def parseProfileRead (body : Bytes) : Option (Nat × Nat) :=
  match body with
  | [b, p] => if p = 1 ∨ p = 2 then some (b.toNat, p.toNat) else none
  | _ => none

/-- A limit action byte, 0 to 2. -/
def actionOf (b : Byte) : Option LimitAction :=
  if b = 0 then some .nothing else if b = 1 then some .note else if b = 2 then some .hold else none

/-- One line of a limit set, in 9 bytes. -/
def limitLineOf (bs : Bytes) : Option LimitLine :=
  match bs with
  | [a, b, c, d, e, f, x, y, z] =>
    (actionOf x).bind fun low => (actionOf y).bind fun inside => (actionOf z).map fun high =>
      { lo := i24 a b c, hi := i24 d e f, low := low, inside := inside, high := high }
  | _ => none

/-- The limit set, in 45 bytes. -/
def limitSetOf (bs : Bytes) : Option LimitSet :=
  (limitLineOf (bs.take 9)).bind fun sh => (limitLineOf ((bs.drop 9).take 9)).bind fun sd =>
    (limitLineOf ((bs.drop 18).take 9)).bind fun qr => (limitLineOf ((bs.drop 27).take 9)).bind fun f =>
      (limitLineOf (bs.drop 36)).map fun b => { sh := sh, sd := sd, qr := qr, f := f, b := b }

/-- PROFILE LOAD, first part: a slot id, a profile record with up to 70 heights, and the list length it declares
(section 11.5). The body agrees with the length; the length's own range is the owner's (R203). -/
def parseFirstPart (body : Bytes) : Option (Nat × Profile × Nat) :=
  match body with
  | slot :: rest =>
    let fixed := rest.drop 16
    match fixed with
    | s1 :: s2 :: t1 :: t2 :: kf :: cmin :: p1 :: p2 :: band :: a1 :: a2 :: fb :: len :: tail =>
      if tail.length = 45 + 2 * min len.toNat 70 then
        (unpad nameChar (rest.take 16)).bind fun name => (limitSetOf (tail.take 45)).map fun limits =>
          (slot.toNat,
            { name := name, sht := n16 s1 s2, sdt := n16 t1 t2, kf := kf.toNat, cmin := cmin.toNat, pmax := n16 p1 p2,
              band := band.toNat, pad := i16 a1 a2, fallback := if fb.toNat = 0 then none else some fb.toNat,
              heights := i16s (tail.drop 45), limits := limits },
            len.toNat)
      else none
    | _ => none
  | [] => none

/-- PROFILE LOAD, second part: a slot id, a count and that many heights. -/
def parseSecondPart (body : Bytes) : Option (Nat × Nat × List Geometry) :=
  match body with
  | slot :: count :: rest =>
    if rest.length = 2 * count.toNat then some (slot.toNat, count.toNat, i16s rest) else none
  | _ => none

/-- The fields of RECORD ENTER. -/
structure EnterFields where
  serial : Serial
  profile : Nat
  ds : Geometry
  dlt : Geometry
  diameters : PerSide Geometry
  position : Option Position
deriving DecidableEq, Repr

/-- RECORD ENTER: 30 bytes. -/
def parseEnter (body : Bytes) : Option EnterFields :=
  match body.drop 12 with
  | [p, a1, a2, a3, b1, b2, b3, c1, c2, c3, d1, d2, d3, q1, q2, q3, q4, q5] =>
    (serialOf (body.take 12)).map fun ser =>
      { serial := ser, profile := p.toNat, ds := i24 a1 a2 a3, dlt := i24 b1 b2 b3,
        diameters := ⟨i24 c1 c2 c3, i24 d1 d2 d3⟩, position := positionOf [q1, q2, q3, q4, q5] }
  | _ => none

/-- RECORD READ: a serial and a part number 0 to 12. -/
def parseRecordRead (body : Bytes) : Option (Serial × Nat) :=
  match body.drop 12 with
  | [p] => if p.toNat ≤ 12 then (serialOf (body.take 12)).map (fun ser => (ser, p.toNat)) else none
  | _ => none

/-- RECORD FIT: a serial and a position. -/
def parseFit (body : Bytes) : Option (Serial × Option Position) :=
  match body.drop 12 with
  | [q1, q2, q3, q4, q5] => (serialOf (body.take 12)).map (fun ser => (ser, positionOf [q1, q2, q3, q4, q5]))
  | _ => none

/-- What RECORD AMEND asks of the ceiling. -/
inductive CeilingChange where
  | unchanged
  | clear
  | value (v : Geometry)
deriving DecidableEq, Repr

/-- The fields of RECORD AMEND; an absent value is UNCHANGED. -/
structure AmendFields where
  serial : Serial
  profile : Option Nat
  ds : Option Geometry
  dlt : Option Geometry
  left : Option Geometry
  right : Option Geometry
  ceiling : CeilingChange
  condemn : Bool
deriving DecidableEq, Repr

/-- A geometry value of RECORD AMEND; 8 388 607 means UNCHANGED. -/
def amendValue (a b c : Byte) : Option Geometry := if i24 a b c = 8388607 then none else some (i24 a b c)

/-- The ceiling of RECORD AMEND; 8 388 607 means UNCHANGED and 8 388 606 CLEAR. -/
def amendCeiling (a b c : Byte) : CeilingChange :=
  if i24 a b c = 8388607 then .unchanged else if i24 a b c = 8388606 then .clear else .value (i24 a b c)

/-- RECORD AMEND: 29 bytes. -/
def parseAmend (body : Bytes) : Option AmendFields :=
  match body.drop 12 with
  | [p, a1, a2, a3, b1, b2, b3, c1, c2, c3, d1, d2, d3, e1, e2, e3, k] =>
    if k.toNat ≤ 1 then
      (serialOf (body.take 12)).map fun ser =>
        { serial := ser, profile := if p.toNat = 0 then none else some p.toNat, ds := amendValue a1 a2 a3,
          dlt := amendValue b1 b2 b3, left := amendValue c1 c2 c3, right := amendValue d1 d2 d3,
          ceiling := amendCeiling e1 e2 e3, condemn := k.toNat == 1 }
    else none
  | _ => none

/-- RECORD RETIRE: a serial. -/
def parseSerial (body : Bytes) : Option Serial := if body.length = 12 then serialOf body else none

/-! ### Which command a frame is -/

/-- A frame of one kind code. -/
def ofKind (k : Nat) (f : Frame) : Bool := f.kind.toNat == k

/-- SETTING WRITE of the loop error kinds counted. -/
def isKindsWrite (f : Frame) : Bool := ofKind 4 f && f.body.head? == some 18
/-- SETTING WRITE of the pit map. -/
def isMapWrite (f : Frame) : Bool := ofKind 4 f && f.body.head? == some 19
/-- Every other SETTING WRITE. -/
def isNumericWrite (f : Frame) : Bool := ofKind 4 f && !isKindsWrite f && !isMapWrite f
/-- A request of kind `k` naming BOTH. -/
def namesBoth (k : Nat) (f : Frame) : Bool := ofKind k f && f.body == [3]
/-- A request of kind `k` that does not name BOTH. -/
def namesOne (k : Nat) (f : Frame) : Bool := ofKind k f && !(f.body == [3])

end Sys2Proof.Machine
end

