-- ==== Sys2Proof/Machine/General.lean ====
section
/-! DEFINITION. The general part (chapter 1): the Attention Queue, the Settings Store and the Pit Clock. -/

namespace Sys2Proof.Machine

/-! ### The attention queue -/

/-- The item for a pairing of kind and source. -/
def pairs (kind : AttentionKind) (source : Source) (i : AttentionItem) : Bool := i.kind == kind && i.source == source

/-- A posting coalesces into its pairing's item (R11). -/
def coalesce (now : Stamp) (detail : Detail) (i : AttentionItem) : AttentionItem :=
  { i with detail := detail, repeats := min (i.repeats + 1) 255, last := now }

/-- The queue after a posting is taken at `now` (R10, R11). -/
def takePosting (q : List AttentionItem) (now : Stamp) (kind : AttentionKind) (source : Source) (detail : Detail) :
    List AttentionItem :=
  if q.any (pairs kind source) then q.map (fun i => if pairs kind source i then coalesce now detail i else i)
  else q ++ [{ kind := kind, source := source, detail := detail, repeats := 1, first := now, last := now }]

/-- The `i`-th posting under way, counted from the oldest, with the notices that remain. -/
def nthPosting (i : Nat) : List Notice → Option (AttentionKind × Source × Detail × List Notice)
  | [] => none
  | .posting k src d :: ns =>
    match i with
    | 0 => some (k, src, d, ns)
    | j + 1 =>
      match nthPosting j ns with
      | none => none
      | some (k', src', d', rest) => some (k', src', d', .posting k src d :: rest)
  | n :: ns =>
    match nthPosting i ns with
    | none => none
    | some (k', src', d', rest) => some (k', src', d', n :: rest)

/-- ATTENTION_POSTING (R10, R11, R22): which of the postings under way is taken first is open. -/
def execAttentionPosting (i : Nat) (s : State) : Host.Outcome State Fault Refusal :=
  event s fun s =>
    match nthPosting i s.notices with
    | none => s
    | some (k, src, d, rest) => (s.setNotices rest).setAttention (takePosting s.attention s.clock k src d)

/-- The ranking keys of an item, the first deciding (R12). -/
def rankKeys (i : AttentionItem) : List Nat :=
  [classCode i.kind, sourceCode i.source, i.first.secs.toNat, i.first.frac, kindCode i.kind]

/-- One list of keys is before another of the same length. -/
def keysBefore : List Nat → List Nat → Bool
  | a :: as, b :: bs => if a = b then keysBefore as bs else decide (a < b)
  | [], _ => false
  | _ :: _, [] => false

/-- The item ranked first (R12). -/
def topItem : List AttentionItem → Option AttentionItem
  | [] => none
  | i :: rest =>
    match topItem rest with
    | none => some i
    | some j => if keysBefore (rankKeys j) (rankKeys i) then some j else some i

/-- TAKE ATTENTION (R13). -/
def execTakeAttention (s : State) : Host.Outcome State Fault Refusal :=
  event s (serve (ofKind 6) parseNone (fun s _ =>
    match topItem s.attention with
    | none => refuse s .empty
    | some i => (s.setAttention (s.attention.filter (fun j => !pairs i.kind i.source j)), .done (.item i))))

/-! ### The settings store -/

/-- The range of a numeric setting, 1 to 17 (section 1.6). -/
def settingRange : Nat → Nat × Nat
  | 1 => (300, 3000)
  | 2 => (20, 200)
  | 3 => (5, 100)
  | 4 => (100, 2500)
  | 5 => (10, 300)
  | 6 => (10, 200)
  | 7 => (10, 100)
  | 8 => (30, 300)
  | 9 => (20, 200)
  | 10 => (50, 600)
  | 11 => (20, 500)
  | 12 => (50, 2000)
  | 13 => (100, 1500)
  | 14 => (1, 200)
  | 15 => (0, 8)
  | 16 => (8, 96)
  | _ => (0, 7)

/-- A numeric setting's value. -/
def settingValue (g : Settings) : Nat → Nat
  | 1 => g.raiseHeight
  | 2 => g.liftStep
  | 3 => g.levelTolerance
  | 4 => g.loadLimit
  | 5 => g.stepTimeout
  | 6 => g.settleTime
  | 7 => g.lowerPace
  | 8 => g.warnTime
  | 9 => g.clampTimeout
  | 10 => g.headTimeout
  | 11 => g.btol
  | 12 => g.vtol
  | 13 => g.cvisit
  | 14 => g.insertLife
  | 15 => g.missingTolerance
  | 16 => g.exportThreshold
  | _ => g.errorIndex

/-- The settings with a numeric setting's value replaced. -/
def storeSetting (g : Settings) (n v : Nat) : Settings :=
  match n with
  | 1 => { g with raiseHeight := v }
  | 2 => { g with liftStep := v }
  | 3 => { g with levelTolerance := v }
  | 4 => { g with loadLimit := v }
  | 5 => { g with stepTimeout := v }
  | 6 => { g with settleTime := v }
  | 7 => { g with lowerPace := v }
  | 8 => { g with warnTime := v }
  | 9 => { g with clampTimeout := v }
  | 10 => { g with headTimeout := v }
  | 11 => { g with btol := v }
  | 12 => { g with vtol := v }
  | 13 => { g with cvisit := v }
  | 14 => { g with insertLife := v }
  | 15 => { g with missingTolerance := v }
  | 16 => { g with exportThreshold := v }
  | _ => { g with errorIndex := v }

/-- The greatest insert pass count among the four heads. -/
def greatestInsertCount (s : State) : Nat :=
  headIds.foldl (fun m h => max m (s.head h).insertCount) 0

/-- The lower limit of a write (R16): the range's, and for insert life (14) the greatest insert pass count where that
is larger. -/
def lowerLimit (s : State) (n : Nat) : Nat :=
  if n = 14 then max (settingRange n).1 (greatestInsertCount s) else (settingRange n).1

/-- SETTING WRITE of a numeric setting (R16). -/
def execSettingWrite (s : State) : Host.Outcome State Fault Refusal :=
  event s (serve isNumericWrite parseSettingWrite (fun s p =>
    let lo := lowerLimit s p.1
    let hi := (settingRange p.1).2
    let put := fun (v : Nat) => s.setSettings (storeSetting s.settings p.1 v)
    if p.2 < lo then (put lo, .adjusted (.setting lo))
    else if hi < p.2 then (put hi, .adjusted (.setting hi))
    else (put p.2, .done (.setting p.2))))

/-- SETTING WRITE of the loop error kinds counted (R18). -/
def execLoopErrorKindsWrite (s : State) : Host.Outcome State Fault Refusal :=
  event s (serve isKindsWrite parseKindsWrite (fun s k =>
    (s.setSettings { s.settings with errorKinds := k }, .done .empty)))

/-- The ten positions of a pit map in role order. -/
def mapPositions (m : PitMap) : List Nat :=
  m.columns.toList ++ m.heads.a.toList ++ m.heads.b.toList ++ m.clamps.toList

/-- The index of the first position of a list that lies outside 1 to 12 or repeats an earlier one. -/
def firstBadPosition (seen : List Nat) (at_ : Nat) : List Nat → Option Nat
  | [] => none
  | p :: ps => if 1 ≤ p ∧ p ≤ 12 ∧ !seen.contains p then firstBadPosition (p :: seen) (at_ + 1) ps else some at_

/-- SETTING WRITE of the pit map (R18). -/
def execPitMapWrite (s : State) : Host.Outcome State Fault Refusal :=
  event s (serve isMapWrite parseMapWrite (fun s m =>
    match firstBadPosition [] 0 (mapPositions m) with
    | some i => (s, .refused .badField (.offset (1 + i)))
    | none => (s.setSettings { s.settings with pitMap := m }, .done .empty)))

/-- SETTING READ (R17). -/
def execSettingRead (s : State) : Host.Outcome State Fault Refusal :=
  event s (serve (ofKind 5) parseSettingRead (fun s n =>
    (s, .done (
      if n = 18 then .settingKinds s.settings.errorKinds
      else if n = 19 then .pitMap s.settings.pitMap
      else .settingRange (settingValue s.settings n) (settingRange n).1 (settingRange n).2))))

/-! ### The pit clock -/

/-- The greatest pit time: 4 294 967 295 s and fraction 63. -/
def clockFull (c : Stamp) : Bool := c.secs == 4294967295#32 && c.frac == 63

/-- The clock advances past its greatest value (R20). -/
def wrapClock (s : State) : State := post (s.setClock startClock) .clockUnset .pit .empty

/-- CLOCK_ADVANCE (R20): one sixty-fourth of a second. -/
def execClockAdvance (s : State) : Host.Outcome State Fault Refusal :=
  event s fun s =>
    if clockFull s.clock then wrapClock s
    else if s.clock.frac < 63 then s.setClock { s.clock with frac := s.clock.frac + 1 }
    else s.setClock { s.clock with secs := s.clock.secs + 1, frac := 0 }

/-- CLOCK_WRAP (R20): the advance from the greatest pit time. -/
def execClockWrap (s : State) : Host.Outcome State Fault Refusal :=
  event s fun s => if clockFull s.clock then wrapClock s else s

/-- SET CLOCK (R21). -/
def execSetClock (s : State) : Host.Outcome State Fault Refusal :=
  event s (serve (ofKind 3) parseClock (fun s t =>
    (s.setClock { secs := t, frac := 0, set := true }, .done (.clock t))))

end Sys2Proof.Machine
end

