-- ==== Sys2Proof/Machine/Link.lean ====
section
/-! DEFINITION. The Link Interface (chapter 1): the frame receiver, the input queue, the transmitter, and the requests
IDENTIFY, STATUS and RESTART. -/

namespace Sys2Proof.Machine

/-- A link counter one higher; it stays at 65 535 (R8). -/
def counted (n : Nat) : Nat := min (n + 1) 65535

/-- The receiver takes bytes: until a taken RESTART and every request before it has been answered and sent. From then
until the coming up, bytes that arrive are lost, uncounted and unanswered (R25, steps 4 and 5). -/
def receiving (s : State) : Bool := !(s.link.restarting && s.link.backlog.isEmpty)

/-- A frame discarded: the counter rises, no reply, HUNTING again (R2). -/
def discardFrame (s : State) : State :=
  s.setLink { s.link with inFrame := false, discarded := counted s.link.discarded }

/-- A good frame's arrival at the input queue (R4): it joins the tail, or is answered BUSY at once. Between the taking
of RESTART and the coming up it joins the queue, is answered WRONG-STATE at once and leaves it (R25, step 3). -/
def deliverFrame (s : State) (f : Frame) : State :=
  if s.link.restarting then
    formReply (s.setLink { s.link with inFrame := false, accepted := counted s.link.accepted }) f (.refused .wrongState .none)
  else if s.link.queue.length < 4 then
    s.setLink { s.link with inFrame := false, queue := s.link.queue ++ [f], accepted := counted s.link.accepted }
  else formReply (s.setLink { s.link with inFrame := false, busy := counted s.link.busy }) f .busy

/-- START_MARK (R2): in HUNTING, the start mark puts the receiver IN-FRAME; any other character, and a framing error,
is ignored. -/
def execStartMark (ch : RxChar) (s : State) : Host.Outcome State Fault Refusal :=
  event s fun s =>
    if receiving s = true ∧ s.link.inFrame = false ∧ ch.stop = true ∧ ch.data.toNat = 165 then
      s.setLink { s.link with inFrame := true }
    else s

/-- GOOD_FRAME_ARRIVAL (R2, R4): the characters after the start mark form a frame whose check agrees. -/
def execGoodFrameArrival (chars : List RxChar) (s : State) : Host.Outcome State Fault Refusal :=
  event s fun s =>
    if receiving s = true ∧ s.link.inFrame = true then
      match received chars with
      | .good f => deliverFrame s f
      | .discarded => s
      | .undecided => s
    else s

/-- FRAME_DISCARD (R2): the characters after the start mark are discarded at the last of them. -/
def execFrameDiscard (chars : List RxChar) (s : State) : Host.Outcome State Fault Refusal :=
  event s fun s => if receiving s = true ∧ s.link.inFrame = true ∧ received chars = .discarded then discardFrame s else s

/-- INTER_BYTE_TIMEOUT (R2): more than 10 ms pass between two bytes of a frame. -/
def execInterByteTimeout (s : State) : Host.Outcome State Fault Refusal :=
  event s fun s => if receiving s = true ∧ s.link.inFrame = true then discardFrame s else s

/-- REPLY_SENT (R6): the last byte of the oldest formed reply has been sent, and the reply leaves the backlog. -/
def execReplySent (s : State) : Host.Outcome State Fault Refusal :=
  event s fun s =>
    match s.link.backlog with
    | [] => s
    | r :: rest => s.setLink { s.link with backlog := rest, sentFrame := replyFrame r }

/-- IDENTIFY (R23). -/
def execIdentify (s : State) : Host.Outcome State Fault Refusal :=
  event s (serve (ofKind 1) parseNone (fun s _ => (s, .done (.identify Config.revisionText))))

/-- What STATUS returns, as it stands (R24). -/
def statusData (s : State) : StatusData :=
  { loop := s.loop.state, lift := s.lift.state, stations := s.stations.map (·.work), zone := s.zone.zone,
    stop := s.zone.stop, attention := s.attention.length, exports := s.history.exportQueue.length,
    accepted := s.link.accepted, busy := s.link.busy, discarded := s.link.discarded, time := s.clock }

/-- STATUS (R24). -/
def execStatus (s : State) : Host.Outcome State Fault Refusal :=
  event s (serve (ofKind 2) parseNone (fun s _ => (s, .done (.status (statusData s)))))

/-- A station is at work or paused: TRACING, CUTTING, SCANNING or PAUSED. -/
def workInHand : WorkState → Bool
  | .tracing => true
  | .cutting => true
  | .scanning => true
  | .paused => true
  | .vacant => false
  | .mounted => false
  | .traced => false
  | .planned => false
  | .held => false
  | .finished => false
  | .condemned => false

/-- The conditions of RESTART (R25). -/
def pitAtRest (s : State) : Bool :=
  (s.lift.state == .lowered || s.lift.state == .unknown) &&
  (s.clamp .A).state == .opened && (s.clamp .B).state == .opened &&
  !workInHand (s.station .A).work && !workInHand (s.station .B).work

/-- The requests that wait behind a taken RESTART are answered WRONG-STATE, in queue order (R25, step 2). -/
def refuseWaiting (s : State) : State :=
  s.setLink { s.link with
    queue := []
    backlog := s.link.backlog ++
      s.link.queue.map (fun f => { tag := f.tag, kind := f.kind, body := .refused .wrongState .none }) }

/-- RESTART (R25). -/
def execRestart (s : State) : Host.Outcome State Fault Refusal :=
  event s fun s =>
    let t := serve (ofKind 7) parseNone
      (fun s _ =>
        if pitAtRest s then (s.setLink { s.link with restarting := true }, .done .empty) else refuse s .unsafe_) s
    if t.link.restarting then refuseWaiting t else t

end Sys2Proof.Machine
end

