-- ==== Sys2Proof/Machine/Loop.lean ====
section
/-! DEFINITION. The Loop Controller (chapter 2): cycles, discovery, the map check and the assignment of roles, LOOP
START, MAP ADOPT and NODE LIST, and the loop-down notice at the three owners. -/

namespace Sys2Proof.Machine

/-! ### The pit map -/

/-- The kind of a role (section 2.1). -/
def kindOf : Role → NodeKind
  | .column _ => .liftColumn
  | .head _ => .wheelHead
  | .clamp _ => .axleClamp

/-- A role's position in a pit map. -/
def mapPosition (m : PitMap) : Role → Nat
  | .column c => m.columns.get c
  | .head h => headGet m.heads h
  | .clamp st => m.clamps.get st

/-- The role whose map position `p` is. -/
def mapRole (m : PitMap) (p : Nat) : Option Role := roles.find? (fun r => mapPosition m r == p)

/-- The table's entry at a position. -/
def entryAt (table : List NodeEntry) (p : Nat) : Option NodeEntry := table.find? (fun e => e.position == p)

/-- Position `p` agrees with the map (R40): no entry where the map has no role, and an entry of the role's kind where
it has one. -/
def positionAgrees (m : PitMap) (table : List NodeEntry) (p : Nat) : Bool :=
  match entryAt table p, mapRole m p with
  | none, none => true
  | none, some _ => false
  | some _, none => false
  | some e, some r => e.kind == kindOf r

/-- The first disagreeing position, lowest first; none is a match (R40). -/
def firstDisagreeing (m : PitMap) (table : List NodeEntry) : Option Nat :=
  ((List.range 12).map (· + 1)).find? (fun p => !positionAgrees m table p)

/-- The entries of one kind, in position order. -/
def entriesOf (table : List NodeEntry) (k : NodeKind) : List NodeEntry := table.filter (fun e => e.kind == k)

/-- The `n`-th position of a kind. -/
def nthPosition (table : List NodeEntry) (k : NodeKind) (n : Nat) : Nat :=
  (((entriesOf table k)[n]?).map (·.position)).getD 0

/-- The pit map that MAP ADOPT stores: roles in increasing position within each kind (R43). -/
def adoptedMap (table : List NodeEntry) : PitMap :=
  let c := nthPosition table .liftColumn
  let h := nthPosition table .wheelHead
  let x := nthPosition table .axleClamp
  { columns := ⟨c 0, c 1, c 2, c 3⟩, heads := ⟨⟨h 0, h 1⟩, ⟨h 2, h 3⟩⟩, clamps := ⟨x 0, x 1⟩ }

/-- The assignment of roles by a map: every entry takes the role whose map position it holds, ACTIVE with count 0, and
the first cycle, number 0, is the next (R41). Until that cycle closes the loop state is DISCOVERING, so that MAP ADOPT
leaves MISMATCH (R42; DEDUCED, log entry 25). -/
def assignRoles (s : State) (m : PitMap) : State :=
  s.setLoop { s.loop with
    state := .discovering
    table := s.loop.table.map (fun e => { e with role := mapRole m e.position, condition := .active, count := 0 })
    cycle := 0
    firstCycle := true }

/-! ### Discovery -/

/-- A discovery step begins its wait on the DISCOVER channel (R35 to R38). -/
def awaitDiscover (s : State) (w : DiscoveryWait) (ms : Nat) : State :=
  startChannel (s.setLoop { s.loop with wait := w }) .discover ms

/-- No discovery step is in flight any more. -/
def endWait (s : State) : State :=
  cancelTimer (s.setLoop { s.loop with wait := .none, discovery := none }) .discover

/-- Discovery stops at segment `p` in FAULTED (R37). -/
def stopDiscovery (s : State) (p : Nat) (o : SegmentOutcome) (localized : Bool) : State :=
  let t := endWait s
  let t := t.setLoop { t.loop with
    state := .faulted, powered := p - 1, chainEnd := p - 1
    fault := some { position := p, outcome := o, localized := localized } }
  send t [.posting .segmentFault (.position p) (.segmentFault o localized (p - 1)),
    .posting .loopState .pit (.loopFaulted (p - 1) p)]

/-- Discovery ends with chain end `n`, and the map check is made (R39 to R42). -/
def endDiscovery (s : State) (n : Nat) : State :=
  let t := endWait s
  let t := t.setLoop { t.loop with chainEnd := n }
  match firstDisagreeing t.settings.pitMap t.loop.table with
  | none => assignRoles t t.settings.pitMap
  | some p =>
    post (t.setLoop { t.loop with state := .mismatch }) .loopState .pit
      (.loopMismatch n p (entriesOf t.loop.table .liftColumn).length (entriesOf t.loop.table .wheelHead).length
        (entriesOf t.loop.table .axleClamp).length)

/-- The diagnosis of segment `p` is ordered (R36). -/
def diagnose (s : State) (p : Nat) : State :=
  awaitDiscover (s.setLoop { s.loop with state := .discovering, discovery := some p }) .diagnosis 40

/-- Take an expiry of DISCOVER that a step of discovery waits for. A stale expiry is disregarded; a current one of
another step is left for that step's own event. -/
def onDiscoverExpiry (s : State) (is : DiscoveryWait → Bool) (act : State → Nat → State) : State :=
  onExpiry s .discover (fun t => if is t.loop.wait then act t (t.loop.discovery.getD 0) else s)

/-- DARK_HOLD_EXPIRY (R35). -/
def execDarkHoldExpiry (s : State) : Host.Outcome State Fault Refusal :=
  event s fun s => onDiscoverExpiry s (fun w => w == .darkHold) (fun t _ => diagnose t 1)

/-- SEGMENT_DIAGNOSIS (R36, R37). One that arrives when the channel has expired, or unasked, is disregarded. -/
def execSegmentDiagnosis (outcome : SegmentOutcome) (localized : Bool) (s : State) : Host.Outcome State Fault Refusal :=
  event s fun s =>
    if s.loop.wait = .diagnosis ∧ s.timers.discover.condition ≠ .idle then
      let p := s.loop.discovery.getD 0
      if outcome = .clean then awaitDiscover (s.setLoop { s.loop with powered := p }) (.query 1) 40
      else stopDiscovery s p outcome (localized && outcome != .undetermined)
    else s

/-- DIAGNOSIS_TIMEOUT (R36). -/
def execDiagnosisTimeout (s : State) : Host.Outcome State Fault Refusal :=
  event s fun s =>
    onDiscoverExpiry s (fun w => w == .diagnosis) (fun t p => stopDiscovery t p .undetermined false)

/-- A new node table entry (R27). -/
def newEntry (p : Nat) (kind : NodeKind) (serial : Word32) : NodeEntry :=
  { position := p, kind := kind, serial := serial, role := none, condition := .active, count := 0, failures := [],
    latest := none }

/-- IDENTITY_ANSWER (R38). -/
def execIdentityAnswer (checkOk : Bool) (kind : NodeKind) (serial : Word32) (s : State) :
    Host.Outcome State Fault Refusal :=
  event s fun s =>
    match s.loop.wait with
    | .query attempt =>
      if s.timers.discover.condition = .idle then s
      else
        let p := s.loop.discovery.getD 0
        if checkOk then
          let t := s.setLoop { s.loop with table := s.loop.table ++ [newEntry p kind serial] }
          if p < 12 then diagnose t (p + 1) else endDiscovery t p
        else if attempt < 3 then awaitDiscover s (.query (attempt + 1)) 40
        else stopDiscovery s p .undetermined false
    | .none => s
    | .darkHold => s
    | .diagnosis => s

/-- The wait is an identity query's. -/
def isQuery : DiscoveryWait → Bool
  | .query _ => true
  | .none => false
  | .darkHold => false
  | .diagnosis => false

/-- IDENTITY_QUERY_TIMEOUT (R38): nothing is at position p, and the switch feeding its segment opens again. -/
def execIdentityQueryTimeout (s : State) : Host.Outcome State Fault Refusal :=
  event s fun s =>
    onDiscoverExpiry s isQuery (fun t p => endDiscovery (t.setLoop { t.loop with powered := p - 1 }) (p - 1))

/-! ### Cycles -/

/-- The order in a role's slot (R28). -/
def orderOf (s : State) : Role → NodeOrder
  | .column c => .column (s.lift.orders.get c)
  | .clamp st => .clamp (s.clamp st).order
  | .head h => .head (s.head h).order

/-- The orders that a cycle's opening sends (R28): one for each node with a role, LOST or not. -/
def cycleOrders (s : State) : List (Nat × NodeOrder) :=
  s.loop.table.filterMap (fun e => e.role.map (fun r => (e.position, orderOf s r)))

/-- Readings are those of a node's kind (section 2.2). -/
def readingsFit : NodeKind → Readings → Bool
  | .liftColumn, .column _ _ _ _ => true
  | .axleClamp, .clamp _ _ _ => true
  | .wheelHead, .head _ => true
  | .liftColumn, .clamp _ _ _ => false
  | .liftColumn, .head _ => false
  | .axleClamp, .column _ _ _ _ => false
  | .axleClamp, .head _ => false
  | .wheelHead, .column _ _ _ _ => false
  | .wheelHead, .clamp _ _ _ => false

/-- The outcome of a node's cycle (R29). Readings of another kind than the node's do not agree with their content
(DESIGN CHOICE, log entry 10). -/
def judge (e : NodeEntry) (cycle : Byte) : Option SlotReport → CycleOutcome
  | none => .failed .silent
  | some r =>
    if r.checkOk = false ∨ readingsFit e.kind r.readings = false then .failed .check
    else if r.cycle ≠ cycle then .failed .order
    else .good r.readings

/-- A node's entry after a cycle (R30 to R32). -/
def judgedEntry (e : NodeEntry) (o : CycleOutcome) : NodeEntry :=
  match e.condition, o with
  | .active, .good r => { e with latest := some r, count := 0 }
  | .active, .failed k =>
    if e.count ≥ 2 then { e with condition := .lost, count := 0, failures := (k :: e.failures).take 3 }
    else { e with count := e.count + 1, failures := (k :: e.failures).take 3 }
  | .lost, .good r =>
    if e.count ≥ 2 then { e with condition := .active, count := 0, latest := some r }
    else { e with count := e.count + 1, latest := some r }
  | .lost, .failed _ => { e with count := 0 }

/-- The NODE-LOST posting of a node (R31, R32). -/
def nodeLostNotice (role : Role) (e : NodeEntry) (failures : List LoopError) : Notice :=
  .posting .nodeLost (.position e.position) (.nodeLost role e.kind e.serial e.condition failures)

/-- What a judged node's cycle hands on (R30 to R32). `first` says that this is the first cycle, whose good reports go
into the loop-up notice instead (R45). -/
def judgedNotices (first : Bool) (role : Role) (e : NodeEntry) (o : CycleOutcome) : List Notice :=
  let n := judgedEntry e o
  match e.condition, o with
  | .active, .good r => noticeIf (!first) (.report role r)
  | .active, .failed _ => if n.condition = .lost then [.lost role, nodeLostNotice role n n.failures] else []
  | .lost, .good r => if n.condition = .active then [.regained role r, nodeLostNotice role n []] else []
  | .lost, .failed _ => []

/-- One more failure of a kind in its tally; a tally stays at 65 535 (R33). -/
def tallied (t : Tallies) : LoopError → Tallies
  | .check => { t with check := min (t.check + 1) 65535 }
  | .silent => { t with silent := min (t.silent + 1) 65535 }
  | .order => { t with order := min (t.order + 1) 65535 }

/-- A loop error kind is among those counted. -/
def kindCounted (k : ErrorKinds) : LoopError → Bool
  | .check => k.check
  | .silent => k.silent
  | .order => k.order

/-- The cycle's failures are taken (R33). -/
def takeFailures (s : State) (fs : List LoopError) : State :=
  let tallies := fs.foldl tallied s.loop.tallies
  let added := (fs.filter (kindCounted s.settings.errorKinds)).length
  let threshold := 2 ^ (s.settings.errorIndex + 1)
  if 0 < added ∧ threshold ≤ s.loop.errors + added then
    post (s.setLoop { s.loop with errors := 0, tallies := { check := 0, silent := 0, order := 0 } })
      .loopQuality .pit (.loopQuality tallies threshold)
  else s.setLoop { s.loop with errors := s.loop.errors + added, tallies := tallies }

/-- The outcomes of the first cycle at an owner's nodes, in role order (R45). -/
def ownOutcomes (o : LoopOwner) (js : List (Role × CycleOutcome)) : List (Role × CycleOutcome) :=
  (rolesOf o).filterMap (fun r => (js.find? (fun j => j.1 == r)))

/-- The failures of ACTIVE nodes in a cycle (R33). -/
def activeFailures (js : List (NodeEntry × CycleOutcome)) : List LoopError :=
  js.filterMap (fun j => match j.1.condition, j.2 with
    | .active, .failed k => some k
    | .active, .good _ => none
    | .lost, _ => none)

/-- LOOP_CYCLE (R28 to R33, R41, R45): in RUNNING, and once after roles are assigned. -/
def execLoopCycle (slots : List (Nat × SlotReport)) (s : State) : Host.Outcome State Fault Refusal :=
  event s fun s =>
    if s.loop.state = .running ∨ s.loop.firstCycle = true then
      let first := s.loop.firstCycle
      let js := s.loop.table.map (fun e => (e, judge e s.loop.cycle (sparseGet slots e.position)))
      let rs := js.filterMap (fun j => j.1.role.map (fun r => (r, j)))
      let t := s.setLoop { s.loop with
        sent := cycleOrders s
        table := js.map (fun j => if j.1.role.isSome then judgedEntry j.1 j.2 else j.1)
        cycle := s.loop.cycle + 1
        firstCycle := false
        state := .running }
      let t := takeFailures t (activeFailures (rs.map (·.2)))
      let t := send t (rs.flatMap (fun r => judgedNotices first r.1 r.2.1 r.2.2))
      if first then
        let outs := rs.map (fun r => (r.1, r.2.2))
        send t [.posting .loopState .pit (.loopRunning t.loop.chainEnd),
          .loopUp .lift (ownOutcomes .lift outs), .loopUp .clamps (ownOutcomes .clamps outs),
          .loopUp .heads (ownOutcomes .heads outs)]
      else t
    else s

/-! ### The requests -/

/-- The lift group is WARNING, RAISING, SETTLING or LOWERING. -/
def liftMoving : LiftState → Bool
  | .warning => true
  | .raising => true
  | .settling => true
  | .lowering => true
  | .unknown => false
  | .lowered => false
  | .raised => false
  | .holding => false
  | .faulted => false

/-- A clamp travels: CLOSING or OPENING. -/
def clampTravels (c : Clamp) : Bool := c.state == .closing || c.state == .opening

/-- The conditions of LOOP START, in order (R34). -/
def loopStartConditions (s : State) : List (Bool × Reason) :=
  [(!workInHand (s.station .A).work && !workInHand (s.station .B).work, .wrongState),
   (!liftMoving s.lift.state, .liftMoving),
   (!clampTravels (s.clamp .A) && !clampTravels (s.clamp .B) &&
      headIds.all (fun h => (s.head h).state != .returning), .wrongState)]

/-- The loop goes dark and the dark hold begins (R34, steps 1 to 5). -/
def startLoopDark (s : State) : State :=
  let t := if s.loop.state = .running then send s [.loopDown .lift, .loopDown .clamps, .loopDown .heads] else s
  let t := if t.loop.wait = .none then t else cancelTimer t .discover
  let t := t.setLoop { t.loop with
    state := .dark, table := [], chainEnd := 0, discovery := none, errors := 0
    tallies := { check := 0, silent := 0, order := 0 }
    fault := none, powered := 0, firstCycle := false, sent := [] }
  awaitDiscover t .darkHold 500

/-- LOOP START (R34). -/
def execLoopStart (s : State) : Host.Outcome State Fault Refusal :=
  event s (serve (ofKind 10) parseNone (fun s _ =>
    match firstFailing (loopStartConditions s) with
    | some r => refuse s r
    | none => (startLoopDark s, .started)))

/-- MAP ADOPT (R43). -/
def execMapAdopt (s : State) : Host.Outcome State Fault Refusal :=
  event s (serve (ofKind 11) parseNone (fun s _ =>
    if s.loop.state ≠ .mismatch then refuse s .wrongState
    else if (entriesOf s.loop.table .liftColumn).length = 4 ∧ (entriesOf s.loop.table .wheelHead).length = 4 ∧
        (entriesOf s.loop.table .axleClamp).length = 2 then
      let m := adoptedMap s.loop.table
      (assignRoles (s.setSettings { s.settings with pitMap := m }) m, .done (.pitMap m))
    else (s, .refused .badField (.offset 0))))

/-- NODE LIST (R47). -/
def execNodeList (s : State) : Host.Outcome State Fault Refusal :=
  event s (serve (ofKind 12) parseNone (fun s _ =>
    (s, .done (.nodeList s.loop.state s.loop.chainEnd (if s.loop.state = .faulted then s.loop.fault else none)
      s.loop.table))))

/-! ### The owners' view of the loop -/

/-- LOOP_DOWN_NOTICE (R46): the owner's view is down; what it owns keeps its states. -/
def execLoopDownNotice (owner : LoopOwner) (s : State) : Host.Outcome State Fault Refusal :=
  event s fun s =>
    onNotice s (fun n => n == .loopDown owner) (fun _ t =>
      match owner with
      | .lift => t.setLift { t.lift with loopUp := false }
      | .clamps => t.setClamps { t.clamps with loopUp := false }
      | .heads => t.setHeads { t.heads with loopUp := false })

end Sys2Proof.Machine
end

