-- ==== Sys2Proof/Machine/Lift.lean ====
section
/-! DEFINITION. The Lift Coordinator (sections 4.1 to 4.8). -/

namespace Sys2Proof.Machine

/-- The four columns' heights, and their loads. -/
def liftHeights (l : Lift) : PerColumn (Option Nat) := l.columns.map (·.height)
def liftLoads (l : Lift) : PerColumn (Option Nat) := l.columns.map (·.load)

/-- HOLD in all four order slots; each record's current setpoint is then its reported height, with no next setpoint
(R66, section 4.1). -/
def holdColumns (l : Lift) : Lift :=
  { l with orders := .all .hold, columns := l.columns.map (fun c => { c with current := c.height, next := none }) }

/-- The running lift channels are cancelled (R80, R82). -/
def cancelLift (s : State) : State :=
  cancelRunning (cancelRunning (cancelRunning (cancelRunning s .warn) .step) .settle) .pace

/-- One column's particulars in LIFT-STOPPED (section 4.2). -/
def columnDetail (l : Lift) (c : Column) : ColumnDetail :=
  let r := l.columns.get c
  { column := c, condition := r.condition, height := r.height, load := r.load, status := r.status, lastAck := r.lastAck }

/-- LIFT-STOPPED, with the lift as it stands (section 4.2). -/
def postLiftStopped (s : State) (p : Particulars) : State :=
  post s .liftStopped .lift
    (.liftStopped s.lift.state s.lift.holdReason s.lift.direction s.lift.stepIndex
      (columns.map (columnDetail s.lift)) p)

/-- LIFT-DONE, with the heights and loads (R77, R78). -/
def postLiftDone (s : State) (raised : Bool) : State :=
  post s .liftDone .lift (.liftDone raised (liftHeights s.lift) (liftLoads s.lift))

/-- The lift enters HOLDING (R80). -/
def enterHolding (s : State) (reason : HoldReason) (p : Particulars) : State :=
  let t := cancelLift s
  postLiftStopped (t.setLift { holdColumns t.lift with state := .holding, holdReason := some reason }) p

/-- The lift enters FAULTED on the loss of column `c` (R82). -/
def enterLiftFaulted (s : State) (c : Column) : State :=
  let t := cancelLift s
  let t := t.setLift { holdColumns t.lift with state := .faulted, holdReason := none }
  send (postLiftStopped t (.lost c)) [.liftFaulted .A, .liftFaulted .B]

/-- The lift enters WARNING (R73), any hold reason removed (R71, R72). -/
def enterWarning (s : State) : State :=
  let l := holdColumns s.lift
  startTimer (s.setLift { l with
    state := .warning, holdReason := none, stepIndex := 0, finalIndex := none
    columns := l.columns.map (fun c => { c with lastAck := 0 }) }) .warn

/-! ### Raising -/

/-- The highest reported height; a column with none takes no part (log entry 11). -/
def highestHeight (l : Lift) : Nat := l.columns.toList.foldl (fun m c => max m (c.height.getD 0)) 0

/-- A raising step is offered to all four columns (R74). -/
def offerStep (s : State) (setpoint : Nat) : State :=
  let i := s.lift.stepIndex + 1
  startTimer (s.setLift { s.lift with
    stepIndex := i, issued := setpoint
    orders := .all (.move [{ index := i, setpoint := setpoint }])
    columns := s.lift.columns.map (fun c => { c with current := some setpoint, next := none }) }) .step

/-- The first raising step's setpoint: the smallest multiple of the lift step above the highest height, reduced to the
raise height (R74). -/
def firstRaise (g : Settings) (l : Lift) : Nat := min ((highestHeight l / g.liftStep + 1) * g.liftStep) g.raiseHeight

/-- The lift enters RAISING (R74). -/
def enterRaising (s : State) : State :=
  offerStep (s.setLift { s.lift with state := .raising }) (firstRaise s.settings s.lift)

/-- The columns with their heights, where reported. -/
def heightList (l : Lift) : List (Column × Nat) :=
  columns.filterMap (fun c => (l.columns.get c).height.map (fun h => (c, h)))

/-- The highest and the lowest column; the first in the order J1 to J4 where heights are equal (log entry 12). -/
def highestColumn : List (Column × Nat) → Option (Column × Nat)
  | [] => none
  | x :: xs =>
    match highestColumn xs with
    | none => some x
    | some y => if x.2 < y.2 then some y else some x

def lowestColumn : List (Column × Nat) → Option (Column × Nat)
  | [] => none
  | x :: xs =>
    match lowestColumn xs with
    | none => some x
    | some y => if y.2 < x.2 then some y else some x

/-- The failing check of the level check and the load check, in that order, with its hold (R75). -/
def levelAndLoad (g : Settings) (l : Lift) : Option (HoldReason × Particulars) :=
  let heavy := columns.filter (fun c => decide (g.loadLimit < ((l.columns.get c).load).getD 0))
  match highestColumn (heightList l), lowestColumn (heightList l) with
  | some hi, some lo =>
    if g.levelTolerance < hi.2 - lo.2 then some (.level, .level hi.1 lo.1 (hi.2 - lo.2))
    else if heavy.isEmpty then none
    else some (.overload, .overload heavy)
  | none, _ => if heavy.isEmpty then none else some (.overload, .overload heavy)
  | _, none => if heavy.isEmpty then none else some (.overload, .overload heavy)

/-- All four records show an index as their last acknowledged. -/
def allAcknowledged (l : Lift) (i : Nat) : Bool := l.columns.toList.all (fun c => c.lastAck == i)

/-- The lift enters SETTLING (R77). -/
def enterSettling (s : State) : State :=
  startTimer (s.setLift { holdColumns s.lift with state := .settling }) .settle

/-- The step check in RAISING (R75). -/
def stepCheck (s : State) : State :=
  if allAcknowledged s.lift s.lift.stepIndex then
    let t := cancelTimer s .step
    match levelAndLoad t.settings t.lift with
    | some (reason, p) => enterHolding t reason p
    | none =>
      if t.settings.raiseHeight ≤ t.lift.issued then enterSettling t
      else offerStep t (min (t.lift.issued + t.settings.liftStep) t.settings.raiseHeight)
  else s

/-! ### Lowering -/

/-- A lowering step added to a column's MOVE order (R78). -/
def addStepOrder (x : LiftStep) : ColumnOrder → ColumnOrder
  | .hold => .move [x]
  | .move steps => .move (steps ++ [x])

/-- A lowering step added to a column's record (R78). -/
def addStepRec (x : LiftStep) (order : ColumnOrder) (c : ColumnRec) : ColumnRec :=
  match order with
  | .move (_ :: _) => { c with next := some x }
  | .move [] => { c with current := some x.setpoint, next := none }
  | .hold => { c with current := some x.setpoint, next := none }

/-- A lowering step is issued; the one with setpoint 0 is the final step (R78). -/
def issueStep (s : State) (setpoint : Nat) : State :=
  let l := s.lift
  let x : LiftStep := { index := l.stepIndex + 1, setpoint := setpoint }
  s.setLift { l with
    stepIndex := x.index, issued := setpoint
    finalIndex := if setpoint = 0 then some x.index else l.finalIndex
    orders := l.orders.map (addStepOrder x)
    columns := ⟨addStepRec x l.orders.j1 l.columns.j1, addStepRec x l.orders.j2 l.columns.j2,
                addStepRec x l.orders.j3 l.columns.j3, addStepRec x l.orders.j4 l.columns.j4⟩ }

/-- The least of a list of numbers, 0 for none. -/
def leastOf : List Nat → Nat
  | [] => 0
  | [x] => x
  | x :: xs => min x (leastOf xs)

/-- The lift enters LOWERING from the lowest current setpoint (R78). A record without one takes no part, and with none in any
record the base is 0 (DESIGN CHOICE, log entry 11). -/
def enterLowering (s : State) : State :=
  let base := leastOf (s.lift.columns.toList.filterMap (·.current))
  startTimer (issueStep (s.setLift { s.lift with state := .lowering, orders := .all (.move []) })
    (base - s.settings.liftStep)) .pace

/-- The completion check in LOWERING (R78). -/
def completionCheck (s : State) : State :=
  match s.lift.finalIndex with
  | none => s
  | some i =>
    if allAcknowledged s.lift i then
      let t := cancelTimer s .pace
      postLiftDone (t.setLift { holdColumns t.lift with state := .lowered }) false
    else s

/-- The least last acknowledged index among the four records (R79). -/
def leastAck (l : Lift) : Nat := leastOf (l.columns.toList.map (·.lastAck))

/-- The lag test and what a PACE expiry in LOWERING goes on to do (R79). -/
def paceStep (s : State) : State :=
  let l := s.lift
  if l.stepIndex ≥ leastAck l + 2 then
    enterHolding s .lag (.lag ((columns.filter (fun c => (l.columns.get c).lastAck == leastAck l)).map
      (fun c => (c, (l.columns.get c).height, (l.columns.get c).status))))
  else
    match l.finalIndex with
    | none => issueStep s (l.issued - s.settings.liftStep)
    | some _ => s.setLift { l with stepIndex := l.stepIndex + 1 }

/-! ### Column reports -/

/-- The steps of an order. -/
def orderSteps : ColumnOrder → List LiftStep
  | .hold => []
  | .move steps => steps

/-- A step index acknowledged, in the column's record and in its MOVE order (R67). -/
def acknowledge (ack : Nat) (r : ColumnRec) (o : ColumnOrder) : ColumnRec × ColumnOrder :=
  match o with
  | .hold => ({ r with lastAck := ack }, .hold)
  | .move steps =>
    let owed := steps.filter (fun x => decide (ack < x.index))
    let done := steps.filter (fun x => decide (x.index ≤ ack))
    let current := match owed.head?, done.getLast? with
      | some x, _ => some x.setpoint
      | none, some x => some x.setpoint
      | none, none => r.current
    ({ r with lastAck := ack, current := current, next := none }, .move owed)

/-- The highest index issued in the present run (R67): in LOWERING the step index may count past the final step. -/
def highestIssued (l : Lift) : Nat := l.finalIndex.getD l.stepIndex

/-- A column's good report recorded, and any acknowledgement taken (R67). An index below the last acknowledged one changes
nothing more, as 0 does (DESIGN CHOICE, log entry 50). -/
def recordColumn (l : Lift) (c : Column) (height load : Nat) (status : ColumnStatus) (ack : Nat) : Lift :=
  let o := l.orders.get c
  let r0 := l.columns.get c
  let r := { r0 with height := some height, load := some load, status := some status
                     current := if o = .hold then some height else r0.current }
  if r.lastAck < ack ∧ ack ≤ highestIssued l ∧ l.state ≠ .warning then
    let p := acknowledge ack r o
    { l with columns := l.columns.set c p.1, orders := l.orders.set c p.2 }
  else { l with columns := l.columns.set c r }

/-- The readings of a column report recorded. -/
def recordColumnReadings (l : Lift) (c : Column) : Readings → Lift
  | .column height load status ack => recordColumn l c height load status ack
  | .clamp _ _ _ => l
  | .head _ => l

/-- The check that the lift state calls for after a report is recorded (R67). -/
def liftCheck (s : State) : State :=
  match s.lift.state with
  | .raising => stepCheck s
  | .lowering => completionCheck s
  | .unknown => s
  | .lowered => s
  | .warning => s
  | .settling => s
  | .raised => s
  | .holding => s
  | .faulted => s

/-- A report notice of a role. -/
def isReport (r : Role) : Notice → Bool
  | .report x _ => x == r
  | _ => false

/-- A node-regained notice of a role. -/
def isRegained (r : Role) : Notice → Bool
  | .regained x _ => x == r
  | _ => false

/-- A loop-up notice of an owner. -/
def isLoopUp (o : LoopOwner) : Notice → Bool
  | .loopUp x _ => x == o
  | _ => false

/-- The readings that a report or a node-regained notice carries. -/
def noticeReadings : Notice → Option Readings
  | .report _ r => some r
  | .regained _ r => some r
  | _ => none

/-- COLUMN_REPORT (R67). -/
def execColumnReport (c : Column) (s : State) : Host.Outcome State Fault Refusal :=
  event s fun s =>
    onNotice s (isReport (.column c)) (fun n t =>
      match noticeReadings n with
      | none => t
      | some r => liftCheck (t.setLift (recordColumnReadings t.lift c r)))

/-- COLUMN_LOST (R82). -/
def execColumnLost (c : Column) (s : State) : Host.Outcome State Fault Refusal :=
  event s fun s =>
    onNotice s (fun n => n == .lost (.column c)) (fun _ t =>
      let t := t.setLift { t.lift with columns := t.lift.columns.set c { t.lift.columns.get c with condition := .lost } }
      match t.lift.state with
      | .lowered => t
      | .unknown => t
      | .faulted => postLiftStopped t (.lost c)
      | .warning => enterLiftFaulted t c
      | .raising => enterLiftFaulted t c
      | .settling => enterLiftFaulted t c
      | .raised => enterLiftFaulted t c
      | .lowering => enterLiftFaulted t c
      | .holding => enterLiftFaulted t c)

/-- COLUMN_REGAINED (R83). -/
def execColumnRegained (c : Column) (s : State) : Host.Outcome State Fault Refusal :=
  event s fun s =>
    onNotice s (isRegained (.column c)) (fun n t =>
      let l := { t.lift with columns := t.lift.columns.set c { t.lift.columns.get c with condition := .active } }
      match noticeReadings n with
      | none => t.setLift l
      | some r => t.setLift (recordColumnReadings l c r))

/-- A column's record as the loop-up notice fills it (R68). R68 does not name the last acknowledged step index; it starts
at 0, as at power-up (DESIGN CHOICE, log entry 38). -/
def loopUpColumn : Option CycleOutcome → ColumnRec
  | some (.good (.column height load status _)) =>
    { startColumn with height := some height, load := some load, status := some status, current := some height }
  | some (.good (.clamp _ _ _)) => startColumn
  | some (.good (.head _)) => startColumn
  | some (.failed _) => startColumn
  | none => startColumn

/-- The outcome of a role's first cycle. -/
def outcomeOf (outs : List (Role × CycleOutcome)) (r : Role) : Option CycleOutcome :=
  (outs.find? (fun o => o.1 == r)).map (·.2)

/-- The outcomes that a loop-up notice carries. -/
def noticeOutcomes : Notice → List (Role × CycleOutcome)
  | .loopUp _ outs => outs
  | _ => []

/-- LIFT_LOOP_UP (R68). A lift that a request set moving between LOOP START and the loop-down notice is placed as any other,
its running channels left as they are (DESIGN CHOICE, log entry 51). -/
def execLiftLoopUp (s : State) : Host.Outcome State Fault Refusal :=
  event s fun s =>
    onNotice s (isLoopUp .lift) (fun n t =>
      let rec_ := fun c => loopUpColumn (outcomeOf (noticeOutcomes n) (.column c))
      let recs : PerColumn ColumnRec := ⟨rec_ .J1, rec_ .J2, rec_ .J3, rec_ .J4⟩
      let l := { t.lift with
        columns := recs, orders := .all .hold, direction := .up, stepIndex := 0, finalIndex := none, loopUp := true }
      if recs.toList.all (fun r => r.height == some 0) then
        t.setLift { l with state := .lowered, holdReason := none }
      else
        postLiftStopped (t.setLift { l with state := .holding, holdReason := some .recovered })
          (.failedFirstCycle (columns.filter (fun c => (recs.get c).height.isNone))))

/-! ### The requests -/

/-- The shared conditions of LIFT RAISE, LIFT LOWER and LIFT RESUME, in order (R69). The clamps are judged as they stand, also
where Clamp Control has its loop-up notice still to take (DESIGN CHOICE, log entry 52). -/
def liftConditions (s : State) : List (Bool × Reason) :=
  [(s.lift.loopUp, .loopNotRunning),
   (s.lift.columns.toList.all (fun c => c.condition == .active), .nodeUnavailable),
   ((s.clamp .A).state == .opened && (s.clamp .B).state == .opened, .clampNotOpen),
   (!workInHand (s.station .A).work && !workInHand (s.station .B).work, .wrongState),
   (s.zone.zone == .clear, .zoneBreached),
   (s.zone.stop == .healthy, .stopped)]

/-- LIFT RAISE (R70). -/
def execLiftRaise (s : State) : Host.Outcome State Fault Refusal :=
  event s (serve (ofKind 13) parseNone (fun s _ =>
    match firstFailing ((s.lift.state == .lowered, .wrongState) :: liftConditions s) with
    | some r => refuse s r
    | none => (enterWarning (s.setLift { s.lift with direction := .up }), .started)))

/-- LIFT LOWER (R71). -/
def execLiftLower (s : State) : Host.Outcome State Fault Refusal :=
  event s (serve (ofKind 14) parseNone (fun s _ =>
    match firstFailing
        ((s.lift.state == .raised || s.lift.state == .holding || s.lift.state == .faulted, .wrongState) ::
          liftConditions s) with
    | some r => refuse s r
    | none => (enterWarning (s.setLift { s.lift with direction := .down }), .started)))

/-- LIFT RESUME (R72). -/
def execLiftResume (s : State) : Host.Outcome State Fault Refusal :=
  event s (serve (ofKind 16) parseNone (fun s _ =>
    match firstFailing ((s.lift.state == .holding, .wrongState) :: liftConditions s) with
    | some r => refuse s r
    | none => (enterWarning s, .started)))

/-- LIFT STOP (R81). -/
def execLiftStop (s : State) : Host.Outcome State Fault Refusal :=
  event s (serve (ofKind 15) parseNone (fun s _ =>
    if liftMoving s.lift.state then (enterHolding s .host .none, .done (.liftHeld (liftHeights s.lift)))
    else refuse s .wrongState))

/-! ### Timer expiries -/

/-- WARN_EXPIRY (R73). -/
def execWarnExpiry (s : State) : Host.Outcome State Fault Refusal :=
  event s fun s =>
    onExpiry s .warn (fun t =>
      if t.lift.state = .warning then
        match t.lift.direction with
        | .up => enterRaising t
        | .down => enterLowering t
      else t)

/-- STEP_EXPIRY (R76). -/
def execStepExpiry (s : State) : Host.Outcome State Fault Refusal :=
  event s fun s =>
    onExpiry s .step (fun t =>
      if t.lift.state = .raising then
        enterHolding t .stepTimeout (.timeout
          ((columns.filter (fun c => decide ((t.lift.columns.get c).lastAck < t.lift.stepIndex))).map
            (fun c => (c, (t.lift.columns.get c).status))))
      else t)

/-- SETTLE_EXPIRY (R77). -/
def execSettleExpiry (s : State) : Host.Outcome State Fault Refusal :=
  event s fun s =>
    onExpiry s .settle (fun t =>
      if t.lift.state = .settling then
        match levelAndLoad t.settings t.lift with
        | some (reason, p) => enterHolding t reason p
        | none => postLiftDone (t.setLift { holdColumns t.lift with state := .raised }) true
      else t)

/-- PACE_EXPIRY (R79). -/
def execPaceExpiry (s : State) : Host.Outcome State Fault Refusal :=
  event s fun s => onExpiry s .pace (fun t => if t.lift.state = .lowering then paceStep t else t)

/-! ### Zone and stop notices -/

/-- LIFT_BREACH_NOTICE (R81). -/
def execLiftBreachNotice (s : State) : Host.Outcome State Fault Refusal :=
  event s fun s =>
    onNotice s (fun n => n == .liftBreach) (fun _ t =>
      let t := t.setLift { t.lift with view := { t.lift.view with zone := t.zone.zone } }
      if t.lift.state = .warning ∨ t.lift.state = .raising ∨ t.lift.state = .lowering then enterHolding t .zone .none
      else t)

/-- LIFT_BREAK_NOTICE (R81). -/
def execLiftBreakNotice (s : State) : Host.Outcome State Fault Refusal :=
  event s fun s =>
    onNotice s (fun n => n == .liftBreak) (fun _ t =>
      let t := t.setLift { t.lift with view := { t.lift.view with stop := t.zone.stop } }
      if liftMoving t.lift.state then enterHolding t .stopped .none else t)

end Sys2Proof.Machine
end

