-- ==== Sys2Proof/Machine/Clamp.lean ====
section
/-! DEFINITION. Clamp Control (section 4.9). -/

namespace Sys2Proof.Machine

/-- A report is closed: the jaws AT-CLOSED, the force at least the holding force (R84). -/
def reportClosed (jaw : Jaw) (force holding : Nat) : Bool := jaw == .atClosed && decide (holding ≤ force)

/-- The order of a state (R84). -/
def clampOrder : ClampState → ClampOrder
  | .opened => .opened
  | .opening => .opened
  | .closing => .close
  | .closed => .close
  | .faulted => .hold

/-- A clamp's report recorded. -/
def recordClamp (c : Clamp) (jaw : Jaw) (force holding : Nat) : Clamp :=
  { c with jaw := some jaw, force := some force, holding := some holding }

/-- A clamp's readings recorded. -/
def recordClampReadings (c : Clamp) : Readings → Clamp
  | .clamp jaw force holding => recordClamp c jaw force holding
  | .column _ _ _ _ => c
  | .head _ => c

/-- The clamp enters FAULTED with a cause (R89). -/
def faultClamp (s : State) (st : StationId) (cause : ClampCause) : State :=
  let c := s.clamp st
  post ((cancelTimer s (.clamp st)).setClamp st { c with state := .faulted, cause := some cause, order := .hold })
    .clampFault (.station st) (.clampFault st cause c.state c.jaw c.force c.holding)

/-- The clamp enters a state other than FAULTED, its order following the state (R84). -/
def moveClamp (s : State) (st : StationId) (x : ClampState) : State :=
  s.setClamp st { s.clamp st with state := x, cause := none, order := clampOrder x }

/-- The conditions of CLAMP CLOSE, in order (R84). -/
def clampCloseConditions (s : State) (st : StationId) : List (Bool × Reason) :=
  [((s.station st).occupant.isSome, .wrongState),
   (s.clamps.loopUp, .loopNotRunning),
   ((s.clamp st).condition == .active, .nodeUnavailable),
   (s.lift.state == .raised, .liftNotRaised),
   ((s.clamp st).state == .opened, .clampNotOpen),
   (s.zone.stop == .healthy, .stopped)]

/-- CLAMP CLOSE (R84). -/
def execClampClose (s : State) : Host.Outcome State Fault Refusal :=
  event s (serve (ofKind 17) parseStation (fun s st =>
    match firstFailing (clampCloseConditions s st) with
    | some r => refuse s r
    | none => (startTimer (moveClamp s st .closing) (.clamp st), .started)))

/-- The conditions of CLAMP OPEN, in order (R85). -/
def clampOpenConditions (s : State) (st : StationId) : List (Bool × Reason) :=
  [(!workInHand (s.station st).work, .wrongState),
   (s.clamps.loopUp, .loopNotRunning),
   ((s.clamp st).condition == .active, .nodeUnavailable),
   ((s.clamp st).state == .closed || (s.clamp st).state == .faulted, .wrongState),
   (s.zone.stop == .healthy, .stopped)]

/-- CLAMP OPEN (R85). -/
def execClampOpen (s : State) : Host.Outcome State Fault Refusal :=
  event s (serve (ofKind 18) parseStation (fun s st =>
    match firstFailing (clampOpenConditions s st) with
    | some r => refuse s r
    | none => (startTimer (moveClamp s st .opening) (.clamp st), .started)))

/-- What a recorded report does by the clamp's state (R86, R88). -/
def clampReported (s : State) (st : StationId) (jaw : Jaw) (force holding : Nat) : State :=
  let t := s.setClamp st (recordClamp (s.clamp st) jaw force holding)
  match (t.clamp st).state with
  | .closing =>
    if reportClosed jaw force holding then cancelTimer (moveClamp t st .closed) (.clamp st) else t
  | .opening => if jaw = .atOpen then cancelTimer (moveClamp t st .opened) (.clamp st) else t
  | .closed =>
    if reportClosed jaw force holding then t else send (faultClamp t st .force) [.clampFailed st]
  | .opened => t
  | .faulted => t

/-- CLAMP_REPORT (R86, R88). -/
def execClampReport (st : StationId) (s : State) : Host.Outcome State Fault Refusal :=
  event s fun s =>
    onNotice s (isReport (.clamp st)) (fun n t =>
      match noticeReadings n with
      | some (.clamp jaw force holding) => clampReported t st jaw force holding
      | some (.column _ _ _ _) => t
      | some (.head _) => t
      | none => t)

/-- CLAMP_TIMER_EXPIRY (R86). -/
def execClampTimerExpiry (st : StationId) (s : State) : Host.Outcome State Fault Refusal :=
  event s fun s =>
    onExpiry s (.clamp st) (fun t => if clampTravels (t.clamp st) then faultClamp t st .timeout else t)

/-- CLAMP_BREAK_NOTICE (R90). -/
def execClampBreakNotice (s : State) : Host.Outcome State Fault Refusal :=
  event s fun s =>
    onNotice s (fun n => n == .clampBreak) (fun _ t =>
      let t := t.setClamps { t.clamps with view := { t.clamps.view with stop := t.zone.stop } }
      let t := if clampTravels (t.clamp .A) then faultClamp t .A .stopped else t
      if clampTravels (t.clamp .B) then faultClamp t .B .stopped else t)

/-- CLAMP_LOST (R90). -/
def execClampLost (st : StationId) (s : State) : Host.Outcome State Fault Refusal :=
  event s fun s =>
    onNotice s (fun n => n == .lost (.clamp st)) (fun _ t =>
      let t := t.setClamp st { t.clamp st with condition := .lost }
      match (t.clamp st).state with
      | .closing => faultClamp t st .lost
      | .opening => faultClamp t st .lost
      | .closed => send (faultClamp t st .lost) [.clampFailed st]
      | .opened => t
      | .faulted => t)

/-- CLAMP_REGAINED (R90). -/
def execClampRegained (st : StationId) (s : State) : Host.Outcome State Fault Refusal :=
  event s fun s =>
    onNotice s (isRegained (.clamp st)) (fun n t =>
      let c := { t.clamp st with condition := .active }
      match noticeReadings n with
      | none => t.setClamp st c
      | some r => t.setClamp st (recordClampReadings c r))

/-- A clamp's derivation from its first cycle (R91). Where that cycle failed, the readings stay those from before the derivation
(DESIGN CHOICE, log entry 53). -/
def deriveClamp (outs : List (Role × CycleOutcome)) (s : State) (st : StationId) : State :=
  let c := { s.clamp st with condition := .active }
  match outcomeOf outs (.clamp st) with
  | some (.good (.clamp jaw force holding)) =>
    let t := s.setClamp st (recordClamp c jaw force holding)
    if reportClosed jaw force holding then moveClamp t st .closed
    else if jaw = .atOpen then moveClamp t st .opened
    else faultClamp t st .recovered
  | some (.good (.column _ _ _ _)) => faultClamp (s.setClamp st c) st .recovered
  | some (.good (.head _)) => faultClamp (s.setClamp st c) st .recovered
  | some (.failed _) => faultClamp (s.setClamp st c) st .recovered
  | none => faultClamp (s.setClamp st c) st .recovered

/-- CLAMP_LOOP_UP (R91). The channel of a clamp that was travelling is cancelled where the clamp faults and otherwise left
as it is, also where a request set it travelling between LOOP START and the loop-down notice (DESIGN CHOICE, log entry 51). A
lift or an operation that a request began after another owner's loop-up notice goes on (DESIGN CHOICE, log entry 52). -/
def execClampLoopUp (s : State) : Host.Outcome State Fault Refusal :=
  event s fun s =>
    onNotice s (isLoopUp .clamps) (fun n t =>
      let t := t.setClamps { t.clamps with loopUp := true }
      deriveClamp (noticeOutcomes n) (deriveClamp (noticeOutcomes n) t .A) .B)

end Sys2Proof.Machine
end

