-- ==== Sys2Proof/Machine/Head.lean ====
section
/-! DEFINITION. Head Control (section 5.6). -/

namespace Sys2Proof.Machine

/-- A head is in TRACING, CUTTING or SCANNING. -/
def headWorking : HeadState → Bool
  | .tracing => true
  | .cutting => true
  | .scanning => true
  | .parked => false
  | .paused => false
  | .returning => false
  | .faulted => false

/-- The working state of a task's kind (R103). -/
def taskState : HeadTask → HeadState
  | .walk _ => .tracing
  | .passes _ _ => .cutting
  | .scan _ _ => .scanning

/-- The order of a task (R102). -/
def taskOrder : HeadTask → HeadOrder
  | .walk start => .walk start
  | .passes list lateral => .pass list lateral
  | .scan mode start => .scan mode start

/-- The kind of a task. -/
def taskKind : HeadTask → TaskKind
  | .walk _ => .walk
  | .passes _ _ => .passes
  | .scan _ _ => .scan

/-- A station has an operation in hand: TRACING, CUTTING, SCANNING or PAUSED (section 5.4). -/
def operationInHand (s : State) (st : StationId) : Bool := workInHand (s.station st).work

/-- A head enters the working state of a task's kind, its HEAD channel started (R103). -/
def startTask (s : State) (h : HeadId) (t : HeadTask) : State :=
  startTimer (s.setHead h { s.head h with state := taskState t, task := some t, order := taskOrder t }) (.head h)

/-- A PARKED head takes a task, by the zone and the stop chain (R103). -/
def takeTaskParked (s : State) (h : HeadId) (t : HeadTask) : State :=
  if s.zone.stop = .broken then s
  else if s.zone.zone = .clear then startTask s h t
  else s.setHead h { s.head h with state := .paused, task := some t, order := .halt }

/-- A head takes a task by its state (R103). A PAUSED head keeps the new task and stays halted unless the zone is
clear and the chain healthy, as R104's law requires (DEDUCED, log entry 13). -/
def takeTask (s : State) (h : HeadId) (t : HeadTask) : State :=
  match (s.head h).state with
  | .parked => takeTaskParked s h t
  | .returning => s.setHead h { s.head h with pendingTask := some t }
  | .paused =>
    if s.zone.stop = .healthy ∧ s.zone.zone = .clear then startTask s h t
    else s.setHead h { s.head h with task := some t }
  | .faulted => s
  | .tracing => s
  | .cutting => s
  | .scanning => s

/-- TASK_HANDED (R103). -/
def execTaskHanded (h : HeadId) (s : State) : Host.Outcome State Fault Refusal :=
  event s fun s =>
    onNotice s (isTask h) (fun n t =>
      match n with
      | .task _ k => takeTask t h k
      | _ => t)

/-- The HEAD channel is cancelled. -/
def cancelHead (s : State) (h : HeadId) : State := cancelTimer s (.head h)

/-- A halt at one head (R105): a working head enters PAUSED, and a pending task is dropped. -/
def haltHead (s : State) (h : HeadId) : State :=
  let t := s.setHead h { s.head h with pendingTask := none }
  if headWorking (t.head h).state then
    cancelHead (t.setHead h { t.head h with state := .paused, order := .halt }) h
  else t

/-- A withdrawal at one head (R107): a working or PAUSED head enters RETURNING; a RETURNING head's pending task is
dropped. -/
def withdrawHead (s : State) (h : HeadId) : State :=
  let t := s.setHead h { s.head h with pendingTask := none }
  if headWorking (t.head h).state ∨ (t.head h).state = .paused then
    startTimer (t.setHead h { t.head h with state := .returning, order := .ret, task := none }) (.head h)
  else t

/-- The two heads of a station. -/
def headsOf (st : StationId) : List HeadId := sides.map (fun d => { station := st, side := d })

/-- HEAD_BREACH_NOTICE (R105). -/
def execHeadBreachNotice (s : State) : Host.Outcome State Fault Refusal :=
  event s fun s =>
    onNotice s (fun n => n == .headBreach) (fun _ t =>
      headIds.foldl haltHead (t.setHeads { t.heads with view := { t.heads.view with zone := t.zone.zone } }))

/-- HALT_NOTICE (R105). -/
def execHaltNotice (st : StationId) (s : State) : Host.Outcome State Fault Refusal :=
  event s fun s => onNotice s (fun n => n == .halt st) (fun _ t => (headsOf st).foldl haltHead t)

/-- HEAD_BREAK_NOTICE (R107). -/
def execHeadBreakNotice (s : State) : Host.Outcome State Fault Refusal :=
  event s fun s =>
    onNotice s (fun n => n == .headBreak) (fun _ t =>
      headIds.foldl withdrawHead (t.setHeads { t.heads with view := { t.heads.view with stop := t.zone.stop } }))

/-- WITHDRAW_NOTICE (R107). -/
def execWithdrawNotice (st : StationId) (s : State) : Host.Outcome State Fault Refusal :=
  event s fun s => onNotice s (fun n => n == .withdraw st) (fun _ t => (headsOf st).foldl withdrawHead t)

/-- A head enters FAULTED, and its station, where it has an operation in hand, is handed the head-failed notice
(R107). A FAULTED head keeps its first cause. -/
def faultHead (s : State) (h : HeadId) (cause : HeadCause) : State :=
  let r := s.head h
  let t := (cancelHead s h).setHead h { r with
    state := .faulted, cause := if r.state = .faulted then r.cause else some cause
    order := .halt, task := none, pendingTask := none }
  if operationInHand s h.station then send t [.headFailed h.station] else t

/-- HEAD_LOST (R107): a PARKED head with no operation in hand stays PARKED. -/
def execHeadLost (h : HeadId) (s : State) : Host.Outcome State Fault Refusal :=
  event s fun s =>
    onNotice s (fun n => n == .lost (.head h)) (fun _ t =>
      let t := t.setHead h { t.head h with condition := .lost }
      if (t.head h).state = .parked ∧ operationInHand t h.station = false then t else faultHead t h .lost)

/-- A head's latest report, as Head Control keeps it. -/
def latestOf (r : HeadReadings) : HeadLatest :=
  { status := r.status, cursor := r.cursor, passDone := r.passDone, taskDone := r.taskDone }

/-- A head's report recorded. -/
def recordHead (c : Head) : Readings → Head
  | .head r => { c with latest := some (latestOf r) }
  | .column _ _ _ _ => c
  | .clamp _ _ _ => c

/-- HEAD_REGAINED (R107). -/
def execHeadRegained (h : HeadId) (s : State) : Host.Outcome State Fault Refusal :=
  event s fun s =>
    onNotice s (isRegained (.head h)) (fun n t =>
      let c := { t.head h with condition := .active }
      match noticeReadings n with
      | none => t.setHead h c
      | some r => t.setHead h (recordHead c r))

/-- HEAD_TIMER_EXPIRY (R104, R107). -/
def execHeadTimerExpiry (h : HeadId) (s : State) : Host.Outcome State Fault Refusal :=
  event s fun s =>
    onExpiry s (.head h) (fun t =>
      if headWorking (t.head h).state ∨ (t.head h).state = .returning then faultHead t h .timeout else t)

/-- The loop position of a head: its node's, or, with no node in the table, its place in the pit map. -/
def headPosition (s : State) (h : HeadId) : Nat :=
  match s.loop.table.find? (fun e => e.role == some (.head h)) with
  | some e => e.position
  | none => mapPosition s.settings.pitMap (.head h)

/-- A pass completion advances the insert pass count (R108). -/
def countPass (s : State) (h : HeadId) : State :=
  let r := s.head h
  let life := s.settings.insertLife
  let beyond := decide (life ≤ r.insertCount)
  let count := if beyond then r.insertCount else r.insertCount + 1
  let t := s.setHead h { r with insertCount := count }
  if count = life then post t .insertDue (.position (headPosition s h)) (.insertDue h count life beyond) else t

/-- The passes that remain after pass `k` (R169). -/
def passesAfter (k : Nat) (ps : List Pass) : List Pass := ps.filter (fun p => decide (k < p.number))

/-- A pass completed at a head: its task and PASS order carry the passes that remain, the first begun afresh (R102,
R169). -/
def advanceTask (r : Head) (k : Nat) : Head :=
  match r.task with
  | some (.passes list _) =>
    let task : HeadTask := .passes (passesAfter k list) 0
    { r with task := some task, order := if r.state = .cutting then taskOrder task else r.order }
  | some (.walk _) => r
  | some (.scan _ _) => r
  | none => r

/-- The samples of a report, on their way to the Trace Unit (R104, step 1). -/
def sampleNotices (h : HeadId) (task : Option HeadTask) (r : HeadReadings) : List Notice :=
  match task with
  | some (.walk _) => noticeIf (!r.samples.isEmpty || r.backFace.isSome) (.traceSamples h r.samples r.backFace)
  | some (.scan _ _) => noticeIf (!r.samples.isEmpty || r.cursor.isSome) (.scanSamples h r.samples r.cursor)
  | some (.passes _ _) => []
  | none => []

/-- The station records a head's cursor as the head's walk cursor (R104, step 2). -/
def recordCursor (s : State) (h : HeadId) (c : Option Cursor) : State :=
  match c with
  | none => s
  | some _ =>
    if operationInHand s h.station then
      s.setStation h.station { s.station h.station with cursor := (s.station h.station).cursor.set h.side c }
    else s

/-- What a head's report hands on to its station and to the Trace Unit. While the station has no operation in hand, its
work abandoned and the withdraw notice still under way, nothing is handed on (R98, R106; log entry 14). -/
def handOn (s : State) (h : HeadId) (ns : List Notice) : State :=
  if operationInHand s h.station then send s ns else s

/-- A pass completion goes to the station and to the insert count (R104, step 3). -/
def handPass (s : State) (h : HeadId) : Option Nat → State
  | none => s
  | some k => handOn (countPass (s.setHead h (advanceTask (s.head h) k)) h) h [.passDone h k]

/-- A task ends with its task-complete mark (R106). -/
def endTask (s : State) (h : HeadId) : State :=
  match (s.head h).task with
  | none => s
  | some t =>
    startTimer (handOn ((cancelHead s h).setHead h { s.head h with state := .returning, order := .ret, task := none })
      h [.taskDone h (taskKind t)]) (.head h)

/-- A report of a working or PAUSED head (R104, R105). `before` is the head's previous good report. -/
def headProgress (s : State) (h : HeadId) (before : Option HeadLatest) (r : HeadReadings) : State :=
  let t := handOn s h (sampleNotices h (s.head h).task r)
  let t := recordCursor t h r.cursor
  let t := handPass t h r.passDone
  let moved := (before.bind (·.cursor)) != r.cursor || r.passDone.isSome || r.taskDone
  let t := if headWorking (t.head h).state && moved then startTimer t (.head h) else t
  if r.taskDone then endTask t h else t

/-- A RETURNING head that reports parked becomes PARKED and takes its pending task (R106). -/
def parkHead (s : State) (h : HeadId) : State :=
  let pend := (s.head h).pendingTask
  let t := (cancelHead s h).setHead h { s.head h with state := .parked, order := .halt, pendingTask := none }
  match pend with
  | none => t
  | some k => takeTask t h k

/-- What a head's good report does, once recorded (R104 to R106). In every state a pass completion wears the insert
(R108). -/
def headReported (s : State) (h : HeadId) (r : HeadReadings) : State :=
  let before := (s.head h).latest
  let t := s.setHead h (recordHead (s.head h) (.head r))
  match (t.head h).state with
  | .tracing => headProgress t h before r
  | .cutting => headProgress t h before r
  | .scanning => headProgress t h before r
  | .paused => headProgress t h before r
  | .returning =>
    let t := if r.passDone.isSome then countPass t h else t
    if r.status = .atPark then parkHead t h else t
  | .parked => if r.passDone.isSome then countPass t h else t
  | .faulted => if r.passDone.isSome then countPass t h else t

/-- HEAD_REPORT (R104 to R106, R108). -/
def execHeadReport (h : HeadId) (s : State) : Host.Outcome State Fault Refusal :=
  event s fun s =>
    onNotice s (isReport (.head h)) (fun n t =>
      match noticeReadings n with
      | some (.head r) => headReported t h r
      | some (.column _ _ _ _) => t
      | some (.clamp _ _ _) => t
      | none => t)

/-- A head's derivation from its first cycle (R102). Where that cycle failed, the latest report stays the one from before the
derivation (DESIGN CHOICE, log entry 53). -/
def deriveHead (outs : List (Role × CycleOutcome)) (s : State) (h : HeadId) : State :=
  let c := { s.head h with condition := .active, task := none, pendingTask := none, order := .halt }
  match outcomeOf outs (.head h) with
  | some (.good (.head r)) =>
    let c := { c with latest := some (latestOf r) }
    if r.status = .atPark then s.setHead h { c with state := .parked, cause := none }
    else s.setHead h { c with state := .faulted, cause := some .recovered }
  | some (.good (.column _ _ _ _)) => s.setHead h { c with state := .faulted, cause := some .recovered }
  | some (.good (.clamp _ _ _)) => s.setHead h { c with state := .faulted, cause := some .recovered }
  | some (.failed _) => s.setHead h { c with state := .faulted, cause := some .recovered }
  | none => s.setHead h { c with state := .faulted, cause := some .recovered }

/-- HEAD_LOOP_UP (R102). A head that was given a task between LOOP START and the loop-down notice is derived as any other, its
running channel and its station left as they are (DESIGN CHOICE, log entry 51). -/
def execHeadLoopUp (s : State) : Host.Outcome State Fault Refusal :=
  event s fun s =>
    onNotice s (isLoopUp .heads) (fun n t =>
      headIds.foldl (deriveHead (noticeOutcomes n)) (t.setHeads { t.heads with loopUp := true }))

/-- INSERT CHANGED (R109). -/
def execInsertChanged (s : State) : Host.Outcome State Fault Refusal :=
  event s (serve (ofKind 32) parseHead (fun s h =>
    if (s.head h).state = .parked then
      (s.setHead h { s.head h with insertCount := 0 }, .done (.insertCount (s.head h).insertCount))
    else refuse s .wrongState))

end Sys2Proof.Machine
end

