-- ==== Sys2Proof/Machine/StationOps.lean ====
section
/-! DEFINITION. What the Station Controllers share (chapter 5): the motion conditions, the tasks they hand on, and the
discarding of plans, traces and scans. -/

namespace Sys2Proof.Machine

/-! ### The motion conditions -/

/-- A head's node has a role and condition ACTIVE (R95). -/
def headAvailable (s : State) (h : HeadId) : Bool :=
  s.loop.table.any (fun e => e.role == some (.head h)) && (s.head h).condition == .active

/-- The motion conditions of a station, in order, with the head condition given (R95). Lift and clamp are judged as they stand,
also where their loop-up notices are still to be taken (DESIGN CHOICE, log entry 52). -/
def motionConditions (s : State) (st : StationId) (headOk : HeadState → Bool) : List (Bool × Reason) :=
  [(s.heads.loopUp, .loopNotRunning),
   ((headsOf st).all (headAvailable s), .nodeUnavailable),
   (s.lift.state == .raised, .liftNotRaised),
   ((s.clamp st).state == .closed, .clampNotClosed),
   ((headsOf st).all (fun h => headOk (s.head h).state), .wrongState),
   (s.zone.zone == .clear, .zoneBreached),
   (s.zone.stop == .healthy, .stopped)]

/-- The head is PARKED (R95). -/
def headParked (x : HeadState) : Bool := x == .parked

/-- The head is PAUSED or PARKED, the resume form (R95). -/
def headResumable (x : HeadState) : Bool := x == .paused || x == .parked

/-! ### Tasks -/

/-- The start point of a walk or scan task, or the first pass with its lateral start. -/
def taskStart : HeadTask → Option Cursor
  | .walk start => some start
  | .scan _ start => some start
  | .passes list lateral => (list.head?).map (fun p => .pass p.number lateral)

/-- A station hands Head Control a task for one of its heads: in the same event the head's walk cursor becomes the
task's start point and its part-complete mark is cleared (R103). -/
def handTask (s : State) (h : HeadId) (t : HeadTask) : State :=
  let x := s.station h.station
  send (s.setStation h.station { x with cursor := x.cursor.set h.side (taskStart t), part := x.part.set h.side false })
    [.task h t]

/-- The start point of a trace walk (R112). -/
def walkStart : Cursor := .point .lateral 0

/-- The start point of a scan: the DATUM phase, whose one point is lateral point 70 (R137). -/
def scanStart : Cursor := .point .datum 70

/-- Both heads of a station are handed a task each. -/
def handTasks (s : State) (st : StationId) (t : Side → HeadTask) : State :=
  handTask (handTask s ⟨st, .L⟩ (t .L)) ⟨st, .R⟩ (t .R)

/-- The station's operation is at an end: no operation in hand, no prior state, no cursors and no part marks. -/
def endOperation (x : Station) : Station :=
  { x with operation := none, prior := none, cursor := .both none, part := .both false }

/-- A notice that a head's work sends to its station or to the Trace Unit. -/
def isHeadResult (st : StationId) : Notice → Bool
  | .traceSamples h _ _ => h.station == st
  | .scanSamples h _ _ => h.station == st
  | .passDone h _ => h.station == st
  | .taskDone h _ => h.station == st
  | _ => false

/-- An abandon is taken before the results still under way from the station's heads: none of them is handed to the
station any more, and the withdraw notice goes to Head Control (R98; DEDUCED, log entry 14). -/
def withdrawHeads (s : State) (st : StationId) : State :=
  send (s.setNotices (s.notices.filter (fun n => !isHeadResult st n))) [.withdraw st]

/-! ### Plans -/

/-- The plan under a slot's name. -/
def Planner.get (p : Planner) : PlanSlot → Option Plan
  | .one => p.one
  | .two => p.two

def Planner.set (p : Planner) (slot : PlanSlot) (x : Option Plan) : Planner :=
  match slot with
  | .one => { p with one := x }
  | .two => { p with two := x }

/-- The plan that a station's plan reference names. -/
def planOf (s : State) (st : StationId) : Option Plan := (s.station st).plan.bind (fun slot => s.planner.get slot)

/-- A station's share. -/
def shareOf (s : State) (st : StationId) : Option Share := (planOf s st).bind (fun p => p.shares.get st)

/-- The state with a station's share replaced in its plan. -/
def setShare (s : State) (st : StationId) (x : Share) : State :=
  match (s.station st).plan with
  | none => s
  | some slot =>
    match s.planner.get slot with
    | none => s
    | some p => s.setPlanner (s.planner.set slot (some { p with shares := p.shares.set st (some x) }))

/-- A share is CONDEMNED. -/
def shareCondemned (x : Option Share) : Bool :=
  match x with
  | none => false
  | some y => y.outcome == .condemned

/-- A station's share is discarded. A CONDEMNED share of the same plan goes with it, its station staying CONDEMNED
with no plan reference (R147); the plan object is released when no share remains (R148). -/
def releaseShare (s : State) (st : StationId) : State :=
  match (s.station st).plan with
  | none => s
  | some slot =>
    let t := s.setStation st { s.station st with plan := none }
    match s.planner.get slot with
    | none => t
    | some p =>
      let other := otherStation st
      let shares := p.shares.set st none
      if shareCondemned (shares.get other) then
        (t.setPlanner (s.planner.set slot none)).setStation other { t.station other with plan := none }
      else if (shares.get other).isNone then t.setPlanner (s.planner.set slot none)
      else t.setPlanner (s.planner.set slot (some { p with shares := shares }))

/-- The other station holds a share of the same joint plan and stands PLANNED or HELD with a reservation of 0 (R94). -/
def idlePartner (s : State) (st : StationId) : Bool :=
  let o := s.station (otherStation st)
  (s.station st).plan.isSome && o.plan == (s.station st).plan && (o.work == .planned || o.work == .held) &&
    o.reservation == 0

/-- A station becomes TRACED, its share gone. -/
def becomeTraced (s : State) (st : StationId) : State :=
  s.setStation st { s.station st with work := .traced, held := none }

/-- The station's plan, or its share of a joint plan, is discarded, and an idle partner's share with it, whose station
becomes TRACED (R94, R112). -/
def discardPlan (s : State) (st : StationId) : State :=
  let t := releaseShare s st
  if idlePartner s st then becomeTraced (releaseShare t (otherStation st)) (otherStation st) else t

/-- The station's trace records and scan results are discarded (R94, R100). -/
def discardTrace (s : State) (st : StationId) : State :=
  (s.setTraceUnit st emptyTrace).setStation st { s.station st with results := none }

end Sys2Proof.Machine
end

