-- ==== Sys2Proof/Machine/Profile.lean ====
section
/-! DEFINITION. The Profile Table (sections 7.1, 7.2 and 11.5). -/

namespace Sys2Proof.Machine

/-- The profile in a slot. -/
def profileAt (s : State) (slot : Nat) : Option Profile := sparseGet s.profiles.slots slot

/-- The profile that a slot's fallback names, with its slot id; none where it is absent or the slot is empty (R133). -/
def fallbackOf (s : State) (p : Profile) : Option (Nat × Profile) :=
  p.fallback.bind (fun slot => (profileAt s slot).map (fun q => (slot, q)))

/-- A station's plan has a slot as profile used (R135). -/
def planUses (s : State) (st : StationId) (slot : Nat) : Bool :=
  match shareOf s st with
  | none => false
  | some x => x.profileUsed == some slot

/-- A station's survey, in hand or paused, compares with a slot (R135). -/
def surveyUses (s : State) (st : StationId) (slot : Nat) : Bool :=
  operationInHand s st && (s.station st).operation == some .survey &&
    (match (s.traceUnit st).scan with
     | none => false
     | some x => x.slot == slot)

/-- A slot's use at each station (R136). -/
def slotUse (s : State) (slot : Nat) : PerStation SlotUse :=
  let u := fun st => SlotUse.mk (planUses s st slot) (surveyUses s st slot)
  ⟨u .A, u .B⟩

/-- A slot is in use (R135). -/
def slotInUse (s : State) (slot : Nat) : Bool := (slotUse s slot).toList.any (fun u => u.plan || u.survey)

/-- An integer lies in a range, both ends included. -/
def within (lo hi x : Int) : Bool := decide (lo ≤ x) && decide (x ≤ hi)

/-- The range conditions of a limit line whose body field begins at `at_` (R132). -/
def lineChecks (lo hi : Int) (at_ : Nat) (x : LimitLine) : List (Bool × Nat) :=
  [(within lo hi x.lo, at_), (within lo hi x.hi && decide (x.lo ≤ x.hi), at_ + 3)]

/-- The range conditions of a run of reference heights whose body field begins at `at_`. -/
def heightChecks (at_ : Nat) : List Geometry → List (Bool × Nat)
  | [] => []
  | h :: hs => (within (-1000) 4000 h, at_) :: heightChecks (at_ + 2) hs

/-- The field conditions of a profile record, each with its body offset in the first part (R131, R132, R134, R203). -/
def profileChecks (slot : Nat) (p : Profile) (length : Nat) : List (Bool × Nat) :=
  [(decide (1 ≤ slot) && decide (slot ≤ 8), 0),
   (within 2400 3600 p.sht, 17), (within 2200 3400 p.sdt, 19), (within 16 160 p.kf, 21), (within 20 200 p.cmin, 22),
   (within 100 500 p.pmax, 23), (within 10 100 p.band, 25), (within (-1000) 500 p.pad, 26),
   (match p.fallback with
    | none => true
    | some f => decide (1 ≤ f) && decide (f ≤ 8) && f != slot, 28),
   (within 20 140 length, 29)] ++
  lineChecks 0 25000 30 p.limits.sh ++ lineChecks 0 13900 39 p.limits.sd ++ lineChecks (-13900) 13900 48 p.limits.qr ++
  lineChecks 0 25000 57 p.limits.f ++ lineChecks 120000 144000 66 p.limits.b ++ heightChecks 75 p.heights

/-- The load buffer replaced. -/
def setBuffer (s : State) (b : Option LoadBuffer) : State := s.setProfiles { s.profiles with buffer := b }

/-- A load is taken: the slot takes the whole record (R134). -/
def writeProfile (s : State) (slot : Nat) (p : Profile) : State × ReplyBody :=
  (s.setProfiles { s.profiles with slots := sparseSet s.profiles.slots slot p },
   .done (.profileLoaded slot (profileAt s slot).isSome))

/-- PROFILE LOAD, clear (R134, R203). -/
def execProfileLoadClear (s : State) : Host.Outcome State Fault Refusal :=
  event s (serve (ofKind 33) parseSlot (fun s slot =>
    let t := setBuffer s none
    if ¬ (1 ≤ slot ∧ slot ≤ 8) then (t, .refused .badField (.offset 0))
    else if slotInUse t slot then refuse t .profileInUse
    else (t.setProfiles { t.profiles with slots := sparseErase t.profiles.slots slot },
      .done (.profileLoaded slot (profileAt t slot).isSome))))

/-- PROFILE LOAD, first part (R134, R203). -/
def execProfileLoadFirstPart (s : State) : Host.Outcome State Fault Refusal :=
  event s (serve (ofKind 34) parseFirstPart (fun s f =>
    let t := setBuffer s none
    match firstFailing (profileChecks f.1 f.2.1 f.2.2) with
    | some o => (t, .refused .badField (.offset o))
    | none =>
      if f.2.2 ≤ 70 then
        if slotInUse t f.1 then refuse t .profileInUse else writeProfile t f.1 f.2.1
      else (setBuffer t (some { slot := f.1, partial_ := f.2.1, length := f.2.2 }), .done (.profileStaged f.1))))

/-- PROFILE LOAD, second part (R203). -/
def execProfileLoadSecondPart (s : State) : Host.Outcome State Fault Refusal :=
  event s (serve (ofKind 35) parseSecondPart (fun s f =>
    match s.profiles.buffer with
    | none => refuse s .wrongState
    | some b =>
      if b.slot ≠ f.1 then refuse s .wrongState
      else
        match firstFailing ((f.2.1 + 70 == b.length, 1) :: heightChecks 2 f.2.2) with
        | some o => (setBuffer s none, .refused .badField (.offset o))
        | none =>
          if slotInUse s b.slot then refuse s .profileInUse
          else writeProfile (setBuffer s none) b.slot { b.partial_ with heights := b.partial_.heights ++ f.2.2 }))

/-- PROFILE READ (R136, R202). -/
def execProfileRead (s : State) : Host.Outcome State Fault Refusal :=
  event s (serve (ofKind 36) parseProfileRead (fun s f =>
    if ¬ (1 ≤ f.1 ∧ f.1 ≤ 8) then (s, .refused .badField (.offset 0))
    else
      match profileAt s f.1 with
      | none => refuse s .noProfile
      | some p =>
        (s, .done (if f.2 = 1 then .profileFirst p (slotUse s f.1) else .profileSecond (p.heights.drop 70)))))

end Sys2Proof.Machine
end

