-- ==== Sys2Proof/Machine/Trace.lean ====
section
/-! DEFINITION. Tracing (chapter 6): the TRACE request, the walk's samples, the extraction, the limit checks and the
completion of a trace. -/

namespace Sys2Proof.Machine

/-! ### Samples -/

/-- A GOOD reading's radius. -/
def goodRadius : Option Reading → Option Geometry
  | some r => if r.status = .good then some r.radius else none
  | none => none

/-- A sample stored in a trace record at its phase and index; one outside its phase's points is disregarded (R116). -/
def storeWalkSample (w : TraceRecord) (x : Sample) : TraceRecord :=
  match x.phase with
  | .lateral =>
    if x.index < 140 then { w with lateral := sparseSet w.lateral x.index { radius := x.radius, status := x.status } } else w
  | .circumferential =>
    if x.index < 64 then { w with circ := sparseSet w.circ x.index { radius := x.radius, status := x.status } } else w
  | .datum => w

/-- A report's samples and back-face offset stored, while the record is IN-PROGRESS (R116). -/
def storeWalk (w : TraceRecord) (xs : List Sample) (b : Option Geometry) : TraceRecord :=
  if w.status = .inProgress then
    let w := xs.foldl storeWalkSample w
    { w with backFace := b.or w.backFace }
  else w

/-- TRACE_SAMPLES (R116). -/
def execTraceSamples (h : HeadId) (s : State) : Host.Outcome State Fault Refusal :=
  event s fun s =>
    onNotice s (isTraceSamples h) (fun n t =>
      match n with
      | .traceSamples _ xs b =>
        let u := t.traceUnit h.station
        match u.walk with
        | none => t
        | some ws =>
          t.setTraceUnit h.station { u with walk := some (ws.set h.side (storeWalk (ws.get h.side) xs b)) }
      | _ => t)

/-! ### Extraction -/

/-- A division rounded half up (section 4.3 of the opening file); the divisor is positive. -/
def roundHalfUp (a b : Int) : Int := (2 * a + b) / (2 * b)

/-- The number of the points 0 to `n - 1` that are missing: absent, NO-CONTACT or SATURATED (R118, R119). -/
def missingCount (n : Nat) (xs : List (Nat × Reading)) : Nat :=
  ((List.range n).filter (fun i => (goodRadius (sparseGet xs i)).isNone)).length

/-- A sample of a list is SATURATED. -/
def anySaturated (xs : List (Nat × Reading)) : Bool := xs.any (fun e => e.2.status == .saturated)

/-- The GOOD circumferential radii. -/
def goodRadii (xs : List (Nat × Reading)) : List Geometry :=
  (List.range 64).filterMap (fun i => goodRadius (sparseGet xs i))

/-- The greatest, and the least, of a list of values. -/
def greatest : List Geometry → Geometry
  | [] => 0
  | [x] => x
  | x :: xs => max x (greatest xs)

def least : List Geometry → Geometry
  | [] => 0
  | [x] => x
  | x :: xs => min x (least xs)

/-- The sum of a list of values. -/
def total : List Geometry → Geometry
  | [] => 0
  | x :: xs => x + total xs

/-- The diameter: twice the mean GOOD circumferential radius (R120). -/
def diameterOf (rs : List Geometry) : Geometry := 2 * roundHalfUp (total rs) rs.length

/-- The out-of-round (R120). -/
def outOfRound (rs : List Geometry) : Geometry := greatest rs - least rs

/-- The height of a lateral point, where it has one (R118). -/
def heightAt (w : TraceRecord) (r70 : Geometry) (i : Nat) : Option Geometry :=
  (goodRadius (sparseGet w.lateral i)).map (fun r => r - r70)

/-- The highest of the points given that have a height, the lowest index among equals (R121). -/
def flangeTip (h : Nat → Option Geometry) : List Nat → Option (Nat × Geometry)
  | [] => none
  | i :: is =>
    match h i, flangeTip h is with
    | none, rest => rest
    | some x, none => some (i, x)
    | some x, some (j, y) => if x < y then some (j, y) else some (i, x)

/-- The crossing of a level by the pairs that begin at the points given (R122). -/
def crossing (h : Nat → Option Geometry) (level : Geometry) : List Nat → Option Geometry
  | [] => none
  | i :: is =>
    match h i, h (i + 1) with
    | some a, some b =>
      if level ≤ a ∧ b < level then some (100 * (i : Int) + roundHalfUp (100 * (a - level)) (a - b))
      else crossing h level is
    | some _, none => crossing h level is
    | none, _ => crossing h level is

/-- The pairs of the walk from the tip up to the pair (138, 139), each by its first point (R122). -/
def pairsFrom (tip : Nat) : List Nat := (List.range 139).filter (fun i => decide (tip ≤ i))

/-- Results with nothing derived. -/
def nothingDerived : TraceResults :=
  { missLateral := none, missCirc := none, r70 := none, d := none, f := none, sh := none, tip := none, sd := none,
    xs := none, qr := none }

/-- Steps 5 to 7 of the extraction (R121 to R123), on the results of the steps before. -/
def extractFlange (w : TraceRecord) (r70 : Geometry) (res : TraceResults) : TraceStatus × TraceResults :=
  let h := heightAt w r70
  match flangeTip h (List.range 41) with
  | none => (.unresolved, res)
  | some (tip, sh) =>
    let res := { res with sh := some sh, tip := some tip }
    if sh < 1000 then (.unresolved, res)
    else
      match crossing h 1000 (pairsFrom tip) with
      | none => (.unresolved, res)
      | some sd =>
        let res := { res with sd := some sd }
        match crossing h (sh - 200) (pairsFrom tip) with
        | none => (.unresolved, res)
        | some xs => (.good, { res with xs := some xs, qr := some (sd - xs) })

/-- The extraction of one wheel, with the missing-point tolerance in force (R117 to R123). -/
def extract (tolerance : Nat) (w : TraceRecord) : TraceRecord :=
  let out : TraceStatus × TraceResults :=
    match goodRadius (sparseGet w.lateral 70) with
    | none => (.unresolved, nothingDerived)
    | some r70 =>
      let lat := missingCount 140 w.lateral
      let circ := missingCount 64 w.circ
      let res := { nothingDerived with r70 := some r70, missLateral := some lat, missCirc := some circ }
      if tolerance < lat ∨ tolerance < circ then (.incomplete, res)
      else if anySaturated w.circ then (.saturated, res)
      else
        let rs := goodRadii w.circ
        extractFlange w r70 { res with d := some (diameterOf rs), f := some (outOfRound rs) }
  { w with status := out.1, results := out.2 }

/-! ### Limit checks -/

/-- The outcome of a check (R125). -/
def bandOutcome (x : LimitLine) (v : Geometry) : BandOutcome :=
  if v < x.lo then .low else if x.hi < v then .high else .inside

/-- The action that an outcome selects. -/
def lineAction (x : LimitLine) : BandOutcome → LimitAction
  | .low => x.low
  | .inside => x.inside
  | .high => x.high

/-- The finding of one check, where the value is present and the action is NOTE or HOLD (R125, R126). -/
def checkLimit (p : Param) (wheel : FindingWheel) (x : LimitLine) (v : Option Geometry) : List Finding :=
  match v with
  | none => []
  | some v =>
    let o := bandOutcome x v
    match lineAction x o with
    | .nothing => []
    | .note =>
      [{ kind := .param p, wheel := wheel, outcome := some o, hold := false, v1 := some v, v2 := some x.lo, v3 := some x.hi }]
    | .hold =>
      [{ kind := .param p, wheel := wheel, outcome := some o, hold := true, v1 := some v, v2 := some x.lo, v3 := some x.hi }]

/-- The checks of one wheel: Sh, Sd, qR, F (R125). -/
def checkWheel (set : LimitSet) (d : Side) (r : TraceResults) : List Finding :=
  checkLimit .sh (.wheel d) set.sh r.sh ++ checkLimit .sd (.wheel d) set.sd r.sd ++
  checkLimit .qr (.wheel d) set.qr r.qr ++ checkLimit .f (.wheel d) set.f r.f

/-- The findings of a trace, in the order of the checks (R125, R126). -/
def traceFindings (set : LimitSet) (ws : PerSide TraceRecord) (b : Option Geometry) : List Finding :=
  checkWheel set .L ws.l.results ++ checkWheel set .R ws.r.results ++ checkLimit .b .wheelset set.b b

/-- A finding whose action is HOLD is in a list. -/
def anyHold (fs : List Finding) : Bool := fs.any (·.hold)

/-! ### The trace -/

/-- A new trace record (R116). -/
def newTraceRecord : TraceRecord :=
  { lateral := [], circ := [], backFace := none, status := .inProgress, results := nothingDerived }

/-- The back-to-back distance (R124). -/
def backToBack (ws : PerSide TraceRecord) : Option Geometry :=
  match ws.l.backFace, ws.r.backFace with
  | some x, some y => some (x + y)
  | none, _ => none
  | some _, none => none

/-- The trace that a completion forms (R124 to R127), with the profile read and the time of completion. -/
def formTrace (ws : PerSide TraceRecord) (profile : Option (Nat × Profile)) (now : Stamp) : StationTrace :=
  let b := backToBack ws
  { wheels := ws, b := b
    findings := match profile with
      | none => []
      | some p => traceFindings p.2.limits ws b
    usable := ws.l.status == .good && ws.r.status == .good
    profile := profile.map (·.1), time := now }

/-- The body of a TRACED entry (R128). -/
def tracedBody (t : StationTrace) : EntryBody :=
  .traced (t.wheels.map (fun w => { status := w.status, results := w.results })) t.b t.profile t.findings t.usable

/-- The record after a usable trace's completion (R127, step 4). -/
def tracedRecord (t : StationTrace) (r : WheelsetRecord) : WheelsetRecord :=
  { r with diameters := ⟨t.wheels.l.results.d.getD r.diameters.l, t.wheels.r.results.d.getD r.diameters.r⟩
           retraceDue := false }

/-- The profile slot that a station's occupant's record names, where it holds a profile. -/
def occupantProfile (s : State) (st : StationId) : Option (Nat × Profile) :=
  ((s.station st).occupant.bind (findRecord s.history)).bind (fun r => (profileAt s r.profile).map (fun p => (r.profile, p)))

/-- The completion of a trace (R127). Steps 3 and 4 are two changes to the record, each raising its revision (R183). -/
def completeTrace (s : State) (st : StationId) : State :=
  match (s.traceUnit st).walk with
  | none => s
  | some ws =>
    let tr := formTrace ws (occupantProfile s st) s.clock
    let t := s.setTraceUnit st { s.traceUnit st with held := some tr, walk := none }
    let serial := (t.station st).occupant.getD []
    let t := append t serial (tracedBody tr) id
    let t := if tr.usable then changeRecord t serial (tracedRecord tr) else t
    let t := t.setStation st { endOperation (t.station st) with claim := false, work := .traced }
    post t .traceEnd (.station st)
      (.traceDone tr.usable (ws.map (fun w => (w.status, w.results.d))) tr.findings.length (anyHold tr.findings))

/-- A station's task-complete marks: both of its heads' parts are complete. -/
def bothComplete (x : Station) : Bool := x.part.l && x.part.r

/-- The station takes a head's task-complete mark (R103). -/
def markPart (s : State) (h : HeadId) : State :=
  let x := s.station h.station
  s.setStation h.station { x with part := x.part.set h.side true }

/-- A task-complete notice of a head and a kind of task. -/
def isTaskDone (h : HeadId) (k : TaskKind) : Notice → Bool
  | .taskDone x y => x == h && y == k
  | _ => false

/-- WALK_END (R117): the wheel is extracted, and the trace completes where both walks have ended with the station
TRACING. -/
def execWalkEnd (h : HeadId) (s : State) : Host.Outcome State Fault Refusal :=
  event s fun s =>
    onNotice s (isTaskDone h .walk) (fun _ t =>
      let u := t.traceUnit h.station
      match u.walk with
      | none => t
      | some ws =>
        let t := markPart (t.setTraceUnit h.station { u with
          walk := some (ws.set h.side (extract t.settings.missingTolerance (ws.get h.side))) }) h
        if bothComplete (t.station h.station) ∧ (t.station h.station).work = .tracing then completeTrace t h.station
        else t)

/-! ### The TRACE request -/

/-- Conditions without a refusal detail. -/
def plain (cs : List (Bool × Reason)) : List (Bool × (Reason × RefusalDetail)) := cs.map (fun c => (c.1, (c.2, .none)))

/-- The condition that room is left for `n` unreserved entries (R188). -/
def roomFor (s : State) (n : Nat) : Bool × (Reason × RefusalDetail) :=
  (decide (totalReservation s + n ≤ roomCount s), (.historyFull, roomDetail s n))

/-- A refusal with its detail. -/
def turnAway (s : State) (r : Reason × RefusalDetail) : State × ReplyBody := (s, .refused r.1 r.2)

/-- The station states that take a TRACE (R111). -/
def traceable (x : Station) : Bool :=
  match x.work with
  | .mounted => true
  | .traced => true
  | .planned => true
  | .finished => true
  | .condemned => true
  | .held => x.held == some .limit || x.held == some .lastTurn || x.held == some .excess
  | .vacant => false
  | .tracing => false
  | .cutting => false
  | .scanning => false
  | .paused => false

/-- The prior state that a TRACE records (R112). -/
def tracePrior : WorkState → WorkState
  | .planned => .traced
  | .held => .traced
  | w => w

/-- A trace begins (R112). -/
def beginTrace (s : State) (st : StationId) : State :=
  let prior := tracePrior (s.station st).work
  let t := discardPlan s st
  let t := t.setTraceUnit st { t.traceUnit st with walk := some (.both newTraceRecord) }
  let t := t.setStation st { t.station st with
    claim := true, work := .tracing, operation := some .trace, prior := some prior, held := none }
  handTasks t st (fun _ => .walk walkStart)

/-- TRACE (R111, R112). -/
def execTrace (s : State) : Host.Outcome State Fault Refusal :=
  event s (serve (ofKind 21) parseStation (fun s st =>
    match firstFailing (plain ((traceable (s.station st), .wrongState) :: motionConditions s st headParked) ++
        [roomFor s 1]) with
    | some r => turnAway s r
    | none => (beginTrace s st, .started)))

end Sys2Proof.Machine
end

