-- ==== Sys2Proof/Machine/Scan.lean ====
section
/-! DEFINITION. Conformity scans (sections 7.3 to 7.6): their samples, the datum, the judgment of the lateral points, the
results of a verify and of a survey, and the SURVEY request. -/

namespace Sys2Proof.Machine

/-- A new scan record (R138). -/
def newScanRecord : ScanRecord :=
  { datum := .none, datumSample := none, lateral := [], circ := [], reported := none, judged := 0, skips := 0,
    firstOut := none, largest := none, outCount := 0, missCirc := none, sweep := none, d := none, f := none,
    result := .inProgress }

/-- A sample stored in a scan record; one outside its phase is disregarded (R138). -/
def storeScanSample (w : ScanRecord) (x : Sample) : ScanRecord :=
  let r : Reading := { radius := x.radius, status := x.status }
  match x.phase with
  | .datum => if x.index = 70 then { w with datumSample := some r } else w
  | .lateral => if x.index < 140 then { w with lateral := sparseSet w.lateral x.index r } else w
  | .circumferential => if x.index < 64 then { w with circ := sparseSet w.circ x.index r } else w

/-- A cursor has passed the DATUM phase. -/
def pastDatum : Option Cursor → Bool
  | some (.point .datum _) => false
  | some (.point .lateral _) => true
  | some (.point .circumferential _) => true
  | some (.pass _ _) => false
  | none => false

/-- The datum taken from the DATUM sample (R139); once set it stands. -/
def takeDatum (w : ScanRecord) : ScanRecord :=
  match w.datum with
  | .radius _ => w
  | .failed => w
  | .none =>
    match w.datumSample with
    | some r => if r.status = .good then { w with datum := .radius r.radius } else { w with datum := .failed }
    | none => if pastDatum w.reported then { w with datum := .failed } else w

/-- The reported cursor lies beyond a lateral point (R140). -/
def pastPoint (c : Option Cursor) (i : Nat) : Bool :=
  match c with
  | some (.point .lateral j) => decide (i < j)
  | some (.point .circumferential _) => true
  | some (.point .datum _) => false
  | some (.pass _ _) => false
  | none => false

/-- The reference of a lateral point (R140). -/
def referenceAt (p : Profile) (i : Nat) : Geometry := p.heights.getD i p.pad

/-- The larger of two deviations in magnitude, the earlier kept among equals (R143). -/
def largerOut (old : Option OutPoint) (new : OutPoint) : Option OutPoint :=
  match old with
  | none => some new
  | some x => if x.deviation.natAbs < new.deviation.natAbs then some new else some x

/-- A lateral point judged (R140, R143): skipped, or compared with its reference; the cursor advances, and in verify
mode the first out-of-band point ends the judgment. -/
def judgePoint (mode : ScanMode) (p : Profile) (r70 : Geometry) (w : ScanRecord) : ScanRecord :=
  let i := w.judged
  match goodRadius (sparseGet w.lateral i) with
  | none => { w with judged := i + 1, skips := w.skips + 1 }
  | some r =>
    let dev := r - r70 - referenceAt p i
    let out := decide (dev < -p.band) || decide (p.band < dev)
    let x : OutPoint := { index := i, high := decide (0 < dev), deviation := dev }
    match mode with
    | .verify => if out then { w with judged := 140, firstOut := some x } else { w with judged := i + 1 }
    | .survey =>
      { w with
        judged := i + 1
        firstOut := if out then w.firstOut.or (some x) else w.firstOut
        outCount := if out then w.outCount + 1 else w.outCount
        largest := largerOut w.largest x }

/-- The judgment goes on from the cursor as far as the samples allow, or, at the task's end, to the last point; at most
`fuel` points (R140). -/
def judgeLateral (mode : ScanMode) (p : Profile) (r70 : Geometry) (atEnd : Bool) : Nat → ScanRecord → ScanRecord
  | 0, w => w
  | fuel + 1, w =>
    if w.judged < 140 ∧ (atEnd = true ∨ (sparseGet w.lateral w.judged).isSome = true ∨ pastPoint w.reported w.judged = true) then
      judgeLateral mode p r70 atEnd fuel (judgePoint mode p r70 w)
    else w

/-- The datum taken and the judgment advanced (R138 to R140). -/
def advanceScan (mode : ScanMode) (p : Option Profile) (atEnd : Bool) (w : ScanRecord) : ScanRecord :=
  let w := takeDatum w
  match w.datum, p with
  | .radius r70, some p => judgeLateral mode p r70 atEnd 140 w
  | .radius _, none => w
  | .none, _ => w
  | .failed, _ => w

/-- A report's samples stored in a scan record that is IN-PROGRESS, with the head's reported cursor, and judged
(R138). -/
def storeScan (mode : ScanMode) (p : Option Profile) (w : ScanRecord) (xs : List Sample) (c : Option Cursor) : ScanRecord :=
  if w.result = .inProgress then
    let w := xs.foldl storeScanSample w
    advanceScan mode p false { w with reported := c.or w.reported }
  else w

/-- SCAN_SAMPLES (R138 to R140). -/
def execScanSamples (h : HeadId) (s : State) : Host.Outcome State Fault Refusal :=
  event s fun s =>
    onNotice s (isScanSamples h) (fun n t =>
      match n with
      | .scanSamples _ xs c =>
        let u := t.traceUnit h.station
        match u.scan with
        | none => t
        | some x =>
          t.setTraceUnit h.station { u with scan := some { x with
            wheels := x.wheels.set h.side (storeScan x.mode (profileAt t x.slot) (x.wheels.get h.side) xs c) } }
      | _ => t)

/-! ### Results -/

/-- The sweep judgment of a verify wheel (R142). -/
def judgeSweep (tolerance : Nat) (w : ScanRecord) : ScanRecord :=
  let miss := missingCount 64 w.circ
  if tolerance < miss then { w with missCirc := some miss, sweep := some .incomplete }
  else if anySaturated w.circ then { w with missCirc := some miss, sweep := some .saturated }
  else
    let rs := goodRadii w.circ
    { w with missCirc := some miss, sweep := some .good, d := some (diameterOf rs), f := some (outOfRound rs) }

/-- A verify wheel's result, of its lateral verdict and its sweep (R141, R142). -/
def verifyResult (tolerance : Nat) (w : ScanRecord) : ScanResult :=
  match w.firstOut with
  | some x => if x.high then .high else .low
  | none =>
    if w.datum = .failed ∨ w.datum = .none then .inconclusive .noDatum
    else if tolerance < w.skips then .inconclusive .skipped
    else if w.sweep = some .good then .conform
    else .inconclusive .sweep

/-- A wheel's scan record at the end of its task (R142, R143). -/
def endScanRecord (mode : ScanMode) (p : Option Profile) (tolerance : Nat) (w : ScanRecord) : ScanRecord :=
  let w := advanceScan mode p true w
  match mode with
  | .verify =>
    let w := judgeSweep tolerance w
    { w with result := verifyResult tolerance w }
  | .survey => { w with result := if w.datum = .failed ∨ w.datum = .none then .noDatum else .surveyed }

/-- A head's scan task has ended: the station marks its part, and the wheel's result is formed (R142, R143). -/
def endScanWheel (s : State) (h : HeadId) : State :=
  let u := s.traceUnit h.station
  match u.scan with
  | none => s
  | some x =>
    markPart (s.setTraceUnit h.station { u with scan := some { x with
      wheels := x.wheels.set h.side
        (endScanRecord x.mode (profileAt s x.slot) s.settings.missingTolerance (x.wheels.get h.side)) } }) h

/-- A scan begins: two new records (R138). -/
def newScan (mode : ScanMode) (slot : Nat) : Scan :=
  { mode := mode, slot := slot, abandoned := false, wheels := .both newScanRecord }

/-- The scan records in hand become the station's last scan results and are released (R142, R145). -/
def keepResults (s : State) (st : StationId) : State :=
  let u := s.traceUnit st
  (s.setTraceUnit st { u with scan := none }).setStation st { s.station st with results := u.scan }

/-- One wheel's part of a survey's TRACE-END (R145). -/
def surveyWheel (w : ScanRecord) : SurveyWheel :=
  { result := w.result, largest := w.largest, outCount := w.outCount, firstOut := w.firstOut, skips := w.skips }

/-- The completion of a survey (R145). -/
def completeSurvey (s : State) (st : StationId) : State :=
  match (s.traceUnit st).scan with
  | none => s
  | some x =>
    let t := keepResults s st
    let y := t.station st
    let t := t.setStation st { endOperation y with work := y.prior.getD .traced }
    post t .traceEnd (.station st) (.surveyDone x.slot (x.wheels.map surveyWheel))

/-! ### The SURVEY request -/

/-- The station states that take a SURVEY (R144). -/
def surveyable : WorkState → Bool
  | .mounted => true
  | .traced => true
  | .finished => true
  | .condemned => true
  | .vacant => false
  | .tracing => false
  | .planned => false
  | .held => false
  | .cutting => false
  | .scanning => false
  | .paused => false

/-- The slot that a survey compares with: the one given, or the one the occupant's record names (R144). -/
def surveySlot (s : State) (st : StationId) (given : Option Nat) : Nat :=
  match given with
  | some p => p
  | none => (((s.station st).occupant.bind (findRecord s.history)).map (·.profile)).getD 0

/-- The conditions of SURVEY, in order (R144). -/
def surveyConditions (s : State) (st : StationId) (given : Option Nat) : List (Bool × (Reason × RefusalDetail)) :=
  plain ((surveyable (s.station st).work, .wrongState) :: motionConditions s st headParked) ++
  [(match given with
    | none => true
    | some p => decide (1 ≤ p) && decide (p ≤ 8), (.badField, .offset 1)),
   ((profileAt s (surveySlot s st given)).isSome, (.noProfile, .none))]

/-- A survey begins (R144). -/
def beginSurvey (s : State) (st : StationId) (slot : Nat) : State :=
  let x := s.station st
  let t := s.setTraceUnit st { s.traceUnit st with scan := some (newScan .survey slot) }
  let t := t.setStation st { x with work := .scanning, operation := some .survey, prior := some x.work }
  handTasks t st (fun _ => .scan .survey scanStart)

/-- SURVEY (R144). -/
def execSurvey (s : State) : Host.Outcome State Fault Refusal :=
  event s (serve (ofKind 22) parseSurvey (fun s f =>
    match firstFailing (surveyConditions s f.1 f.2) with
    | some r => turnAway s r
    | none => (beginSurvey s f.1 (surveySlot s f.1 f.2), .started)))

end Sys2Proof.Machine
end

