-- ==== Sys2Proof/Machine/History.lean ====
section
/-! DEFINITION. The History Store's requests (sections 10.4 to 10.7). -/

namespace Sys2Proof.Machine

/-- A station has a cut in hand while its reservation is above 0 (R195). -/
def cutInHand (x : Station) : Bool := decide (0 < x.reservation)

/-- The stations whose occupant is a serial. -/
def stationsOf (s : State) (serial : Serial) : List StationId :=
  stationIds.filter (fun st => (s.station st).occupant == some serial)

/-- A station whose occupant is the serial is TRACING, CUTTING, SCANNING or PAUSED (R192, R193). -/
def occupantAtWork (s : State) (serial : Serial) : Bool := (stationsOf s serial).any (fun st => operationInHand s st)

/-- A station whose occupant is the serial has a cut in hand (R195). -/
def occupantInCut (s : State) (serial : Serial) : Bool := (stationsOf s serial).any (fun st => cutInHand (s.station st))

/-- A diameter lies in 60000 to 110000 (section 10.1). -/
def diameterOk (x : Geometry) : Bool := within 60000 110000 x

/-- The range conditions of a fleet position, each with its body offset (section 10.1). -/
def positionChecks (at_ : Nat) (p : Option Position) : List (Bool × Nat) :=
  match p with
  | none => []
  | some p =>
    [(decide (1 ≤ p.unit) && decide (p.unit ≤ 9999), at_), (decide (1 ≤ p.vehicle) && decide (p.vehicle ≤ 12), at_ + 2),
     (decide (1 ≤ p.bogie) && decide (p.bogie ≤ 2), at_ + 3), (decide (1 ≤ p.axle) && decide (p.axle ≤ 2), at_ + 4)]

/-- Another record than the serial's holds a position. -/
def otherHolder (s : State) (serial : Serial) (p : Option Position) : Option WheelsetRecord :=
  p.bind (fun q => s.history.records.find? (fun r => r.position == some q && r.serial != serial))

/-- A record displaced from its position by the record of serial `cause` (R194). -/
def displace (s : State) (r : WheelsetRecord) (cause : Serial) : State :=
  match r.position with
  | none => s
  | some p => append s r.serial (.unfitted p (some cause)) (fun x => { x with position := none })

/-- Conditions whose failure is BAD-FIELD at a body offset. -/
def fieldConditions (cs : List (Bool × Nat)) : List (Bool × (Reason × RefusalDetail)) :=
  cs.map (fun c => (c.1, (.badField, .offset c.2)))

/-! ### RECORD ENTER -/

/-- The conditions of RECORD ENTER, in order (R192). -/
def enterConditions (s : State) (f : EnterFields) : List (Bool × (Reason × RefusalDetail)) :=
  let holder := otherHolder s f.serial f.position
  [((findRecord s.history f.serial).isNone, (.recordExists, .none)),
   (decide (s.history.records.length < 384), (.storeFull, .none))] ++
  fieldConditions ([(decide (1 ≤ f.profile) && decide (f.profile ≤ 8), 12), (diameterOk f.ds, 13),
    (diameterOk f.dlt && decide (f.ds ≤ f.dlt), 16), (diameterOk f.diameters.l, 19), (diameterOk f.diameters.r, 22)] ++
    positionChecks 25 f.position) ++
  [((profileAt s f.profile).isSome, (.noProfile, .none)),
   (match holder with
    | none => true
    | some r => !occupantAtWork s r.serial, (.wrongState, .none)),
   roomFor s (if f.position.isNone then 0 else if holder.isNone then 1 else 2)]

/-- A new record (R192). With a position its first revision is raised by the FITTED entry, so that it starts with 1
(R183). -/
def newRecord (f : EnterFields) : WheelsetRecord :=
  { serial := f.serial, position := f.position, profile := f.profile, ds := f.ds, dlt := f.dlt, diameters := f.diameters,
    ceiling := none, condemned := false, matchDue := false, retraceDue := false, cutCount := 0
    revision := if f.position.isSome then 0 else 1
    entries := [] }

/-- The record is made, after any displacement, with its FITTED entry (R192). -/
def enterRecord (s : State) (f : EnterFields) : State :=
  let t := match otherHolder s f.serial f.position with
    | none => s
    | some r => displace s r f.serial
  let t := t.setHistory { t.history with records := t.history.records ++ [newRecord f] }
  match f.position with
  | none => t
  | some p => append t f.serial (.fitted p none) id

/-- A record's revision; 0 where there is no such record. -/
def revisionOf (s : State) (serial : Serial) : Word32 := ((findRecord s.history serial).map (·.revision)).getD 0

/-- RECORD ENTER (R192). -/
def execRecordEnter (s : State) : Host.Outcome State Fault Refusal :=
  event s (serve (ofKind 37) parseEnter (fun s f =>
    match firstFailing (enterConditions s f) with
    | some r => turnAway s r
    | none =>
      let t := enterRecord s f
      (t, .done (.recordEntered (revisionOf t f.serial) ((otherHolder s f.serial f.position).map (·.serial))))))

/-! ### RECORD FIT -/

/-- The number of entries that a fit would write (R193, R194). -/
def fitEntries (s : State) (r : WheelsetRecord) (p : Option Position) : Nat :=
  if r.position = p then 0 else if (otherHolder s r.serial p).isSome then 2 else 1

/-- The conditions of RECORD FIT once the record is found, in order (R193). -/
def fitConditions (s : State) (r : WheelsetRecord) (p : Option Position) : List (Bool × (Reason × RefusalDetail)) :=
  fieldConditions (positionChecks 12 p) ++
  [(!occupantAtWork s r.serial && (match otherHolder s r.serial p with
      | none => true
      | some q => !occupantAtWork s q.serial), (.wrongState, .none)),
   roomFor s (fitEntries s r p)]

/-- The fit (R194). -/
def fitRecord (s : State) (r : WheelsetRecord) (p : Option Position) : State :=
  let t := match otherHolder s r.serial p with
    | none => s
    | some q => displace s q r.serial
  match p, r.position with
  | some q, former => append t r.serial (.fitted q former) (fun x => { x with position := some q })
  | none, some former => append t r.serial (.unfitted former none) (fun x => { x with position := none })
  | none, none => t

/-- RECORD FIT (R193, R194). Where nothing would change, the reply carries the record's present revision beside the mark
unchanged (DESIGN CHOICE, log entry 47). -/
def execRecordFit (s : State) : Host.Outcome State Fault Refusal :=
  event s (serve (ofKind 39) parseFit (fun s f =>
    match findRecord s.history f.1 with
    | none => refuse s .noRecord
    | some r =>
      match firstFailing (fitConditions s r f.2) with
      | some x => turnAway s x
      | none =>
        if r.position = f.2 then (s, .done (.recordFitted true r.revision none))
        else
          let t := fitRecord s r f.2
          (t, .done (.recordFitted false (revisionOf t r.serial) ((otherHolder s r.serial f.2).map (·.serial))))))

/-! ### RECORD AMEND -/

/-- A geometry field's change: its amend field number, its former and its new value. -/
def changeOf (n : Nat) (former : Geometry) (new : Option Geometry) : List (Nat × Option Geometry × Option Geometry) :=
  match new with
  | none => []
  | some v => if v = former then [] else [(n, some former, some v)]

/-- The fields that an amendment changes (R196), numbered in the order of the RECORD AMEND body (section 11.4). -/
def amendChanges (r : WheelsetRecord) (f : AmendFields) : List (Nat × Option Geometry × Option Geometry) :=
  changeOf 1 r.profile (f.profile.map (fun n => (n : Int))) ++ changeOf 2 r.ds f.ds ++ changeOf 3 r.dlt f.dlt ++
  changeOf 4 r.diameters.l f.left ++ changeOf 5 r.diameters.r f.right ++
  (match f.ceiling with
   | .unchanged => []
   | .clear => if r.ceiling.isNone then [] else [(6, r.ceiling, none)]
   | .value v => if r.ceiling = some v then [] else [(6, r.ceiling, some v)]) ++
  (if f.condemn && !r.condemned then [(7, some 0, some 1)] else [])

/-- The record amended (R196). -/
def amendRecord (f : AmendFields) (r : WheelsetRecord) : WheelsetRecord :=
  { r with
    profile := f.profile.getD r.profile
    ds := f.ds.getD r.ds
    dlt := f.dlt.getD r.dlt
    diameters := ⟨f.left.getD r.diameters.l, f.right.getD r.diameters.r⟩
    ceiling := match f.ceiling with
      | .unchanged => r.ceiling
      | .clear => none
      | .value v => some v
    matchDue := match f.ceiling with
      | .unchanged => r.matchDue
      | .clear => if r.ceiling.isNone then r.matchDue else false
      | .value v => if r.ceiling = some v then r.matchDue else true
    condemned := r.condemned || f.condemn }

/-- An absent value is in range, and a value given is in range if `ok` says so. -/
def givenOk {α : Type} (ok : α → Bool) : Option α → Bool
  | none => true
  | some x => ok x

/-- The field conditions of RECORD AMEND, each with its body offset (R195). -/
def amendChecks (r : WheelsetRecord) (f : AmendFields) : List (Bool × Nat) :=
  let ordered := decide (f.ds.getD r.ds ≤ f.dlt.getD r.dlt)
  [(givenOk (fun n => decide (1 ≤ n) && decide (n ≤ 8)) f.profile, 12),
   (givenOk diameterOk f.ds && (f.dlt.isSome || ordered), 13),
   (givenOk diameterOk f.dlt && ordered, 16), (givenOk diameterOk f.left, 19), (givenOk diameterOk f.right, 22),
   (match f.ceiling with
    | .unchanged => true
    | .clear => true
    | .value v => diameterOk v, 25)]

/-- The conditions of RECORD AMEND once the record is found, in order (R195). -/
def amendConditions (s : State) (r : WheelsetRecord) (f : AmendFields) : List (Bool × (Reason × RefusalDetail)) :=
  [(!occupantInCut s r.serial, (.wrongState, .none))] ++ fieldConditions (amendChecks r f) ++
  [(givenOk (fun n => (profileAt s n).isSome) f.profile, (.noProfile, .none)),
   roomFor s (if (amendChanges r f).isEmpty then 0 else 1)]

/-- RECORD AMEND (R195, R196). Where nothing would change, the reply carries the record's present revision and an empty list
of fields beside the mark unchanged (DESIGN CHOICE, log entry 47). -/
def execRecordAmend (s : State) : Host.Outcome State Fault Refusal :=
  event s (serve (ofKind 40) parseAmend (fun s f =>
    match findRecord s.history f.serial with
    | none => refuse s .noRecord
    | some r =>
      match firstFailing (amendConditions s r f) with
      | some x => turnAway s x
      | none =>
        let cs := amendChanges r f
        if cs.isEmpty then (s, .done (.recordAmended true r.revision []))
        else
          let t := append s r.serial (.amended cs) (amendRecord f)
          (t, .done (.recordAmended false (revisionOf t r.serial) (cs.map (·.1))))))

/-! ### RECORD RETIRE, RECORD READ and EXPORT TAKE -/

/-- A record's entries are moved into the export queue and the record is deleted (R197). -/
def retireRecord (s : State) (r : WheelsetRecord) : State :=
  s.setHistory { s.history with
    records := s.history.records.filter (fun q => q.serial != r.serial)
    exportQueue := r.entries.foldl (fun q e => insertExport q { serial := r.serial, entry := e }) s.history.exportQueue }

/-- RECORD RETIRE (R197). -/
def execRecordRetire (s : State) : Host.Outcome State Fault Refusal :=
  event s (serve (ofKind 41) parseSerial (fun s serial =>
    match findRecord s.history serial with
    | none => refuse s .noRecord
    | some r =>
      match firstFailing [((stationsOf s serial).isEmpty, (Reason.wrongState, RefusalDetail.none)), roomFor s r.entries.length] with
      | some x => turnAway s x
      | none => (retireRecord s r, .done (.recordRetired r.entries.length))))

/-- What RECORD READ says of the station of which the serial is occupant (R198). -/
def occupantData (s : State) (serial : Serial) : Option OccupantData :=
  (stationsOf s serial).head?.map (fun st =>
    { station := st, work := (s.station st).work
      deferred := (s.station st).deferred.map (fun d => (d.value, d.cause)) })

/-- RECORD READ (R198, R202). -/
def execRecordRead (s : State) : Host.Outcome State Fault Refusal :=
  event s (serve (ofKind 38) parseRecordRead (fun s f =>
    match findRecord s.history f.1 with
    | none => refuse s .noRecord
    | some r =>
      if f.2 = 0 then (s, .done (.recordFirst r (occupantData s r.serial)))
      else
        match r.entries[f.2 - 1]? with
        | none => (s, .refused .badField (.offset 12))
        | some e => (s, .done (.recordEntry f.2 (r.entries.length + 1) r.serial r.revision e))))

/-- EXPORT TAKE (R191). -/
def execExportTake (s : State) : Host.Outcome State Fault Refusal :=
  event s (serve (ofKind 42) parseNone (fun s _ =>
    match s.history.exportQueue with
    | [] => refuse s .empty
    | e :: rest => (s.setHistory { s.history with exportQueue := rest }, .done (.exportTaken rest.length e))))

end Sys2Proof.Machine
end

