-- ==== Sys2Proof/Machine/Plan.lean ====
section
/-! DEFINITION. Cut planning (chapter 8): the arithmetic, PLAN for one station and for both, APPROVE, and the withdrawal
on a record-changed notice. -/

namespace Sys2Proof.Machine

/-! ### The arithmetic -/

/-- A quotient rounded up (section 4.3 of the opening file); the divisor is positive. -/
def ceilDiv (a b : Int) : Int := (a + b - 1) / b

/-- A value rounded up to a multiple of 5. -/
def roundUp5 (a : Int) : Int := 5 * ceilDiv a 5

/-- The four terms of a wheel's radial requirement, in the order of R153's table; a negative term counts as 0. -/
def requirementTerms (p : Profile) (r : TraceResults) : List (GoverningTerm × Int) :=
  [(.flangeThickness, max 0 (ceilDiv ((p.sdt - r.sd.getD 0) * p.kf) 16)),
   (.flangeHeight, max 0 (r.sh.getD 0 - p.sht)),
   (.outOfRound, max 0 (r.f.getD 0)),
   (.cleanUp, max 0 p.cmin)]

/-- The governing term: the greatest, the first of equals (R153). -/
def governing : List (GoverningTerm × Int) → GoverningTerm × Int
  | [] => (.cleanUp, 0)
  | [x] => x
  | x :: xs => if x.2 < (governing xs).2 then governing xs else x

/-- One wheel's figures in a computation (R153 to R155). -/
structure WheelCalc where
  traced : Geometry
  term : GoverningTerm
  a : Geometry
  c : Geometry
  final : Geometry
deriving DecidableEq, Repr

/-- One computation of steps 1 to 4 (R153 to R155): the target after step 2, whether the ceiling lowered it, and the
target with the wheels formed from it. -/
structure Calc where
  stepTwo : Geometry
  lowered : Bool
  target : Geometry
  wheels : PerSide WheelCalc
deriving DecidableEq, Repr

/-- The radial cut to a target: half the difference, rounded up to a multiple of 5 (R155). -/
def radialCut (d t : Geometry) : Geometry := 5 * ceilDiv (d - t) 10

/-- Step 1 for one wheel, with no cut formed yet (R153). -/
def requireWheel (p : Profile) (r : TraceResults) : WheelCalc :=
  let g := governing (requirementTerms p r)
  { traced := r.d.getD 0, term := g.1, a := roundUp5 g.2, c := 0, final := r.d.getD 0 }

/-- Step 4 for one wheel: its radial cut and final from the target (R155). -/
def formWheel (t : Geometry) (w : WheelCalc) : WheelCalc :=
  { w with c := radialCut w.traced t, final := w.traced - 2 * radialCut w.traced t }

/-- The wheels formed from a target. -/
def formWheels (t : Geometry) (ws : PerSide WheelCalc) : PerSide WheelCalc := ws.map (formWheel t)

/-- Steps 1 to 4 of one wheelset with one profile (R153 to R155). -/
def compute (p : Profile) (ceiling : Option Geometry) (rs : PerSide TraceResults) : Calc :=
  let ws := rs.map (requireWheel p)
  let t2 := min (ws.l.traced - 2 * ws.l.a) (ws.r.traced - 2 * ws.r.a)
  let low := match ceiling with
    | none => false
    | some c => decide (c < t2)
  let t := if low then ceiling.getD t2 else t2
  { stepTwo := t2, lowered := low, target := t, wheels := formWheels t ws }

/-- The smaller of the two finals. -/
def smallerFinal (c : Calc) : Geometry := min c.wheels.l.final c.wheels.r.final

/-- What planning makes of one wheelset (R155, R156): condemned FLAGGED, condemned SCRAP with the computations tried,
or adopted with the profile used. -/
inductive Planned where
  | flagged
  | scrap (tried : Calc) (fallback : Option (Nat × Calc))
  | adopted (slot : Nat) (profile : Profile) (fallback : Bool) (figures : Calc) (bogieLowered : Bool)
deriving DecidableEq, Repr

/-- Steps 0 to 4 of one wheelset (R153 to R156). -/
def planWheelset (s : State) (r : WheelsetRecord) (p : Profile) (t : StationTrace) : Planned :=
  if r.condemned then .flagged
  else
    let rs := t.wheels.map (·.results)
    let c := compute p r.ceiling rs
    if r.ds ≤ smallerFinal c then .adopted r.profile p false c false
    else if c.wheels.l.term = .flangeThickness ∨ c.wheels.r.term = .flangeThickness then
      match fallbackOf s p with
      | none => .scrap c none
      | some f =>
        let c2 := compute f.2 r.ceiling rs
        if r.ds ≤ smallerFinal c2 then .adopted f.1 f.2 true c2 false else .scrap c (some (f.1, c2))
    else .scrap c none

/-- Step 5 for one wheelset, given the other's target (R157). -/
def lowerTo (limit : Geometry) : Planned → Planned
  | .adopted slot p fb c low =>
    if limit < c.target then
      .adopted slot p fb { c with target := limit, wheels := formWheels limit c.wheels } true
    else .adopted slot p fb c low
  | .flagged => .flagged
  | .scrap c f => .scrap c f

/-- Step 5 for a pair (R157): the larger target becomes at most the smaller plus Btol. -/
def matchBogie (btol : Geometry) (a b : Planned) : Planned × Planned :=
  match a, b with
  | .adopted _ _ _ ca _, .adopted _ _ _ cb _ =>
    if cb.target < ca.target then (lowerTo (cb.target + btol) a, b)
    else if ca.target < cb.target then (a, lowerTo (ca.target + btol) b)
    else (a, b)
  | .adopted _ _ _ _ _, .flagged => (a, b)
  | .adopted _ _ _ _ _, .scrap _ _ => (a, b)
  | .flagged, _ => (a, b)
  | .scrap _ _, _ => (a, b)

/-- The first radial cut of a surviving wheelset outside the cut range (R158). -/
def cutOutOfRange (st : StationId) : Planned → Option (StationId × Side × Geometry)
  | .adopted _ _ _ c _ =>
    if 1500 < c.wheels.l.c then some (st, .L, c.wheels.l.c)
    else if 1500 < c.wheels.r.c then some (st, .R, c.wheels.r.c)
    else none
  | .flagged => none
  | .scrap _ _ => none

/-- The pass limit of a profile (R160). -/
def passLimit (p : Profile) : Geometry := p.pmax / 5 * 5

/-- Step 7 for one wheel (R160). With one pass, the depth of each pass but the last is c too, and with no recut passes
their depth is 0 (DESIGN CHOICE, log entry 40). -/
def dividePasses (pm : Geometry) (w : WheelCalc) : WheelPlan :=
  let n := max 1 (ceilDiv w.c pm)
  let d := 5 * ceilDiv w.c (5 * n)
  { traced := w.traced, governing := w.term, a := w.a, c := w.c, final := w.final, count := n.toNat, depth := d
    last := w.c - (n - 1) * d, recuts := 0, recutDepth := 0 }

/-- A wheel's figures with no passes, as a CONDEMNED share holds them (R147); the depths of no passes are 0 (DESIGN CHOICE,
log entry 40). -/
def noPasses (w : WheelCalc) : WheelPlan :=
  { traced := w.traced, governing := w.term, a := w.a, c := w.c, final := w.final, count := 0, depth := 0, last := 0,
    recuts := 0, recutDepth := 0 }

/-! ### Findings and shares -/

/-- A finding with a code of its own, its values as R201 tables them. -/
def planFinding (k : FindingKind) (hold : Bool) (v1 v2 v3 : Option Geometry) : Finding :=
  { kind := k, wheel := .none, outcome := none, hold := hold, v1 := v1, v2 := v2, v3 := v3 }

/-- A cut above the visit cut limit. -/
def excessOf (cvisit : Geometry) (w : WheelCalc) : Option Geometry := if cvisit < w.c then some w.c else none

/-- The findings of a surviving share, in order, each with the held reason it would give (R159). -/
def shareFindings (r : WheelsetRecord) (t : StationTrace) (cvisit : Geometry) (slot : Nat) (fb : Bool) (c : Calc) :
    List (Finding × HeldReason) :=
  (t.findings.filter (·.hold)).map (fun f => (f, HeldReason.limit)) ++
  (if smallerFinal c < r.dlt then
    [(planFinding .lastTurn true (some (smallerFinal c)) (some r.dlt) none, HeldReason.lastTurn)] else []) ++
  (if (excessOf cvisit c.wheels.l).isSome || (excessOf cvisit c.wheels.r).isSome then
    [(planFinding .excess true (excessOf cvisit c.wheels.l) (excessOf cvisit c.wheels.r) (some cvisit), HeldReason.excess)]
   else []) ++
  (if fb then [(planFinding .fallback false (some r.profile) (some slot) none, HeldReason.limit)] else []) ++
  (if c.lowered then [(planFinding .ceiling false r.ceiling (some c.stepTwo) none, HeldReason.limit)] else [])

/-- The held reason: that of the first HOLD finding, since the findings stand in the order of the reasons (R159). -/
def heldReasonOf (fs : List (Finding × HeldReason)) : Option HeldReason := (fs.find? (fun f => f.1.hold)).map (·.2)

/-- The share of a wheelset (R147, R156, R159, R160). -/
def makeShare (r : WheelsetRecord) (t : StationTrace) (cvisit : Geometry) : Planned → Share
  | .flagged =>
    { occupant := r.serial, outcome := .condemned, cause := some .flagged, profileUsed := none, profileTried := r.profile
      fallback := false, bogieLowered := false, target := none, wheels := none, findings := [], heldReason := none
      approved := false }
  | .scrap c f =>
    let k := match f with
      | none => c
      | some x => x.2
    { occupant := r.serial, outcome := .condemned, cause := some .scrap, profileUsed := none, profileTried := r.profile
      fallback := false, bogieLowered := false, target := some k.target, wheels := some (k.wheels.map noPasses)
      findings := [], heldReason := none, approved := false }
  | .adopted slot p fb c low =>
    let fs := shareFindings r t cvisit slot fb c
    let held := heldReasonOf fs
    { occupant := r.serial, outcome := if held.isSome then .held else .planned, cause := none, profileUsed := some slot
      profileTried := r.profile, fallback := fb, bogieLowered := low, target := some c.target
      wheels := some (c.wheels.map (dividePasses (passLimit p))), findings := fs.map (·.1), heldReason := held
      approved := false }

/-- A wheel's figures in PLAN-END and in the PLAN reply (R161, R162). -/
def figuresOf (w : WheelPlan) : WheelFigures :=
  { governing := w.governing, a := w.a, c := w.c, final := w.final, count := w.count }

/-- A share's part of the PLAN reply (R161). -/
def planReply (x : Share) : PlanReply :=
  { outcome := x.outcome, heldReason := x.heldReason, profileUsed := x.profileUsed, fallback := x.fallback
    bogieLowered := x.bogieLowered, wheels := x.wheels.map (·.map figuresOf) }

/-- The PLAN-END outcome of a share's outcome. -/
def planEndOutcome : ShareOutcome → PlanEndOutcome
  | .planned => .planned
  | .held => .held
  | .condemned => .condemned

/-- The detail of PLAN-END for a share (R162, R164). -/
def planEndDetail (kind : PlanKind) (outcome : PlanEndOutcome) (field : Option StaleField) (x : Share) : PlanEndDetail :=
  { outcome := outcome, heldReason := if outcome = .stale then none else x.heldReason, cause := x.cause, kind := some kind
    profileTried := some x.profileTried, profileUsed := x.profileUsed, fallback := x.fallback
    bogieLowered := x.bogieLowered, wheels := x.wheels.map (·.map figuresOf), findings := x.findings.length
    anyHold := anyHold x.findings, entryWritten := x.cause == some .scrap, field := field }

/-! ### Captures -/

/-- The capture of a record found by serial. -/
def captureOwn (s : State) (st : StationId) (serial : Serial) : Capture :=
  let r := findRecord s.history serial
  { place := .own st, position := r.bind (·.position), captured := r.map (fun q => (q.serial, q.revision)) }

/-- The capture of a partner position; EMPTY where no record holds it (R151). -/
def capturePartner (s : State) (place : CapturePlace) (p : Position) : Capture :=
  { place := place, position := some p, captured := (recordAt s.history p).map (fun q => (q.serial, q.revision)) }

/-- The other bogie, and the other axle. -/
def otherOf (n : Nat) : Nat := if n = 1 then 2 else 1

/-- The captures of the other bogie's axles (R151). -/
def captureOthers (s : State) (p : Position) : List Capture :=
  [capturePartner s .otherBogie1 { p with bogie := otherOf p.bogie, axle := 1 },
   capturePartner s .otherBogie2 { p with bogie := otherOf p.bogie, axle := 2 }]

/-- The captures of a single plan (R151). -/
def capturesSingle (s : State) (st : StationId) (serial : Serial) : List Capture :=
  captureOwn s st serial ::
  (match (findRecord s.history serial).bind (·.position) with
   | none => []
   | some p => capturePartner s .bogiePartner { p with axle := otherOf p.axle } :: captureOthers s p)

/-- The captures of a joint plan (R151). -/
def capturesJoint (s : State) (a b : Serial) : List Capture :=
  [captureOwn s .A a, captureOwn s .B b] ++
  (match (findRecord s.history a).bind (·.position) with
   | none => []
   | some p => captureOthers s p)

/-- A capture item is unchanged (R151). -/
def captureUnchanged (s : State) (c : Capture) : Bool :=
  match c.captured with
  | some x => (match findRecord s.history x.1 with
    | none => false
    | some r => r.revision == x.2)
  | none => (match c.position with
    | none => true
    | some p => (recordAt s.history p).isNone)

/-! ### PLAN -/

/-- The CONDEMNED entry's body (R156). -/
def condemnedBody (r : WheelsetRecord) (c : Calc) (f : Option (Nat × Calc)) : EntryBody :=
  .condemned (c.wheels.map (·.traced)) r.profile (c.wheels.map (·.final))
    (f.map (fun x => (x.1, x.2.wheels.map (·.final)))) r.ds

/-- A wheelset condemned SCRAP has its record flagged, with its CONDEMNED entry (R161, step 1). -/
def condemnRecord (s : State) (r : WheelsetRecord) : Planned → State
  | .scrap c f => append s r.serial (condemnedBody r c f) (fun x => { x with condemned := true })
  | .flagged => s
  | .adopted _ _ _ _ _ => s

/-- A station takes its share's outcome and its plan reference (R161, step 4). -/
def takeOutcome (s : State) (st : StationId) (slot : Option PlanSlot) (x : Share) : State :=
  s.setStation st { s.station st with
    plan := slot, held := x.heldReason
    work := match x.outcome with
      | .planned => .planned
      | .held => .held
      | .condemned => .condemned }

/-- PLAN-END for a share (R162). -/
def postPlanEnd (s : State) (st : StationId) (kind : PlanKind) (x : Share) : State :=
  post s .planEnd (.station st) (.planEnd (planEndDetail kind (planEndOutcome x.outcome) none x))

/-- A plan slot that holds no plan. -/
def freePlanSlot (p : Planner) : PlanSlot := if p.one.isNone then .one else .two

/-- The settings that a plan records (R152). -/
def planOfSettings (s : State) (kind : PlanKind) (captures : List Capture) (shares : PerStation (Option Share)) : Plan :=
  { kind := kind, madeAt := s.clock, btol := s.settings.btol, vtol := s.settings.vtol, cvisit := s.settings.cvisit
    captures := captures, shares := shares }

/-- A single plan is made (R161). -/
def makeSingle (s : State) (st : StationId) (r : WheelsetRecord) (t : StationTrace) (w : Planned) : State × ReplyBody :=
  let x := makeShare r t s.settings.cvisit w
  let u := condemnRecord s r w
  let slot := freePlanSlot u.planner
  let u :=
    if x.outcome = .condemned then takeOutcome u st none x
    else
      let plan := planOfSettings u .single (capturesSingle u st r.serial) (PerStation.set (.both none) st (some x))
      takeOutcome (u.setPlanner (u.planner.set slot (some plan))) st (some slot) x
  (postPlanEnd u st .single x, .done (.planned [planReply x]))

/-- The occupant's record, the profile it names, and the station's trace, where all three are there. -/
def planInputs (s : State) (st : StationId) : Option (WheelsetRecord × Profile × StationTrace) :=
  match (s.station st).occupant.bind (findRecord s.history) with
  | none => none
  | some r =>
    match profileAt s r.profile, (s.traceUnit st).held with
    | some p, some t => some (r, p, t)
    | some _, none => none
    | none, _ => none

/-- A station's trace is usable (R124). -/
def traceUsable (s : State) (st : StationId) : Bool :=
  match (s.traceUnit st).held with
  | none => false
  | some t => t.usable

/-- The occupant's record names a slot that holds a profile. -/
def occupantHasProfile (s : State) (st : StationId) : Bool := (occupantProfile s st).isSome

/-- The cut range condition as a refusal (R158). -/
def refuseCut (s : State) (x : StationId × Side × Geometry) : State × ReplyBody :=
  (s, .refused .badField (.cut x.1 x.2.1 x.2.2))

/-- PLAN naming one station (R149, R161). -/
def execPlan (s : State) : Host.Outcome State Fault Refusal :=
  event s (serve (namesOne 23) parseStation (fun s st =>
    match firstFailing (plain [((s.station st).work == .traced, .wrongState), (traceUsable s st, .traceUnusable),
        (occupantHasProfile s st, .noProfile)] ++ [roomFor s 1]) with
    | some r => turnAway s r
    | none =>
      match planInputs s st with
      | none => refuse s .noProfile
      | some i =>
        let w := planWheelset s i.1 i.2.1 i.2.2
        match cutOutOfRange st w with
        | some x => refuseCut s x
        | none => makeSingle s st i.1 i.2.2 w))

/-- The two positions are on one bogie (R150). -/
def sameBogie : Option Position → Option Position → Bool
  | some p, some q => p.unit == q.unit && p.vehicle == q.vehicle && p.bogie == q.bogie
  | some _, none => false
  | none, _ => false

/-- The fleet position of a station's occupant. -/
def occupantPosition (s : State) (st : StationId) : Option Position :=
  ((s.station st).occupant.bind (findRecord s.history)).bind (·.position)

/-- The conditions of PLAN naming BOTH but the last, in order (R150). -/
def planBothConditions (s : State) : List (Bool × (Reason × RefusalDetail)) :=
  plain [((s.station .A).work == .traced && (s.station .B).work == .traced, .wrongState),
    (traceUsable s .A && traceUsable s .B, .traceUnusable),
    (sameBogie (occupantPosition s .A) (occupantPosition s .B), .notSameBogie),
    (occupantHasProfile s .A && occupantHasProfile s .B, .noProfile)] ++ [roomFor s 2]

/-- A joint plan is made (R161). Where both wheelsets are condemned SCRAP, station A's entry is appended first (DESIGN CHOICE,
log entry 48). -/
def makeJoint (s : State) (ra : WheelsetRecord) (ta : StationTrace) (wa : Planned) (rb : WheelsetRecord)
    (tb : StationTrace) (wb : Planned) : State × ReplyBody :=
  let xa := makeShare ra ta s.settings.cvisit wa
  let xb := makeShare rb tb s.settings.cvisit wb
  let u := condemnRecord (condemnRecord s ra wa) rb wb
  let slot := freePlanSlot u.planner
  let u :=
    if xa.outcome = .condemned ∧ xb.outcome = .condemned then
      takeOutcome (takeOutcome u .A none xa) .B none xb
    else
      let plan := planOfSettings u .joint (capturesJoint u ra.serial rb.serial) ⟨some xa, some xb⟩
      takeOutcome (takeOutcome (u.setPlanner (u.planner.set slot (some plan))) .A (some slot) xa) .B (some slot) xb
  (postPlanEnd (postPlanEnd u .A .joint xa) .B .joint xb, .done (.planned [planReply xa, planReply xb]))

/-- PLAN naming BOTH (R150, R161). -/
def execPlanBoth (s : State) : Host.Outcome State Fault Refusal :=
  event s (serve (namesBoth 23) parseBoth (fun s _ =>
    match firstFailing (planBothConditions s) with
    | some r => turnAway s r
    | none =>
      match planInputs s .A, planInputs s .B with
      | some a, some b =>
        let w := matchBogie s.settings.btol (planWheelset s a.1 a.2.1 a.2.2) (planWheelset s b.1 b.2.1 b.2.2)
        match (cutOutOfRange .A w.1).or (cutOutOfRange .B w.2) with
        | some x => refuseCut s x
        | none => makeJoint s a.1 a.2.2 w.1 b.1 b.2.2 w.2
      | some _, none => refuse s .noProfile
      | none, _ => refuse s .noProfile))

/-! ### APPROVE and withdrawal -/

/-- HELD before a cut: held reason LIMIT, LAST-TURN or EXCESS. -/
def heldBeforeCut (x : Station) : Bool :=
  x.work == .held && (x.held == some .limit || x.held == some .lastTurn || x.held == some .excess)

/-- APPROVE (R163). -/
def execApprove (s : State) : Host.Outcome State Fault Refusal :=
  event s (serve (ofKind 24) parseStation (fun s st =>
    if heldBeforeCut (s.station st) then
      match shareOf s st with
      | none => refuse s .wrongState
      | some x =>
        let t := setShare s st { x with outcome := .planned, approved := true, heldReason := none }
        (t.setStation st { t.station st with work := .planned, held := none },
          .done (.findings (x.findings.filter (·.hold))))
    else refuse s .wrongState))

/-- A value lies above either planned final. -/
def aboveEither (v : Geometry) (x : Share) : Bool :=
  match x.wheels with
  | none => false
  | some ws => decide (ws.l.final < v) || decide (ws.r.final < v)

/-- A value lies below either planned final. -/
def belowEither (v : Geometry) (x : Share) : Bool :=
  match x.wheels with
  | none => false
  | some ws => decide (v < ws.l.final) || decide (v < ws.r.final)

/-- The field of a record that breaks a share, if any (R164). Where one change breaks it in several ways, the field named
is the first of CONDEMNED, Ds and ceiling (DESIGN CHOICE, log entry 39). -/
def staleField (r : WheelsetRecord) (x : Share) : Option StaleField :=
  if r.condemned then some .condemned
  else if aboveEither r.ds x then some .ds
  else
    match r.ceiling with
    | none => none
    | some c => if belowEither c x then some .ceiling else none

/-- PLAN-END with outcome STALE, for a share withdrawn (R164). -/
def postStale (s : State) (st : StationId) (kind : PlanKind) (field : Option StaleField) (x : Option Share) : State :=
  match x with
  | none => s
  | some y => post s .planEnd (.station st) (.planEnd (planEndDetail kind .stale field y))

/-- The withdrawal of a station's share (R164). -/
def withdrawShare (s : State) (st : StationId) (field : StaleField) : State :=
  let other := otherStation st
  let kind := ((planOf s st).map (·.kind)).getD .single
  let own := shareOf s st
  let others := shareOf s other
  let idle := idlePartner s st
  let t := discardPlan s st
  let t := if idle then postStale t other kind none others else t
  postStale (becomeTraced t st) st kind (some field) own

/-- RECORD_CHANGED_NOTICE (R164, R184): the station compares its share with its occupant's record as it now stands. -/
def execRecordChangedNotice (st : StationId) (s : State) : Host.Outcome State Fault Refusal :=
  event s fun s =>
    onNotice s (isRecordChanged st) (fun n t =>
      match n with
      | .recordChanged _ r =>
        if (t.station st).occupant = some r.serial ∧ ((t.station st).work = .planned ∨ heldBeforeCut (t.station st) = true) then
          match findRecord t.history r.serial, shareOf t st with
          | some q, some x =>
            (match staleField q x with
             | none => t
             | some f => withdrawShare t st f)
          | some _, none => t
          | none, _ => t
        else t
      | _ => t)

end Sys2Proof.Machine
end

