-- ==== Sys2Proof/Machine/Cut.lean ====
section
/-! DEFINITION. Cutting and verification (chapter 9), and the interruption of a cut (R100): CUT START, passes, the
verify's end, ACCEPT, RECUT, the finished cut and the ceilings on partners. -/

namespace Sys2Proof.Machine

/-! ### Pass lists -/

/-- The passes of one wheel: those of step 7, then the recut passes, numbered from 1 (R147, R160, R176). -/
def passList (w : WheelPlan) : List Pass :=
  (List.range w.count).map (fun i => { number := i + 1, depth := if i + 1 = w.count then w.last else w.depth }) ++
  (List.range w.recuts).map (fun i => { number := w.count + i + 1, depth := w.recutDepth })

/-- A station's pass list for one wheel. -/
def stationPasses (s : State) (st : StationId) (d : Side) : List Pass :=
  match (shareOf s st).bind (·.wheels) with
  | none => []
  | some ws => passList (ws.get d)

/-! ### CUT START -/

/-- A capture item of a plan stands at a partner place for station `st` (R168, R179): in a joint plan the OWN item of
the other station stands in the place of BOGIE-PARTNER. -/
def partnerPlace (kind : PlanKind) (st : StationId) : CapturePlace → Bool
  | .own x => kind == .joint && x != st
  | .bogiePartner => true
  | .otherBogie1 => true
  | .otherBogie2 => true

/-- The capture items at a station's partner places, in the order of R179: the captures stand in that order in the
plan. -/
def partnerCaptures (p : Plan) (st : StationId) : List Capture := p.captures.filter (fun c => partnerPlace p.kind st c.place)

/-- The reservation of a station cut (R168). -/
def cutReservation (p : Plan) (st : StationId) : Nat :=
  1 + ((partnerCaptures p st).filter (fun c => c.captured.isSome)).length

/-- The heads of the stations cut whose insert life the passes would exceed, each by `n h` passes, in order (R166). -/
def insertChecks (s : State) (hs : List HeadId) (n : HeadId → Nat) : List (Bool × (Reason × RefusalDetail)) :=
  hs.map (fun h => (decide ((s.head h).insertCount + n h ≤ s.settings.insertLife), (.insertDue, .head h)))

/-- The places of a plan whose capture item has changed (R151). -/
def changedPlaces (s : State) (p : Plan) : List CapturePlace :=
  (p.captures.filter (fun c => !captureUnchanged s c)).map (·.place)

/-- The conditions of CUT START after the first, for the stations cut (R166). -/
def cutConditions (s : State) (p : Plan) (sts : List StationId) : List (Bool × (Reason × RefusalDetail)) :=
  let sought := (sts.map (cutReservation p)).foldl (· + ·) 0
  plain (sts.flatMap (fun st => motionConditions s st headParked)) ++
  insertChecks s (sts.flatMap headsOf) (fun h => (stationPasses s h.station h.side).length) ++
  [((changedPlaces s p).isEmpty, (.stalePlan, .places (changedPlaces s p))), roomFor s sought]

/-- A station's share as a CUT START refused STALE-PLAN finds it (R167). -/
def dropStale (slot : PlanSlot) (s : State) (st : StationId) : State :=
  let x := s.station st
  if x.plan = some slot ∧ (x.work = .planned ∨ x.work = .held) ∧ x.reservation = 0 then becomeTraced (releaseShare s st) st
  else s

/-- A refused CUT START: STALE-PLAN discards the plan's shares (R167); any other reason leaves them. -/
def refuseCutStart (s : State) (slot : PlanSlot) (r : Reason × RefusalDetail) : State × ReplyBody :=
  if r.1 = .stalePlan then turnAway (stationIds.foldl (dropStale slot) s) r else turnAway s r

/-- A station's cut begins (R168). -/
def beginCut (p : Plan) (s : State) (st : StationId) : State :=
  let t := s.setStation st { s.station st with
    reservation := cutReservation p st, recuts := 0, progress := noProgress, deferred := none, operation := some .cut
    work := .cutting, held := none, accepted := false }
  handTasks t st (fun d => .passes (stationPasses t st d) 0)

/-- CUT START naming one station (R166, R167, R168). -/
def execCutStart (s : State) : Host.Outcome State Fault Refusal :=
  event s (serve (namesOne 25) parseStation (fun s st =>
    match (s.station st).plan, planOf s st with
    | some slot, some p =>
      if (s.station st).work ≠ .planned then refuse s .wrongState
      else
        match firstFailing (cutConditions s p [st]) with
        | some r => refuseCutStart s slot r
        | none => (beginCut p s st, .started)
    | some _, none => refuse s .wrongState
    | none, _ => refuse s .wrongState))

/-- The stations of a joint plan whose shares are not CONDEMNED (R166). -/
def survivors (p : Plan) : List StationId :=
  stationIds.filter (fun st => (p.shares.get st).isSome && !shareCondemned (p.shares.get st))

/-- Both stations hold shares of one joint plan, and every station cut is PLANNED (R166). -/
def jointReady (s : State) (p : Plan) : Bool :=
  p.kind == .joint && (s.station .A).plan == (s.station .B).plan && p.shares.a.isSome && p.shares.b.isSome &&
    (survivors p).all (fun st => (s.station st).work == .planned)

/-- CUT START naming BOTH (R166, R167, R168). -/
def execCutStartBoth (s : State) : Host.Outcome State Fault Refusal :=
  event s (serve (namesBoth 25) parseBoth (fun s _ =>
    match (s.station .A).plan, planOf s .A with
    | some slot, some p =>
      if jointReady s p then
        match firstFailing (cutConditions s p (survivors p)) with
        | some r => refuseCutStart s slot r
        | none => ((survivors p).foldl (beginCut p) s, .started)
      else refuse s .wrongState
    | some _, none => refuse s .wrongState
    | none, _ => refuse s .wrongState))

/-! ### Ceilings -/

/-- The smaller of a record's current diameters. -/
def smallerDiameter (r : WheelsetRecord) : Geometry := min r.diameters.l r.diameters.r

/-- A record needs no ceiling at a limit: it is CONDEMNED, its smaller diameter is at or below the limit, or it holds a
ceiling at or below it (R179, R181). -/
def ceilingNotNeeded (r : WheelsetRecord) (limit : Geometry) : Bool :=
  r.condemned || decide (smallerDiameter r ≤ limit) ||
    (match r.ceiling with
     | none => false
     | some c => decide (c ≤ limit))

/-- A CEILING entry appended to a record, its ceiling and MATCH-DUE set (R179, R181). -/
def writeCeiling (s : State) (r : WheelsetRecord) (d : Deferred) (deferred : Bool) : State :=
  append s r.serial (.ceiling d.value r.ceiling d.kind d.df d.cause deferred)
    (fun x => { x with ceiling := some d.value, matchDue := true })

/-- A station applies its deferred ceiling, and its slot is released (R181). -/
def applyDeferred (s : State) (st : StationId) : State :=
  match (s.station st).deferred with
  | none => s
  | some d =>
    let t := match (s.station st).occupant.bind (findRecord s.history) with
      | none => s
      | some r => if ceilingNotNeeded r d.value then s else writeCeiling s r d true
    t.setStation st { t.station st with deferred := none }

/-- The lower of two deferred ceilings, the one held kept among equals (R180). -/
def lowerDeferred (held : Option Deferred) (d : Deferred) : Deferred :=
  match held with
  | none => d
  | some h => if d.value < h.value then d else h

/-- The station with a cut in hand whose occupant a record is (R179). -/
def cuttingStation (s : State) (serial : Serial) : Option StationId :=
  (stationsOf s serial).find? (fun st => cutInHand (s.station st))

/-- The tolerance of a partner place: Btol for the bogie partner, Vtol for the other bogie (R179). -/
def placeTolerance (p : Plan) : CapturePlace → ToleranceKind × Geometry
  | .own _ => (.bogie, p.btol)
  | .bogiePartner => (.bogie, p.btol)
  | .otherBogie1 => (.vehicle, p.vtol)
  | .otherBogie2 => (.vehicle, p.vtol)

/-- One reserved slot of a station is used, passed on or released. -/
def useSlot (s : State) (st : StationId) : State :=
  s.setStation st { s.station st with reservation := (s.station st).reservation - 1 }

/-- What the partner ceilings of a finish have made so far: the state, what became of each place, and the ceilings
written. -/
structure Finish where
  state : State
  fates : List (CapturePlace × CeilingFate)
  written : List (Serial × Geometry)

/-- One partner place of a finished station (R179, R180). A place captured EMPTY reserved no slot and is not
examined. -/
def partnerCeiling (p : Plan) (st : StationId) (own : Serial) (df : Geometry) (f : Finish) (c : Capture) : Finish :=
  match c.captured, c.position with
  | some _, some q =>
    let s := f.state
    let tol := placeTolerance p c.place
    let d : Deferred := { value := df + tol.2, cause := own, kind := tol.1, df := df }
    let none_ : Finish := { f with state := useSlot s st, fates := f.fates ++ [(c.place, .notNeeded)] }
    match recordAt s.history q with
    | none => none_
    | some r =>
      if r.serial = own ∨ ceilingNotNeeded r d.value = true then none_
      else
        match cuttingStation s r.serial with
        | some other =>
          let t := useSlot s st
          let y := t.station other
          { f with
            state := t.setStation other { y with deferred := some (lowerDeferred y.deferred d) }
            fates := f.fates ++ [(c.place, .deferred)] }
        | none =>
          { state := useSlot (writeCeiling s r d false) st
            fates := f.fates ++ [(c.place, .written)]
            written := f.written ++ [(r.serial, d.value)] }
  | some _, none => { f with state := useSlot f.state st, fates := f.fates ++ [(c.place, .notNeeded)] }
  | none, _ => { f with fates := f.fates ++ [(c.place, .notNeeded)] }

/-! ### The finished cut -/

/-- A wheel's scan record in the station's last scan results. -/
def wheelResult (x : Station) (d : Side) : Option ScanRecord := x.results.map (fun r => r.wheels.get d)

/-- A wheel's finished diameter: the sweep's D, otherwise the planned final (R172). -/
def finishedDiameter (x : Station) (ws : PerSide WheelPlan) (d : Side) : Geometry :=
  ((wheelResult x d).bind (·.d)).getD (ws.get d).final

/-- Both finished diameters (R172). -/
def finishedDiameters (x : Station) (ws : PerSide WheelPlan) : PerSide Geometry :=
  ⟨finishedDiameter x ws .L, finishedDiameter x ws .R⟩

/-- A wheel's verify result. -/
def resultOf (x : Station) (d : Side) : ScanResult := ((wheelResult x d).map (·.result)).getD .unfinished

/-- One wheel's part of a CUT entry (R178). -/
def cutWheel (x : Station) (ws : PerSide WheelPlan) (d : Side) : CutWheel :=
  let w := ws.get d
  { radialCut := w.c, listed := w.count + w.recuts, completed := (x.progress.get d).passes
    depth := (x.progress.get d).depth, finished := finishedDiameter x ws d
    fromSweep := ((wheelResult x d).bind (·.d)).isSome, result := resultOf x d }

/-- The body of a CUT entry (R178). -/
def cutBody (x : Station) (p : Plan) (y : Share) (ws : PerSide WheelPlan) : EntryBody :=
  .cut { profileUsed := y.profileUsed.getD 0, profileTried := y.profileTried, fallback := y.fallback, kind := p.kind
         bogieLowered := y.bogieLowered, planned := p.madeAt
         approved := if y.approved then y.findings.filter (·.hold) else []
         wheels := ⟨cutWheel x ws .L, cutWheel x ws .R⟩, recuts := x.recuts, accepted := x.accepted }

/-- The occupant's record after a finished cut (R177, step 3). -/
def finishedRecord (fin : PerSide Geometry) (df : Geometry) (profile : Nat) (r : WheelsetRecord) : WheelsetRecord :=
  let met := match r.ceiling with
    | none => false
    | some c => decide (df ≤ c)
  { r with diameters := fin, profile := profile, ceiling := if met then none else r.ceiling
           matchDue := if met then false else r.matchDue, cutCount := min (r.cutCount + 1) 65535 }

/-- What a finish tells (R174): the finished diameters, Df and the ceilings written. These are the partner ceilings written
at once, each as serial and value; a deferred ceiling, the station's own included, is not among them (DESIGN CHOICE, log
entry 41). -/
structure FinishReport where
  finished : PerSide Geometry
  df : Geometry
  written : List (Serial × Geometry)
deriving DecidableEq, Repr

/-- The station becomes FINISHED (R177). -/
def finishCut (s : State) (st : StationId) (p : Plan) (y : Share) (ws : PerSide WheelPlan) : State × FinishReport :=
  let x := s.station st
  let own := x.occupant.getD []
  let fin := finishedDiameters x ws
  let df := min fin.l fin.r
  let t := useSlot (append s own (cutBody x p y ws) id) st
  let t := changeRecord t own (finishedRecord fin df (y.profileUsed.getD y.profileTried))
  let t := applyDeferred t st
  let f := (partnerCaptures p st).foldl (partnerCeiling p st own df) { state := t, fates := [], written := [] }
  let t := f.state
  let t := t.setStation st { endOperation (t.station st) with
    reservation := 0, recuts := 0, progress := noProgress, held := none, accepted := false }
  let t := releaseShare t st
  let t := t.setStation st { t.station st with work := .finished }
  (post t .cutEnd (.station st)
      (.cutFinished x.accepted x.recuts ⟨(resultOf x .L, fin.l), (resultOf x .R, fin.r)⟩ df f.fates),
    { finished := fin, df := df, written := f.written })

/-- The station's plan, share and wheel figures, where all are there. -/
def shareParts (s : State) (st : StationId) : Option (Plan × Share × PerSide WheelPlan) :=
  (planOf s st).bind fun p => (p.shares.get st).bind fun y => y.wheels.map fun ws => (p, y, ws)

/-! ### The verify -/

/-- A verify begins (R170). -/
def beginVerify (s : State) (st : StationId) : State :=
  let slot := ((shareOf s st).bind (·.profileUsed)).getD 0
  let t := s.setTraceUnit st { s.traceUnit st with scan := some (newScan .verify slot) }
  let t := t.setStation st { t.station st with work := .scanning, operation := some .verify }
  handTasks t st (fun _ => .scan .verify scanStart)

/-- One wheel's part of CUT-END verify-held (R171). -/
def verifyHeldWheel (w : ScanRecord) : CutEndWheel :=
  { result := w.result, firstOut := w.firstOut, skips := w.skips, sweep := w.sweep, d := w.d }

/-- The verify's end (R171). -/
def endVerify (s : State) (st : StationId) : State :=
  match (s.traceUnit st).scan with
  | none => s
  | some x =>
    let t := keepResults s st
    if x.wheels.l.result = .conform ∧ x.wheels.r.result = .conform then
      match shareParts t st with
      | none => t
      | some q => (finishCut t st q.1 q.2.1 q.2.2).1
    else
      let t := t.setStation st { endOperation (t.station st) with work := .held, held := some .nonconform }
      post t .cutEnd (.station st) (.verifyHeld (t.station st).recuts (x.wheels.map verifyHeldWheel))

/-- The operation goes on to its next phase or its end, once both heads' parts are complete (R97, step 3). -/
def completeOperation (s : State) (st : StationId) : State :=
  match (s.station st).operation with
  | some .trace => completeTrace s st
  | some .cut => beginVerify s st
  | some .verify => endVerify s st
  | some .survey => completeSurvey s st
  | none => s

/-- PASS_COMPLETION (R169): the next pass of the list advances the pass progress; any other changes nothing. -/
def execPassCompletion (h : HeadId) (s : State) : Host.Outcome State Fault Refusal :=
  event s fun s =>
    onNotice s (isPassDone h) (fun n t =>
      match n with
      | .passDone _ k =>
        let x := t.station h.station
        let done := x.progress.get h.side
        if x.operation = some .cut ∧ k = done.passes + 1 then
          match (stationPasses t h.station h.side).find? (fun q => q.number == k) with
          | none => t
          | some q =>
            t.setStation h.station { x with
              progress := x.progress.set h.side { passes := done.passes + 1, depth := done.depth + q.depth } }
        else t
      | _ => t)

/-- CUT_PART_COMPLETE (R169, R170): when both parts are complete with the station CUTTING, the verify begins. A station
without a cut in hand takes nothing (R98). -/
def execCutPartComplete (h : HeadId) (s : State) : Host.Outcome State Fault Refusal :=
  event s fun s =>
    onNotice s (isTaskDone h .passes) (fun _ t =>
      if (t.station h.station).operation = some .cut then
        let t := markPart t h
        if bothComplete (t.station h.station) ∧ (t.station h.station).work = .cutting then beginVerify t h.station else t
      else t)

/-- SCAN_TASK_END (R142, R143, R145): the wheel's result is formed; when both wheels have one with the station
SCANNING, the verify ends or the survey completes. -/
def execScanTaskEnd (h : HeadId) (s : State) : Host.Outcome State Fault Refusal :=
  event s fun s =>
    onNotice s (isTaskDone h .scan) (fun _ t =>
      let t := endScanWheel t h
      let st := h.station
      if bothComplete (t.station st) ∧ (t.station st).work = .scanning then
        if (t.station st).operation = some .survey then completeSurvey t st else endVerify t st
      else t)

/-! ### ACCEPT and RECUT -/

/-- HELD after a cut: held reason NONCONFORM or UNVERIFIED. -/
def heldAfterCut (x : Station) : Bool := x.work == .held && (x.held == some .nonconform || x.held == some .unverified)

/-- ACCEPT (R174). -/
def execAccept (s : State) : Host.Outcome State Fault Refusal :=
  event s (serve (ofKind 29) parseStation (fun s st =>
    if heldAfterCut (s.station st) then
      match shareParts s st with
      | none => refuse s .wrongState
      | some q =>
        let r := finishCut (s.setStation st { s.station st with accepted := true }) st q.1 q.2.1 q.2.2
        (r.1, .done (.accepted r.2.finished r.2.df r.2.written))
    else refuse s .wrongState))

/-- The recut depth: Cmin rounded up to a multiple of 5, reduced to the pass limit (R175). -/
def recutDepth (p : Profile) : Geometry := min (roundUp5 p.cmin) (passLimit p)

/-- The scrap check of RECUT for one wheel (R175). -/
def scrapCheck (x : Station) (ws : PerSide WheelPlan) (r ds : Geometry) (d : Side) : Bool × (Reason × RefusalDetail) :=
  (decide (ds ≤ min (finishedDiameter x ws d) (ws.get d).final - 2 * r), (.wrongState, .scrap d))

/-- The conditions of RECUT, in order (R175); of several heads or wheels that fail, L is named before R (DESIGN CHOICE, log
entry 49). -/
def recutConditions (s : State) (st : StationId) (ws : PerSide WheelPlan) (r ds : Geometry) :
    List (Bool × (Reason × RefusalDetail)) :=
  plain ((heldAfterCut (s.station st) && decide ((s.station st).recuts < 255), .wrongState) ::
    motionConditions s st headParked) ++
  insertChecks s (headsOf st) (fun _ => 1) ++
  [scrapCheck (s.station st) ws r ds .L, scrapCheck (s.station st) ws r ds .R]

/-- A wheel's figures with one recut pass more (R176). -/
def recutWheel (r : Geometry) (w : WheelPlan) : WheelPlan :=
  { w with recuts := w.recuts + 1, recutDepth := r, c := w.c + r, final := w.final - 2 * r }

/-- A recut begins (R176). -/
def beginRecut (s : State) (st : StationId) (y : Share) (ws : PerSide WheelPlan) (r : Geometry) : State :=
  let ws' := ws.map (recutWheel r)
  let t := setShare s st { y with wheels := some ws' }
  let x := t.station st
  let t := t.setStation st { x with recuts := x.recuts + 1, held := none, operation := some .cut, work := .cutting }
  handTasks t st (fun d =>
    .passes [{ number := (ws'.get d).count + (ws'.get d).recuts, depth := r }] 0)

/-- RECUT (R175, R176). -/
def execRecut (s : State) : Host.Outcome State Fault Refusal :=
  event s (serve (ofKind 30) parseStation (fun s st =>
    match shareParts s st with
    | none => refuse s .wrongState
    | some q =>
      let r := ((q.2.1.profileUsed.bind (profileAt s)).map recutDepth).getD 0
      let ds := (((s.station st).occupant.bind (findRecord s.history)).map (·.ds)).getD 0
      match firstFailing (recutConditions s st q.2.2 r ds) with
      | some x => turnAway s x
      | none => (beginRecut s st q.2.1 q.2.2 r, .started)))

/-! ### The interruption of a cut -/

/-- One wheel's part of a CUT-INTERRUPTED entry: the recorded diameter after the lowering (R100). -/
def interruptedWheel (x : Station) (r : WheelsetRecord) (d : Side) : InterruptedWheel :=
  let p := x.progress.get d
  { passes := p.passes, depth := p.depth, diameter := r.diameters.get d - 2 * p.depth }

/-- The record lowered by the depth its passes took, and flagged RETRACE-DUE (R100, step 2). -/
def loweredRecord (x : Station) (r : WheelsetRecord) : WheelsetRecord :=
  { r with diameters := ⟨r.diameters.l - 2 * (x.progress.get .L).depth, r.diameters.r - 2 * (x.progress.get .R).depth⟩
           retraceDue := true }

/-- A cut is interrupted: steps 1 to 5 of R100, then the deferred ceiling (R181). -/
def interruptCut (s : State) (st : StationId) (cause : AbandonCause) : State :=
  let x := s.station st
  let own := x.occupant.getD []
  let t := match findRecord s.history own with
    | none => s
    | some r =>
      changeRecord (append s own
        (.cutInterrupted cause x.recuts ⟨interruptedWheel x r .L, interruptedWheel x r .R⟩) id) own (loweredRecord x)
  let t := t.setStation st { endOperation (t.station st) with
    reservation := 0, recuts := 0, progress := noProgress, held := none, accepted := false }
  let t := releaseShare (discardTrace t st) st
  applyDeferred (t.setStation st { t.station st with work := .mounted }) st

/-- CUT-STOPPED of an interrupted cut (R100, step 6), with the passes and depths it had. -/
def postInterrupted (s : State) (st : StationId) (dismounted : Bool) (cause : AbandonCause)
    (progress : PerSide PassProgress) : State :=
  post s .cutStopped (.station st) (.cutAbandoned dismounted cause progress)

end Sys2Proof.Machine
end

