-- ==== Sys2Proof/Machine/Stations.lean ====
section
/-! DEFINITION. The Station Controllers (chapter 5): MOUNT, DISMOUNT, pausing, resuming, abandoning and STATION REPORT,
with the notices that stop a station's work. -/

namespace Sys2Proof.Machine

/-! ### MOUNT and DISMOUNT -/

/-- The conditions of MOUNT, in order (R93). -/
def mountConditions (s : State) (st : StationId) (serial : Serial) : List (Bool × Reason) :=
  [((s.station st).work == .vacant, .wrongState), ((findRecord s.history serial).isSome, .noRecord),
   ((s.station (otherStation st)).occupant != some serial, .alreadyMounted)]

/-- MOUNT (R93). -/
def execMount (s : State) : Host.Outcome State Fault Refusal :=
  event s (serve (ofKind 19) parseMount (fun s f =>
    match firstFailing (mountConditions s f.1 f.2) with
    | some r => refuse s r
    | none =>
      (s.setStation f.1 { s.station f.1 with
         occupant := some f.2, work := .mounted, reservation := 0, recuts := 0, progress := noProgress, prior := none
         held := none },
       .done .empty)))

/-- The station states that take a DISMOUNT (R94). -/
def dismountable : WorkState → Bool
  | .mounted => true
  | .traced => true
  | .planned => true
  | .held => true
  | .finished => true
  | .condemned => true
  | .vacant => false
  | .tracing => false
  | .cutting => false
  | .scanning => false
  | .paused => false

/-- The station emptied: every non-volatile field cleared (R94, step 4). -/
def emptiedStation (x : Station) : Station := { vacantStation with view := x.view }

/-- DISMOUNT taken (R94). Step 1 interrupts a cut, which discards the station's own share; step 3 discards an idle
partner's share of the same joint plan as the station held it when DISMOUNT was taken (log entry 20). -/
def dismountStation (s : State) (st : StationId) : State :=
  let x := s.station st
  let other := otherStation st
  let t := if 0 < x.reservation then postInterrupted (interruptCut s st .host) st true .host x.progress else s
  let t := releaseShare (discardTrace t st) st
  let t := if idlePartner s st then becomeTraced (releaseShare t other) other else t
  t.setStation st (emptiedStation (t.station st))

/-- DISMOUNT (R94). -/
def execDismount (s : State) : Host.Outcome State Fault Refusal :=
  event s (serve (ofKind 20) parseStation (fun s st =>
    match firstFailing [(dismountable (s.station st).work, Reason.wrongState),
        ((s.clamp st).state == .opened, .clampNotOpen)] with
    | some r => refuse s r
    | none => (dismountStation s st, .done .empty)))

/-! ### Pausing -/

/-- The data of a pause (R96). -/
def pauseData (x : Station) (byZone : Bool) : PauseData :=
  { byZone := byZone, operation := x.operation, cursors := x.cursor, progress := x.progress }

/-- A station pauses (R96). -/
def pauseStation (s : State) (st : StationId) (byZone : Bool) : State :=
  let t := send (s.setStation st { s.station st with work := .paused }) [.halt st]
  post t .cutStopped (.station st) (.cutPaused (pauseData (t.station st) byZone))

/-- A station works: TRACING, CUTTING or SCANNING. -/
def stationWorking (w : WorkState) : Bool := w == .tracing || w == .cutting || w == .scanning

/-- STATION PAUSE (R96). -/
def execStationPause (s : State) : Host.Outcome State Fault Refusal :=
  event s (serve (ofKind 26) parseStation (fun s st =>
    if stationWorking (s.station st).work then
      (pauseStation s st false, .done (.paused (pauseData (s.station st) false)))
    else refuse s .wrongState))

/-- STATION_BREACH_NOTICE (R96). -/
def execStationBreachNotice (st : StationId) (s : State) : Host.Outcome State Fault Refusal :=
  event s fun s =>
    onNotice s (fun n => n == .stationBreach st) (fun _ t =>
      let x := t.station st
      let t := t.setStation st { x with view := { x.view with zone := t.zone.zone } }
      if stationWorking x.work then pauseStation t st true else t)

/-! ### Resuming -/

/-- The work state of an operation resumed (R97). -/
def resumedState : Operation → WorkState
  | .trace => .tracing
  | .cut => .cutting
  | .verify => .scanning
  | .survey => .scanning

/-- The passes that remain of a head's list: those not completed, from the pass its cursor names (R97, R169). -/
def remainingPasses (ps : List Pass) (done : Nat) (c : Option Cursor) : List Pass :=
  match c with
  | some (.pass n _) => ps.filter (fun p => decide (done < p.number) && decide (n ≤ p.number))
  | some (.point _ _) => ps.filter (fun p => decide (done < p.number))
  | none => ps.filter (fun p => decide (done < p.number))

/-- The lateral position to start the first remaining pass from: the cursor's, where it names that pass (R169). -/
def remainingLateral (ps : List Pass) (c : Option Cursor) : Nat :=
  match c, ps with
  | some (.pass n x), p :: _ => if p.number = n then x else 0
  | some (.pass _ _), [] => 0
  | some (.point _ _), _ => 0
  | none, _ => 0

/-- The remainder of a head's task, from its walk cursor (R97). -/
def remainder (s : State) (st : StationId) (op : Operation) (d : Side) : HeadTask :=
  let x := s.station st
  let c := x.cursor.get d
  match op with
  | .trace => .walk (c.getD walkStart)
  | .verify => .scan .verify (c.getD scanStart)
  | .survey => .scan .survey (c.getD scanStart)
  | .cut =>
    let ps := remainingPasses (stationPasses s st d) (x.progress.get d).passes c
    .passes ps (remainingLateral ps c)

/-- A head whose part is not complete is handed the remainder of its task (R97, step 2). -/
def handRemainder (op : Operation) (s : State) (h : HeadId) : State :=
  if (s.station h.station).part.get h.side then s else handTask s h (remainder s h.station op h.side)

/-- STATION RESUME taken (R97). -/
def resumeStation (s : State) (st : StationId) (op : Operation) : State :=
  let t := s.setStation st { s.station st with work := resumedState op }
  if bothComplete (t.station st) then completeOperation t st else (headsOf st).foldl (handRemainder op) t

/-- STATION RESUME (R97). -/
def execStationResume (s : State) : Host.Outcome State Fault Refusal :=
  event s (serve (ofKind 27) parseStation (fun s st =>
    match firstFailing (((s.station st).work == .paused, .wrongState) :: motionConditions s st headResumable) with
    | some r => refuse s r
    | none =>
      match (s.station st).operation with
      | none => refuse s .wrongState
      | some op => (resumeStation s st op, .started)))

/-! ### Abandoning -/

/-- A wheel's scan record as an abandoned verify leaves it (R142). -/
def abandonedRecord (w : ScanRecord) : ScanRecord :=
  if w.result = .inProgress then { w with result := .unfinished } else w

/-- The operation in hand is abandoned: the heads are withdrawn, then the operation ends as R99 or R100 gives (R98). -/
def abandonOperation (s : State) (st : StationId) (cause : AbandonCause) : State :=
  let t := withdrawHeads s st
  let x := t.station st
  let u := t.traceUnit st
  match x.operation with
  | none => s
  | some .trace =>
    let t := t.setTraceUnit st { u with walk := none }
    let t := t.setStation st { endOperation x with claim := false, work := x.prior.getD .mounted }
    post t .traceEnd (.station st) (.traceFailed .trace cause)
  | some .survey =>
    let t := t.setTraceUnit st { u with scan := none }
    let t := t.setStation st { endOperation x with work := x.prior.getD .mounted }
    post t .traceEnd (.station st) (.traceFailed .survey cause)
  | some .verify =>
    let t := t.setTraceUnit st { u with scan := none }
    let t := t.setStation st { endOperation x with
      work := .held, held := some .unverified
      results := u.scan.map (fun y => { y with abandoned := true, wheels := y.wheels.map abandonedRecord }) }
    post t .cutStopped (.station st) (.verifyAbandoned cause .held)
  | some .cut => postInterrupted (interruptCut t st cause) st false cause x.progress

/-- A forced abandon: with no operation in hand the station is left as it is (R98). -/
def forceAbandon (s : State) (st : StationId) (cause : AbandonCause) : State :=
  if operationInHand s st then abandonOperation s st cause else s

/-- STATION ABANDON (R98). -/
def execStationAbandon (s : State) : Host.Outcome State Fault Refusal :=
  event s (serve (ofKind 28) parseStation (fun s st =>
    if operationInHand s st then
      let t := abandonOperation s st .host
      (t, .done (.stationState (t.station st).work))
    else refuse s .wrongState))

/-- STATION_BREAK_NOTICE (R98). -/
def execStationBreakNotice (st : StationId) (s : State) : Host.Outcome State Fault Refusal :=
  event s fun s =>
    onNotice s (fun n => n == .stationBreak st) (fun _ t =>
      let x := t.station st
      forceAbandon (t.setStation st { x with view := { x.view with stop := t.zone.stop } }) st .stopped)

/-- LIFT_FAULTED_NOTICE (R98). -/
def execLiftFaultedNotice (st : StationId) (s : State) : Host.Outcome State Fault Refusal :=
  event s fun s => onNotice s (fun n => n == .liftFaulted st) (fun _ t => forceAbandon t st .lift)

/-- CLAMP_FAILED_NOTICE (R88, R98). -/
def execClampFailedNotice (st : StationId) (s : State) : Host.Outcome State Fault Refusal :=
  event s fun s => onNotice s (fun n => n == .clampFailed st) (fun _ t => forceAbandon t st .clamp)

/-- HEAD_FAILED_NOTICE (R98). -/
def execHeadFailedNotice (st : StationId) (s : State) : Host.Outcome State Fault Refusal :=
  event s fun s => onNotice s (fun n => n == .headFailed st) (fun _ t => forceAbandon t st .head)

/-! ### STATION REPORT -/

/-- One part of a station's reading (R110, R202). -/
def reportPart (s : State) (st : StationId) (part : Nat) : ReplyData :=
  let x := s.station st
  let u := s.traceUnit st
  match part with
  | 0 => .stationRecord x (s.clamp st) (s.heads.recs.get st)
  | 1 => .stationTrace u.held u.walk x.cursor
  | 2 => .stationPlan st (planOf s st)
  | 3 => .stationScan x.results u.scan
  | _ => .shareFindings (((shareOf s st).map (·.findings)).getD [])

/-- STATION REPORT (R110, R202). -/
def execStationReport (s : State) : Host.Outcome State Fault Refusal :=
  event s (serve (ofKind 31) parseReport (fun s f => (s, .done (reportPart s f.1 f.2))))

end Sys2Proof.Machine
end

