-- ==== Sys2Proof/Machine/Power.lean ====
section
/-! DEFINITION. Power-up, the coming up at RESTART, the recovery of the stations, and the loss of power (R26, R44, R101,
R199). -/

namespace Sys2Proof.Machine

/-- A station with its volatile fields empty (R92). -/
def wokenStation (x : Station) : Station :=
  { x with cursor := .both none, part := .both false, accepted := false, plan := none, results := none, claim := false
           view := startView }

/-- The insert pass counts, which are non-volatile. -/
def insertCounts (s : State) : PerHead Nat := s.heads.recs.map (fun p => p.map (·.insertCount))

/-- Every block in its starting state, what is non-volatile kept: the settings, the profile slots, the history, the
insert pass counts and the stations' stored fields (section 2.3 of the opening file). The clock is not touched. -/
def wakeBlocks (s : State) : State :=
  { s with
    powered := true, link := startLink, attention := [], loop := startLoop, zone := startZone, timers := startTimers
    warnings := startWarnings, lift := startLift, clamps := startClamps, stations := s.stations.map wokenStation
    heads := startHeads (insertCounts s), traces := .both emptyTrace
    profiles := { s.profiles with buffer := none }, planner := { one := none, two := none }, notices := [] }

/-- A stored work state of an operation that power interrupted. -/
def interruptedWork (w : WorkState) : Bool := stationWorking w || w == .paused

/-- A station recovers from its stored record (R101), EXPORT-DUE served as for any event (R190). -/
def recoverStation (s : State) (st : StationId) : State :=
  let x := s.station st
  let cut := decide (0 < x.reservation)
  let t := if cut then interruptCut s st .power else s
  let t := t.setStation st { endOperation (t.station st) with
    held := none, recuts := 0, work := if (t.station st).occupant.isSome then .mounted else .vacant }
  let t := if cut || interruptedWork x.work then
      post t .recovery .pit (.recovery st x.occupant x.work x.operation cut)
    else t
  send t (exportDueChange s t)

/-- An EXPORT-DUE posting. -/
def isExportDue : Notice → Bool
  | .posting .exportDue _ _ => true
  | _ => false

/-- EXPORT-DUE is posted at power-up and at RESTART where the queue is at the threshold and nothing has posted it yet
(R190). -/
def serveExportDue (s : State) : State :=
  send s (noticeIf (decide (s.settings.exportThreshold ≤ s.history.exportQueue.length) && !s.notices.any isExportDue)
    (exportDueNotice s))

/-- The CLOCK-UNSET item of a clock that is UNSET (R15). -/
def clockUnsetItems (c : Stamp) : List AttentionItem :=
  if c.set then []
  else [{ kind := .clockUnset, source := .pit, detail := .empty, repeats := 1, first := c, last := c }]

/-- The controller comes up (R15, R26, R44, R58, R101, R190); station A recovers before station B (DESIGN CHOICE, log entry
48). -/
def comeUp (s : State) : State :=
  let t := wakeBlocks s
  let t := t.setAttention (clockUnsetItems t.clock)
  let t := serveExportDue (recoverStation (recoverStation t .A) .B)
  send t (viewAll t)

/-- POWER_UP (R20, R44): power is applied, the clock starting at 0 and UNSET (R20). -/
def execPowerUp (s : State) : Host.Outcome State Fault Refusal :=
  .next (comeUp ((s.setClock startClock).setUptime 0))

/-- RESTART_COME_UP (R25, R26): after the last reply of a taken RESTART has been sent. The clock and the flash phase run
on. -/
def execRestartComeUp (s : State) : Host.Outcome State Fault Refusal :=
  if s.powered = true ∧ s.link.restarting = true ∧ s.link.backlog = [] then .next (comeUp s) else .next s

/-- POWER_LOSS (R199): what is volatile is lost; what is non-volatile stands as before the event. -/
def execPowerLoss (s : State) : Host.Outcome State Fault Refusal :=
  .next (((wakeBlocks s).setPowered false).setClock startClock |>.setUptime 0)

end Sys2Proof.Machine
end

