-- ==== Sys2Proof/Machine/Flags.lean ====
section
/-! DEFINITION. What the Warning Outputs derive from their view of the pit: the fault set, the horn tone and the lamp
cells (R59, R61, R63, R64), and the sounds and flashes that follow from them. -/

namespace Sys2Proof.Machine

/-- A member of the fault set (R59). -/
inductive FaultMember where
  | lift
  | clamp (st : StationId)
  | node (position : Nat)
deriving DecidableEq, Repr

/-- The fault set of a view (R59). -/
def faultSet (v : View) : List FaultMember :=
  (if v.lift = some .faulted then [.lift] else []) ++
  (stationIds.filter (fun st => v.clamps.get st == some .faulted)).map .clamp ++
  (v.nodes.filter (fun n => n.2 == .lost)).map (fun n => .node n.1)

/-- A notice that turned one view into another is a fault onset: it added a member to the fault set (R59). -/
def faultOnset (before after : View) : Bool := (faultSet after).any (fun m => !(faultSet before).contains m)

/-- The condition of the ZONE tone (R61); an item that no notice has filled yet does not make it hold (log entry 8). -/
def zoneToneHolds (v : View) : Bool :=
  (v.zone.map (·.1)) == some .breached &&
  ((v.lift.isSome && v.lift != some .lowered) || v.stations.a == some .paused || v.stations.b == some .paused)

/-- The condition of the LIFT tone (R61). -/
def liftToneHolds (v : View) : Bool :=
  v.lift == some .warning || v.lift == some .raising || v.lift == some .lowering

/-- The tone the horn sounds: the first of R61's table whose condition holds. -/
def hornTone (v : View) (muted : Bool) : Option Tone :=
  if !(faultSet v).isEmpty && !muted then some .fault
  else if zoneToneHolds v then some .zone
  else if liftToneHolds v then some .lift
  else none

/-- The lift lamps DOWN, MOVING and UP (R63). -/
def liftCells : Option LiftState → List Lamp
  | none => [.off, .off, .off]
  | some .unknown => [.flash, .off, .flash]
  | some .lowered => [.on, .off, .off]
  | some .warning => [.off, .flash, .off]
  | some .raising => [.off, .on, .flash]
  | some .settling => [.off, .flash, .on]
  | some .raised => [.off, .off, .on]
  | some .holding => [.off, .on, .off]
  | some .lowering => [.flash, .on, .off]
  | some .faulted => [.flash, .flash, .flash]

/-- A station's lamps WORK and HOLD (R63). -/
def stationCells : Option WorkState → List Lamp
  | none => [.off, .off]
  | some .vacant => [.off, .off]
  | some .mounted => [.on, .off]
  | some .traced => [.on, .off]
  | some .planned => [.on, .off]
  | some .tracing => [.flash, .off]
  | some .cutting => [.flash, .off]
  | some .scanning => [.flash, .off]
  | some .paused => [.flash, .flash]
  | some .held => [.on, .flash]
  | some .finished => [.on, .on]
  | some .condemned => [.off, .on]

/-- Cell 7, ZONE (R64). -/
def zoneCell : Option (ZoneState × Bool) → Lamp
  | none => .off
  | some (.clear, _) => .off
  | some (.breached, false) => .on
  | some (.breached, true) => .flash

/-- Cell 8, STOP (R64). -/
def stopCell : Option (StopState × Bool) → Lamp
  | none => .off
  | some (.healthy, _) => .off
  | some (.broken, false) => .on
  | some (.broken, true) => .flash

/-- Cell 9, LOOP (R64). -/
def loopCell (s : Option LoopState) (nodes : List (Nat × NodeCondition)) : Lamp :=
  match s with
  | none => .off
  | some .dark => .off
  | some .discovering => .off
  | some .faulted => .flash
  | some .mismatch => .flash
  | some .running => if nodes.any (fun n => n.2 == .lost) then .flash else .on

/-- Cell 10, ATTENTION (R64). -/
def attentionCell : Option (Bool × Bool) → Lamp
  | none => .off
  | some (true, _) => .off
  | some (false, false) => .on
  | some (false, true) => .flash

/-- Cell 11, EXPORT (R64). -/
def exportCell : Option ExportView → Lamp
  | none => .off
  | some v => if v.full then .flash else if v.threshold ≤ v.length then .on else .off

/-- Cells 0 to 11 of the lamp table, as the view shows (R63, R64). -/
def partCells (v : View) : List Lamp :=
  liftCells v.lift ++ stationCells v.stations.a ++ stationCells v.stations.b ++
  [zoneCell v.zone, stopCell v.stop, loopCell v.loop v.nodes, attentionCell v.attention, exportCell v.exports]

/-- The lamp table with the part's own cells derived from the view, the host cells 12 to 15 kept (R62, R63, R64). -/
def lampTable (v : View) (cells : List Lamp) : List Lamp := partCells v ++ cells.drop 12

/-- The view after one notice (R58). -/
def updateView (v : View) : ViewItem → View
  | .lift s => { v with lift := some s }
  | .clamp st s => { v with clamps := v.clamps.set st (some s) }
  | .tableEmpty => { v with nodes := [] }
  | .node p c => { v with nodes := sparseSet v.nodes p c }
  | .loop s => { v with loop := some s }
  | .station st s => { v with stations := v.stations.set st (some s) }
  | .zone s p => { v with zone := some (s, p) }
  | .stop s p => { v with stop := some (s, p) }
  | .attention e u => { v with attention := some (e, u) }
  | .exports x => { v with exports := some x }

/-- The tone re-chosen at moment `now`: a changed tone starts at the beginning of its pattern, an unchanged one runs on
(R61). -/
def retone (w : Warnings) (now : Nat) : Warnings :=
  let t := hornTone w.view w.muted
  if t = w.tone then w else { w with tone := t, toneSince := now }

/-- The Warning Outputs take one notice (R58, R59, R61, R63, R64). -/
def takeView (w : Warnings) (now : Nat) (item : ViewItem) : Warnings :=
  let v := updateView w.view item
  retone { w with view := v
                  muted := if faultOnset w.view v then false else w.muted
                  cells := lampTable v w.cells } now

/-- The frequency in hertz that the horn sounds at moment `now`, 0 for silence (R61). -/
def hornHertz (w : Warnings) (now : Nat) : Nat :=
  match w.tone with
  | none => 0
  | some .fault => if (now - w.toneSince) % 500 < 250 then 500 else 2000
  | some .zone => if (now - w.toneSince) % 1000 < 500 then 4000 else 0
  | some .lift => if (now - w.toneSince) % 2000 < 1000 then 1000 else 0

/-- Whether a lamp is lit at moment `now`: all flashing lamps flash together, in one phase that starts at power-up
(R62). -/
def lampLit (c : Lamp) (now : Nat) : Bool :=
  match c with
  | .off => false
  | .on => true
  | .flash => now % 1000 < 500

end Sys2Proof.Machine
end

