-- ==== Sys2Proof/Machine/Warning.lean ====
section
/-! DEFINITION. The Warning Outputs (sections 3.3 and 3.4): HORN MUTE, PANEL SET, the view's notices and the panel's
refresh. -/

namespace Sys2Proof.Machine

/-- HORN MUTE (R60, R61). -/
def execHornMute (s : State) : Host.Outcome State Fault Refusal :=
  event s (serve (ofKind 8) parseNone (fun s _ =>
    let w := retone { s.warnings with muted := true } s.uptime
    (s.setWarnings w, .done (.horn s.warnings.tone w.tone (faultSet s.warnings.view).length))))

/-- A host cell after PANEL SET. -/
def hostCells : List Lamp → List (Option Lamp) → List Lamp
  | c :: cs, v :: vs => v.getD c :: hostCells cs vs
  | cs, [] => cs
  | [], _ :: _ => []

/-- PANEL SET (R65). -/
def execPanelSet (s : State) : Host.Outcome State Fault Refusal :=
  event s (serve (ofKind 9) parsePanel (fun s vs =>
    let w := { s.warnings with cells := s.warnings.cells.take 12 ++ hostCells (s.warnings.cells.drop 12) vs }
    (s.setWarnings w, .done (.panel w.cells w.tone w.muted))))

/-- WARNING_VIEW_NOTICE (R58): the oldest notice of one block is taken. -/
def execWarningViewNotice (src : ViewSource) (s : State) : Host.Outcome State Fault Refusal :=
  event s fun s =>
    onNotice s (isView src) (fun n t =>
      match n with
      | .view _ item => t.setWarnings (takeView t.warnings t.uptime item)
      | _ => t)

/-- PANEL_REFRESH (R62): the whole lamp table is sent to the panel. -/
def execPanelRefresh (s : State) : Host.Outcome State Fault Refusal :=
  event s fun s => s.setWarnings { s.warnings with shown := s.warnings.cells }

end Sys2Proof.Machine
end

