-- ==== Sys2Proof/Machine/Zone.lean ====
section
/-! DEFINITION. The Zone Monitor and the Timer Bank (sections 3.1 and 3.2). -/

namespace Sys2Proof.Machine

/-! ### Notices that change a view alone -/

/-- The owners that the Zone Monitor notifies (R49). -/
def pitOwners : List PitOwner := [.lift, .clamps, .heads, .station .A, .station .B]

/-- The notices that tell every owner of a change that alters nothing there but its view (R51, R53). -/
def viewNotices (input : PitInput) : List Notice := pitOwners.map (fun o => .ownView o input)

/-- A view with one item as the Zone Monitor shows it when the notice is taken (log entry 9). -/
def refreshView (z : ZoneMonitor) (input : PitInput) (v : PitView) : PitView :=
  match input with
  | .curtain => { v with zone := z.zone }
  | .stopChain => { v with stop := z.stop }

/-- An owner takes a notice that changes its view alone. -/
def refreshOwner (s : State) (o : PitOwner) (input : PitInput) : State :=
  match o with
  | .lift => s.setLift { s.lift with view := refreshView s.zone input s.lift.view }
  | .clamps => s.setClamps { s.clamps with view := refreshView s.zone input s.clamps.view }
  | .heads => s.setHeads { s.heads with view := refreshView s.zone input s.heads.view }
  | .station st => s.setStation st { s.station st with view := refreshView s.zone input (s.station st).view }

/-- A notice that changes an owner's view alone. -/
def isOwnView : Notice → Bool
  | .ownView _ _ => true
  | _ => false

/-- What happens while no command waits: the oldest notice that changes a view alone is taken, as an event of its own;
with none under way one millisecond passes (DESIGN CHOICE, log entries 1 and 9). -/
def idle (s : State) : State :=
  if s.powered then
    match takeNotice isOwnView s.notices with
    | none => tick s
    | some (n, rest) =>
      match n with
      | .ownView o input => refreshOwner (s.setNotices rest) o input
      | _ => tick s
  else s

/-! ### The Zone Monitor -/

/-- The return pending after one sample of an input whose state is BREACHED or BROKEN (R48): it begins with the moment
of the first sample that shows safety, is kept while safety shows, and ends when danger shows. -/
def returnPending (pending : Option Nat) (safe : Bool) (now : Nat) : Option Nat :=
  if safe then some (pending.getD now) else none

/-- Safety has shown for 250 ms or more (R48). -/
def returnHeld (pending : Option Nat) (now : Nat) : Bool :=
  match pending with
  | none => false
  | some m => decide (m + 250 ≤ now)

/-- RETURN_PENDING (R48): one sample of an input that changes its return pending. -/
def execReturnPending (input : PitInput) (safe : Bool) (s : State) : Host.Outcome State Fault Refusal :=
  event s fun s =>
    match input with
    | .curtain =>
      if s.zone.zone = .breached then
        s.setZone { s.zone with curtainClear := safe, zonePending := returnPending s.zone.zonePending safe s.uptime }
      else s
    | .stopChain =>
      if s.zone.stop = .broken then
        s.setZone { s.zone with chainHealthy := safe, stopPending := returnPending s.zone.stopPending safe s.uptime }
      else s

/-! ### The events of the Zone Monitor -/

/-- BREACH (R48, R50): from CLEAR. -/
def execBreach (s : State) : Host.Outcome State Fault Refusal :=
  event s fun s =>
    if s.zone.zone = .clear then
      send (s.setZone { s.zone with zone := .breached, zonePending := none, curtainClear := false })
        [.liftBreach, .ownView .clamps .curtain, .headBreach, .stationBreach .A, .stationBreach .B, .gateClose,
         .posting .zone .pit (.zone true)]
    else s

/-- CLEAR (R48, R51): from BREACHED, when the curtain has shown clear for 250 ms. -/
def execClear (s : State) : Host.Outcome State Fault Refusal :=
  event s fun s =>
    if s.zone.zone = .breached ∧ returnHeld s.zone.zonePending s.uptime = true then
      send (s.setZone { s.zone with zone := .clear, zonePending := none, curtainClear := true })
        (viewNotices .curtain ++ [.gateOpen, .posting .zone .pit (.zone false)])
    else s

/-- BREAK (R48, R52): from HEALTHY. -/
def execChainBreak (s : State) : Host.Outcome State Fault Refusal :=
  event s fun s =>
    if s.zone.stop = .healthy then
      send (s.setZone { s.zone with stop := .broken, stopPending := none, chainHealthy := false })
        [.liftBreak, .clampBreak, .headBreak, .stationBreak .A, .stationBreak .B, .posting .estop .pit (.estop true)]
    else s

/-- HEALTHY (R48, R53): from BROKEN, when the chain has shown healthy for 250 ms. -/
def execHealthy (s : State) : Host.Outcome State Fault Refusal :=
  event s fun s =>
    if s.zone.stop = .broken ∧ returnHeld s.zone.stopPending s.uptime = true then
      send (s.setZone { s.zone with stop := .healthy, stopPending := none, chainHealthy := true })
        (viewNotices .stopChain ++ [.posting .estop .pit (.estop false)])
    else s

/-! ### The Timer Bank -/

/-- ZONE_GATE_CLOSE (R56): the breach notice at the zone gate. -/
def execZoneGateClose (s : State) : Host.Outcome State Fault Refusal :=
  event s fun s =>
    onNotice s (fun n => n == .gateClose) (fun _ t =>
      t.setTimers (mapGated freezeRec { t.timers with gateOpen := false }))

/-- ZONE_GATE_OPEN (R56): the clear notice at the zone gate. -/
def execZoneGateOpen (s : State) : Host.Outcome State Fault Refusal :=
  event s fun s =>
    onNotice s (fun n => n == .gateOpen) (fun _ t =>
      t.setTimers (mapGated thawRec { t.timers with gateOpen := true }))

/-- A channel's record after it expires (R57). -/
def expiredRec (ch : Channel) (r : TimerRec) : TimerRec :=
  if channelContinuous ch then { r with remaining := r.loaded } else { r with condition := .idle }

/-- TIMER_EXPIRY (R57): a COUNTING channel's remaining time is 0. -/
def execTimerExpiry (ch : Channel) (s : State) : Host.Outcome State Fault Refusal :=
  event s fun s =>
    let r := s.timers.get ch
    if r.condition = .counting ∧ r.remaining = 0 then
      send (s.setTimers (s.timers.set ch (expiredRec ch r))) [.expiry ch r.count]
    else s

end Sys2Proof.Machine
end

