-- ==== Sys2Proof/Machine/Dispatch.lean ====
section
/-! DEFINITION. The dispatch: one arm for each command, each one call of its meaning. -/

namespace Sys2Proof.Machine

/-- What a command does to everything but the queue of the commands that wait. -/
def exec (i : Instr) (s : State) : Host.Outcome State Fault Refusal :=
  match i with
  | .powerUp => Sys2Proof.Machine.execPowerUp s
  | .goodFrameArrival chars => Sys2Proof.Machine.execGoodFrameArrival chars s
  | .frameDiscard chars => Sys2Proof.Machine.execFrameDiscard chars s
  | .interByteTimeout => Sys2Proof.Machine.execInterByteTimeout s
  | .identify => Sys2Proof.Machine.execIdentify s
  | .status => Sys2Proof.Machine.execStatus s
  | .setClock => Sys2Proof.Machine.execSetClock s
  | .settingWrite => Sys2Proof.Machine.execSettingWrite s
  | .loopErrorKindsWrite => Sys2Proof.Machine.execLoopErrorKindsWrite s
  | .pitMapWrite => Sys2Proof.Machine.execPitMapWrite s
  | .settingRead => Sys2Proof.Machine.execSettingRead s
  | .takeAttention => Sys2Proof.Machine.execTakeAttention s
  | .restart => Sys2Proof.Machine.execRestart s
  | .restartComeUp => Sys2Proof.Machine.execRestartComeUp s
  | .hornMute => Sys2Proof.Machine.execHornMute s
  | .panelSet => Sys2Proof.Machine.execPanelSet s
  | .loopStart => Sys2Proof.Machine.execLoopStart s
  | .mapAdopt => Sys2Proof.Machine.execMapAdopt s
  | .nodeList => Sys2Proof.Machine.execNodeList s
  | .liftRaise => Sys2Proof.Machine.execLiftRaise s
  | .liftLower => Sys2Proof.Machine.execLiftLower s
  | .liftStop => Sys2Proof.Machine.execLiftStop s
  | .liftResume => Sys2Proof.Machine.execLiftResume s
  | .clampClose => Sys2Proof.Machine.execClampClose s
  | .clampOpen => Sys2Proof.Machine.execClampOpen s
  | .mount => Sys2Proof.Machine.execMount s
  | .dismount => Sys2Proof.Machine.execDismount s
  | .stationPause => Sys2Proof.Machine.execStationPause s
  | .stationResume => Sys2Proof.Machine.execStationResume s
  | .stationAbandon => Sys2Proof.Machine.execStationAbandon s
  | .stationReport => Sys2Proof.Machine.execStationReport s
  | .insertChanged => Sys2Proof.Machine.execInsertChanged s
  | .trace => Sys2Proof.Machine.execTrace s
  | .survey => Sys2Proof.Machine.execSurvey s
  | .profileLoadClear => Sys2Proof.Machine.execProfileLoadClear s
  | .profileLoadFirstPart => Sys2Proof.Machine.execProfileLoadFirstPart s
  | .profileLoadSecondPart => Sys2Proof.Machine.execProfileLoadSecondPart s
  | .profileRead => Sys2Proof.Machine.execProfileRead s
  | .plan => Sys2Proof.Machine.execPlan s
  | .planBoth => Sys2Proof.Machine.execPlanBoth s
  | .approve => Sys2Proof.Machine.execApprove s
  | .cutStart => Sys2Proof.Machine.execCutStart s
  | .cutStartBoth => Sys2Proof.Machine.execCutStartBoth s
  | .accept => Sys2Proof.Machine.execAccept s
  | .recut => Sys2Proof.Machine.execRecut s
  | .recordEnter => Sys2Proof.Machine.execRecordEnter s
  | .recordRead => Sys2Proof.Machine.execRecordRead s
  | .recordFit => Sys2Proof.Machine.execRecordFit s
  | .recordAmend => Sys2Proof.Machine.execRecordAmend s
  | .recordRetire => Sys2Proof.Machine.execRecordRetire s
  | .exportTake => Sys2Proof.Machine.execExportTake s
  | .clockWrap => Sys2Proof.Machine.execClockWrap s
  | .attentionPosting n => Sys2Proof.Machine.execAttentionPosting n s
  | .returnPending input safe => Sys2Proof.Machine.execReturnPending input safe s
  | .breach => Sys2Proof.Machine.execBreach s
  | .clear => Sys2Proof.Machine.execClear s
  | .chainBreak => Sys2Proof.Machine.execChainBreak s
  | .healthy => Sys2Proof.Machine.execHealthy s
  | .zoneGateClose => Sys2Proof.Machine.execZoneGateClose s
  | .zoneGateOpen => Sys2Proof.Machine.execZoneGateOpen s
  | .timerExpiry ch => Sys2Proof.Machine.execTimerExpiry ch s
  | .warnExpiry => Sys2Proof.Machine.execWarnExpiry s
  | .stepExpiry => Sys2Proof.Machine.execStepExpiry s
  | .settleExpiry => Sys2Proof.Machine.execSettleExpiry s
  | .paceExpiry => Sys2Proof.Machine.execPaceExpiry s
  | .clampTimerExpiry st => Sys2Proof.Machine.execClampTimerExpiry st s
  | .headTimerExpiry h => Sys2Proof.Machine.execHeadTimerExpiry h s
  | .darkHoldExpiry => Sys2Proof.Machine.execDarkHoldExpiry s
  | .segmentDiagnosis outcome localized => Sys2Proof.Machine.execSegmentDiagnosis outcome localized s
  | .diagnosisTimeout => Sys2Proof.Machine.execDiagnosisTimeout s
  | .identityAnswer checkOk kind serial => Sys2Proof.Machine.execIdentityAnswer checkOk kind serial s
  | .identityQueryTimeout => Sys2Proof.Machine.execIdentityQueryTimeout s
  | .loopCycle slots => Sys2Proof.Machine.execLoopCycle slots s
  | .loopDownNotice owner => Sys2Proof.Machine.execLoopDownNotice owner s
  | .liftLoopUp => Sys2Proof.Machine.execLiftLoopUp s
  | .clampLoopUp => Sys2Proof.Machine.execClampLoopUp s
  | .headLoopUp => Sys2Proof.Machine.execHeadLoopUp s
  | .columnReport c => Sys2Proof.Machine.execColumnReport c s
  | .liftBreachNotice => Sys2Proof.Machine.execLiftBreachNotice s
  | .liftBreakNotice => Sys2Proof.Machine.execLiftBreakNotice s
  | .columnLost c => Sys2Proof.Machine.execColumnLost c s
  | .columnRegained c => Sys2Proof.Machine.execColumnRegained c s
  | .clampReport st => Sys2Proof.Machine.execClampReport st s
  | .clampBreakNotice => Sys2Proof.Machine.execClampBreakNotice s
  | .clampLost st => Sys2Proof.Machine.execClampLost st s
  | .clampRegained st => Sys2Proof.Machine.execClampRegained st s
  | .headReport h => Sys2Proof.Machine.execHeadReport h s
  | .taskHanded h => Sys2Proof.Machine.execTaskHanded h s
  | .headBreachNotice => Sys2Proof.Machine.execHeadBreachNotice s
  | .haltNotice st => Sys2Proof.Machine.execHaltNotice st s
  | .headBreakNotice => Sys2Proof.Machine.execHeadBreakNotice s
  | .withdrawNotice st => Sys2Proof.Machine.execWithdrawNotice st s
  | .headLost h => Sys2Proof.Machine.execHeadLost h s
  | .headRegained h => Sys2Proof.Machine.execHeadRegained h s
  | .traceSamples h => Sys2Proof.Machine.execTraceSamples h s
  | .scanSamples h => Sys2Proof.Machine.execScanSamples h s
  | .walkEnd h => Sys2Proof.Machine.execWalkEnd h s
  | .passCompletion h => Sys2Proof.Machine.execPassCompletion h s
  | .cutPartComplete h => Sys2Proof.Machine.execCutPartComplete h s
  | .scanTaskEnd h => Sys2Proof.Machine.execScanTaskEnd h s
  | .stationBreachNotice st => Sys2Proof.Machine.execStationBreachNotice st s
  | .stationBreakNotice st => Sys2Proof.Machine.execStationBreakNotice st s
  | .liftFaultedNotice st => Sys2Proof.Machine.execLiftFaultedNotice st s
  | .clampFailedNotice st => Sys2Proof.Machine.execClampFailedNotice st s
  | .headFailedNotice st => Sys2Proof.Machine.execHeadFailedNotice st s
  | .recordChangedNotice st => Sys2Proof.Machine.execRecordChangedNotice st s
  | .warningViewNotice src => Sys2Proof.Machine.execWarningViewNotice src s
  | .panelRefresh => Sys2Proof.Machine.execPanelRefresh s
  | .startMark ch => Sys2Proof.Machine.execStartMark ch s
  | .replySent => Sys2Proof.Machine.execReplySent s
  | .clockAdvance => Sys2Proof.Machine.execClockAdvance s
  | .powerLoss => Sys2Proof.Machine.execPowerLoss s

end Sys2Proof.Machine
end

