-- ==== Sys2Proof/Safety.lean ====
section
/-! DEFINITION. The terms in which the obligations speak: the parts of the state that a step leaves as they are, a
request at the head of the input queue and its reply, a notice that waits to be taken, and the invariants. -/

namespace Sys2Proof.Machine

/-! ### What a step changes -/

/-- The parts of the state, by the block that owns them. -/
inductive Part where
  | clock
  | link
  | attention
  | settings
  | loop
  | zone
  | timers
  | warnings
  | lift
  | clamps
  | stations
  | heads
  | traces
  | profiles
  | planner
  | history
deriving DecidableEq, Repr

/-- Two states agree on a part. -/
def agree (s t : State) : Part → Prop
  | .clock => t.clock = s.clock
  | .link => t.link = s.link
  | .attention => t.attention = s.attention
  | .settings => t.settings = s.settings
  | .loop => t.loop = s.loop
  | .zone => t.zone = s.zone
  | .timers => t.timers = s.timers
  | .warnings => t.warnings = s.warnings
  | .lift => t.lift = s.lift
  | .clamps => t.clamps = s.clamps
  | .stations => t.stations = s.stations
  | .heads => t.heads = s.heads
  | .traces => t.traces = s.traces
  | .profiles => t.profiles = s.profiles
  | .planner => t.planner = s.planner
  | .history => t.history = s.history

/-- Every part but those listed is unchanged, and so are power, power-on time and the command queue. -/
def onlyChanges (ps : List Part) (s t : State) : Prop :=
  t.powered = s.powered ∧ t.uptime = s.uptime ∧ t.pending = s.pending ∧ ∀ p, p ∉ ps → agree s t p

/-- The notices under way are those given, with others joined after them. -/
def handsOn (before : List Notice) (t : State) : Prop := before <+: t.notices

/-- The notices under way are those given, with nothing joined after them but notices to the Warning Outputs. -/
def onlyViews (before : List Notice) (t : State) : Prop :=
  ∃ vs, t.notices = before ++ vs ∧ ∀ n ∈ vs, ∃ src item, n = .view src item

/-! ### Requests and notices -/

/-- The powered part's oldest waiting request is the frame `f`, of the kind and body given. -/
abbrev asks (s : State) (f : Frame) (kind : Nat) (body : Bytes) : Prop :=
  s.powered = true ∧ s.link.queue.head? = some f ∧ f.kind.toNat = kind ∧ f.body = body

/-- The oldest request has left the queue with a reply that carries its tag and kind (R5, R6). -/
def answered (s : State) (f : Frame) (t : State) (b : ReplyBody) : Prop :=
  t.link = { s.link with
    queue := s.link.queue.tail
    backlog := s.link.backlog ++ [{ tag := f.tag, kind := f.kind, body := b }] }

/-- The powered part's next notice of the sort `p` is `n`; `rest` are the others under way. -/
abbrev waits (s : State) (p : Notice → Bool) (n : Notice) (rest : List Notice) : Prop :=
  s.powered = true ∧ takeNotice p s.notices = some (n, rest)

/-- The request commands, each with the frames that it takes as its own and whether it reads a body (R7, R201). -/
def requestForms : List (Instr × (Frame → Bool) × (Bytes → Bool)) :=
  [(.identify, ofKind 1, fun b => (parseNone b).isSome), (.status, ofKind 2, fun b => (parseNone b).isSome),
   (.setClock, ofKind 3, fun b => (parseClock b).isSome),
   (.settingWrite, isNumericWrite, fun b => (parseSettingWrite b).isSome),
   (.loopErrorKindsWrite, isKindsWrite, fun b => (parseKindsWrite b).isSome),
   (.pitMapWrite, isMapWrite, fun b => (parseMapWrite b).isSome),
   (.settingRead, ofKind 5, fun b => (parseSettingRead b).isSome),
   (.takeAttention, ofKind 6, fun b => (parseNone b).isSome), (.restart, ofKind 7, fun b => (parseNone b).isSome),
   (.hornMute, ofKind 8, fun b => (parseNone b).isSome), (.panelSet, ofKind 9, fun b => (parsePanel b).isSome),
   (.loopStart, ofKind 10, fun b => (parseNone b).isSome), (.mapAdopt, ofKind 11, fun b => (parseNone b).isSome),
   (.nodeList, ofKind 12, fun b => (parseNone b).isSome), (.liftRaise, ofKind 13, fun b => (parseNone b).isSome),
   (.liftLower, ofKind 14, fun b => (parseNone b).isSome), (.liftStop, ofKind 15, fun b => (parseNone b).isSome),
   (.liftResume, ofKind 16, fun b => (parseNone b).isSome), (.clampClose, ofKind 17, fun b => (parseStation b).isSome),
   (.clampOpen, ofKind 18, fun b => (parseStation b).isSome), (.mount, ofKind 19, fun b => (parseMount b).isSome),
   (.dismount, ofKind 20, fun b => (parseStation b).isSome), (.trace, ofKind 21, fun b => (parseStation b).isSome),
   (.survey, ofKind 22, fun b => (parseSurvey b).isSome), (.plan, namesOne 23, fun b => (parseStation b).isSome),
   (.planBoth, namesBoth 23, fun b => (parseBoth b).isSome), (.approve, ofKind 24, fun b => (parseStation b).isSome),
   (.cutStart, namesOne 25, fun b => (parseStation b).isSome),
   (.cutStartBoth, namesBoth 25, fun b => (parseBoth b).isSome),
   (.stationPause, ofKind 26, fun b => (parseStation b).isSome),
   (.stationResume, ofKind 27, fun b => (parseStation b).isSome),
   (.stationAbandon, ofKind 28, fun b => (parseStation b).isSome), (.accept, ofKind 29, fun b => (parseStation b).isSome),
   (.recut, ofKind 30, fun b => (parseStation b).isSome), (.stationReport, ofKind 31, fun b => (parseReport b).isSome),
   (.insertChanged, ofKind 32, fun b => (parseHead b).isSome),
   (.profileLoadClear, ofKind 33, fun b => (parseSlot b).isSome),
   (.profileLoadFirstPart, ofKind 34, fun b => (parseFirstPart b).isSome),
   (.profileLoadSecondPart, ofKind 35, fun b => (parseSecondPart b).isSome),
   (.profileRead, ofKind 36, fun b => (parseProfileRead b).isSome),
   (.recordEnter, ofKind 37, fun b => (parseEnter b).isSome), (.recordRead, ofKind 38, fun b => (parseRecordRead b).isSome),
   (.recordFit, ofKind 39, fun b => (parseFit b).isSome), (.recordAmend, ofKind 40, fun b => (parseAmend b).isSome),
   (.recordRetire, ofKind 41, fun b => (parseSerial b).isSome), (.exportTake, ofKind 42, fun b => (parseNone b).isSome)]

/-- The requests of one body length, each with its kind code and that length in bytes (R201). -/
def requestLengths : List (Instr × Nat × Nat) :=
  [(.identify, 1, 0), (.status, 2, 0), (.setClock, 3, 4), (.settingRead, 5, 1), (.takeAttention, 6, 0), (.restart, 7, 0),
   (.hornMute, 8, 0), (.panelSet, 9, 4), (.loopStart, 10, 0), (.mapAdopt, 11, 0), (.nodeList, 12, 0), (.liftRaise, 13, 0),
   (.liftLower, 14, 0), (.liftStop, 15, 0), (.liftResume, 16, 0), (.clampClose, 17, 1), (.clampOpen, 18, 1),
   (.mount, 19, 13), (.dismount, 20, 1), (.trace, 21, 1), (.survey, 22, 2), (.plan, 23, 1), (.approve, 24, 1),
   (.cutStart, 25, 1), (.stationPause, 26, 1), (.stationResume, 27, 1), (.stationAbandon, 28, 1), (.accept, 29, 1),
   (.recut, 30, 1), (.stationReport, 31, 2), (.insertChanged, 32, 1), (.profileLoadClear, 33, 1), (.profileRead, 36, 2),
   (.recordEnter, 37, 30), (.recordRead, 38, 13), (.recordFit, 39, 17), (.recordAmend, 40, 29), (.recordRetire, 41, 12),
   (.exportTake, 42, 0)]

/-! ### Ends of discovery -/

/-- The DISCOVER channel has been cancelled: its record in `t` (R55). -/
def discoverCancelled (s t : State) : Prop :=
  t.timers = s.timers.set .discover { s.timers.discover with condition := .idle, count := s.timers.discover.count + 1 }

/-- The DISCOVER channel has been started with 40 ms: its record in `t` (R36, R38, R55). -/
def discoverWaits (s t : State) : Prop :=
  t.timers = s.timers.set .discover
    { condition := .counting, remaining := 40, loaded := 40, count := s.timers.discover.count + 1 }

/-- Discovery has stopped at segment `p` in FAULTED, with SEGMENT-FAULT and LOOP-STATE posted after the notices `before`
(R37). -/
def discoveryFaults (s t : State) (before : List Notice) (p : Nat) (o : SegmentOutcome) (localized : Bool) : Prop :=
  t.loop = { s.loop with
    wait := .none, discovery := none, state := .faulted, powered := p - 1, chainEnd := p - 1
    fault := some { position := p, outcome := o, localized := localized } } ∧
  discoverCancelled s t ∧
  handsOn (before ++ [.posting .segmentFault (.position p) (.segmentFault o localized (p - 1)),
    .posting .loopState .pit (.loopFaulted (p - 1) p)]) t

/-- Discovery has ended with chain end `n`, the node table given and that many segments powered, and the map check is
made: a match assigns the roles, the first cycle being the next, and stays DISCOVERING until that cycle closes (log entry
25); a mismatch enters MISMATCH and posts LOOP-STATE (R39 to R42). -/
def discoveryEnds (s t : State) (table : List NodeEntry) (segments n : Nat) : Prop :=
  discoverCancelled s t ∧
  match firstDisagreeing s.settings.pitMap table with
  | none => t.loop = { s.loop with
      wait := .none, discovery := none, state := .discovering, powered := segments, chainEnd := n, cycle := 0
      firstCycle := true
      table := table.map (fun e => { e with role := mapRole s.settings.pitMap e.position, condition := .active, count := 0 }) }
  | some p =>
    t.loop = { s.loop with
      wait := .none, discovery := none, powered := segments, chainEnd := n, table := table, state := .mismatch } ∧
    Notice.posting .loopState .pit (.loopMismatch n p (entriesOf table .liftColumn).length
      (entriesOf table .wheelHead).length (entriesOf table .axleClamp).length) ∈ t.notices

/-! ### Holds and faults -/

/-- The running lift channels have been cancelled, and every other channel stands as it did (R80, R82). -/
def liftTimersStopped (s t : State) : Prop :=
  t.timers.gateOpen = s.timers.gateOpen ∧
  ∀ ch, t.timers.get ch =
    if (ch = .warn ∨ ch = .step ∨ ch = .settle ∨ ch = .pace) ∧ (s.timers.get ch).condition ≠ .idle then
      cancelledRec (s.timers.get ch)
    else s.timers.get ch

/-- The lift has entered HOLDING with a reason: HOLD in all four slots, its channels cancelled, and LIFT-STOPPED posted
after the notices `before` (R66, R80). -/
def liftHolds (s t : State) (before : List Notice) (reason : HoldReason) (p : Particulars) : Prop :=
  t.lift = { holdColumns s.lift with state := .holding, holdReason := some reason } ∧
  liftTimersStopped s t ∧
  handsOn (before ++ [.posting .liftStopped .lift (.liftStopped .holding (some reason) s.lift.direction s.lift.stepIndex
    (columns.map (columnDetail s.lift)) p)]) t

/-- A clamp whose record stood as `c` has entered FAULTED with a cause: order HOLD, its channel cancelled, and CLAMP-FAULT
posted after the notices `before` (R89). -/
def clampFaults (s t : State) (before : List Notice) (st : StationId) (c : Clamp) (cause : ClampCause) : Prop :=
  t.clamp st = { c with state := .faulted, cause := some cause, order := .hold } ∧
  t.timers = s.timers.set (.clamp st) (cancelledRec (s.timers.clamp.get st)) ∧
  handsOn (before ++ [.posting .clampFault (.station st) (.clampFault st cause c.state c.jaw c.force c.holding)]) t

/-- A head whose record stood as `c` has entered FAULTED with a cause, a first cause kept: order HALT, no task, its channel
cancelled, and its station told where it has an operation in hand (R107). -/
def headFaults (s t : State) (before : List Notice) (h : HeadId) (c : Head) (cause : HeadCause) : Prop :=
  t.head h = { c with
    state := .faulted, cause := if c.state = .faulted then c.cause else some cause, order := .halt, task := none
    pendingTask := none } ∧
  t.timers = s.timers.set (.head h) (cancelledRec (s.timers.get (.head h))) ∧
  t.notices = if operationInHand s h.station = true then before ++ [.headFailed h.station] else before

/-- The head `h` alone may have changed among the heads. -/
def onlyHead (s t : State) (h : HeadId) : Prop :=
  t.heads = { s.heads with recs := headSet s.heads.recs h (t.head h) }

/-- The station `st` alone may have changed among the stations. -/
def onlyStation (s t : State) (st : StationId) : Prop := t.stations = s.stations.set st (t.station st)

/-- What the discarding of station `st`'s share makes of the other station, where both name one plan (R94, R112, R147, R164,
R167): an idle partner, PLANNED or HELD with a reservation of 0, becomes TRACED with no share; a station whose own share is
CONDEMNED stays as it is with no plan reference; any other keeps its state and its share. -/
def partnerShareLeft (s t : State) (st : StationId) : Prop :=
  (s.station (otherStation st)).plan = (s.station st).plan →
    if idlePartner s st = true then
      t.station (otherStation st) = { s.station (otherStation st) with work := .traced, held := none, plan := none }
    else if shareCondemned (shareOf s (otherStation st)) = true then
      t.station (otherStation st) = { s.station (otherStation st) with plan := none }
    else t.station (otherStation st) = s.station (otherStation st) ∧
      shareOf t (otherStation st) = shareOf s (otherStation st)

/-- A head is handed a task as a station hands it (R103): the cursor and the part mark that the station's record then
holds. -/
def handedTask (x : Station) (d : Side) (task : HeadTask) : Prop := x.cursor.get d = taskStart task ∧ x.part.get d = false

/-- The INSERT-DUE that a head's report posts: a pass completion finds the insert pass count at the insert life, or takes it
there (R108). -/
def insertDuePosted (s : State) (h : HeadId) (pass : Option Nat) : List Notice :=
  if pass.isSome = true ∧
      ((s.head h).insertCount = s.settings.insertLife ∨ (s.head h).insertCount + 1 = s.settings.insertLife) then
    [.posting .insertDue (.position (headPosition s h)) (.insertDue h s.settings.insertLife s.settings.insertLife
      (decide ((s.head h).insertCount = s.settings.insertLife)))]
  else []

/-! ### Extraction -/

/-- `q` is the quotient of `a` by `b`, rounded half up (section 4.3 of the opening file). -/
def roundsHalfUp (q a b : Int) : Prop := 2 * b * q ≤ 2 * a + b ∧ 2 * a + b < 2 * b * (q + 1)

/-- Diameter and out-of-round of the GOOD radii `rs`: twice their mean, rounded half up, and their greatest less their least
(R120, R142). -/
def sweepFigures (rs : List Geometry) (d f : Geometry) : Prop :=
  (∃ m, roundsHalfUp m rs.sum rs.length ∧ d = 2 * m) ∧
  ∃ hi ∈ rs, ∃ lo ∈ rs, (∀ x ∈ rs, lo ≤ x ∧ x ≤ hi) ∧ f = hi - lo

/-- The flange tip: the lowest of the points 0 to 40 with the greatest height among them (R121). -/
def tipOf (h : Nat → Option Geometry) (sh : Geometry) (tip : Nat) : Prop :=
  tip ≤ 40 ∧ h tip = some sh ∧ ∀ i y, i ≤ 40 → h i = some y → y ≤ sh ∧ (y = sh → tip ≤ i)

/-- The level is crossed between a point and its neighbour, both of which have a height (R122). -/
def crossedAfter (h : Nat → Option Geometry) (level : Geometry) (i : Nat) : Prop :=
  ∃ a b, h i = some a ∧ h (i + 1) = some b ∧ level ≤ a ∧ b < level

/-- The level has no crossing from the tip up to the pair (138, 139) (R122). -/
def noCrossing (h : Nat → Option Geometry) (level : Geometry) (tip : Nat) : Prop :=
  ∀ i, tip ≤ i → i ≤ 138 → ¬ crossedAfter h level i

/-- The first crossing of the level from the tip lies at lateral position `x` (R122). -/
def crossesAt (h : Nat → Option Geometry) (level : Geometry) (tip : Nat) (x : Geometry) : Prop :=
  ∃ (i : Nat) (a b q : Int), tip ≤ i ∧ i ≤ 138 ∧ (∀ j, tip ≤ j → j < i → ¬ crossedAfter h level j) ∧
    h i = some a ∧ h (i + 1) = some b ∧ level ≤ a ∧ b < level ∧ roundsHalfUp q (100 * (a - level)) (a - b) ∧
    x = 100 * (i : Int) + q

/-! ### Ceilings -/

/-- A record takes no ceiling at a limit: it is CONDEMNED, its smaller diameter is at or below the limit, or it holds a
ceiling at or below it (R179, R181). -/
def takesNone (condemned : Bool) (smaller : Geometry) (ceiling : Option Geometry) (limit : Geometry) : Bool :=
  condemned || decide (smaller ≤ limit) || ceiling.any (fun c => decide (c ≤ limit))

/-- The station's deferred ceiling `d` has been applied to its occupant's record, whose fields stood as given before and
which now stands as `q` (R181). -/
def deferredApplied (d : Option Deferred) (condemned : Bool) (diameters : PerSide Geometry) (ceiling : Option Geometry)
    (due : Bool) (q : WheelsetRecord) : Prop :=
  match d with
  | none => q.ceiling = ceiling ∧ q.matchDue = due
  | some x =>
    if takesNone condemned (min diameters.l diameters.r) ceiling x.value = true then q.ceiling = ceiling ∧ q.matchDue = due
    else q.ceiling = some x.value ∧ q.matchDue = true ∧
      ∃ e ∈ q.entries, e.body = .ceiling x.value ceiling x.kind x.df x.cause true

/-- The limit that a finished cut with smaller diameter `df` sets at a partner place (R179). -/
def partnerLimit (p : Plan) (df : Geometry) (c : Capture) : Geometry := df + (placeTolerance p c.place).2

/-- The record that stands at a capture item's position, where it is another wheelset's than the finished one (R179). -/
def partnerAt (s : State) (own : Serial) (c : Capture) : Option WheelsetRecord :=
  (c.position.bind (recordAt s.history)).filter (fun r => r.serial != own)

/-- The lower of two deferred ceilings; the one held where they are equal (R180). -/
def lowerOf (held : Option Deferred) (d : Deferred) : Deferred :=
  match held with
  | none => d
  | some x => if d.value < x.value then d else x

/-- What the finish of a cut of the wheelset `own` at station `st`, with smaller diameter `df`, has made of one capture item
of its plan at a partner place (R179, R180): a place captured EMPTY is not examined; a record that takes no ceiling is left
as it was; the occupant of a station with a cut in hand has its ceiling deferred, its record left as it was; any other record
takes the limit as its ceiling. -/
def partnerServed (s t : State) (p : Plan) (st : StationId) (own : Serial) (df : Geometry) (c : Capture)
    (fate : CeilingFate) : Prop :=
  match c.captured, partnerAt s own c with
  | none, x => fate = .notNeeded ∧ ∀ r, x = some r → findRecord t.history r.serial = some r
  | some _, none => fate = .notNeeded
  | some _, some r =>
    if takesNone r.condemned (min r.diameters.l r.diameters.r) r.ceiling (partnerLimit p df c) = true then
      fate = .notNeeded ∧ findRecord t.history r.serial = some r
    else if (s.station (otherStation st)).occupant = some r.serial ∧ 0 < (s.station (otherStation st)).reservation then
      fate = .deferred ∧ findRecord t.history r.serial = some r ∧
      (t.station (otherStation st)).deferred = some (lowerOf (s.station (otherStation st)).deferred
        { value := partnerLimit p df c, cause := own, kind := (placeTolerance p c.place).1, df := df })
    else
      fate = .written ∧ ∃ q, findRecord t.history r.serial = some q ∧ q.ceiling = some (partnerLimit p df c) ∧
        q.matchDue = true ∧ q.diameters = r.diameters ∧ q.revision = r.revision + 1 ∧
        ∃ e ∈ q.entries, e.stamp = s.clock ∧
          e.body = .ceiling (partnerLimit p df c) r.ceiling (placeTolerance p c.place).1 df own false

/-- The partner ceilings that a finish wrote at once, as serial and value, in the order of the places (R179). -/
def ceilingsWritten (s : State) (p : Plan) (st : StationId) (own : Serial) (df : Geometry)
    (fates : List (CapturePlace × CeilingFate)) : List (Serial × Geometry) :=
  ((partnerCaptures p st).zip fates).filterMap (fun x =>
    if x.2.2 = .written then (partnerAt s own x.1).map (fun r => (r.serial, partnerLimit p df x.1)) else none)

/-- No two records hold one serial, and no two hold one fleet position (R182). -/
def recordsInv (h : History) : Prop :=
  h.records.Pairwise (fun q r => q.serial ≠ r.serial ∧ (q.position = none ∨ q.position ≠ r.position))

/-- The records hold no serial and no position twice, and the plan names no partner position twice: where this holds each
partner place finds a record of its own. -/
def partnersApart (s : State) (p : Plan) (st : StationId) : Prop :=
  recordsInv s.history ∧ ((partnerCaptures p st).filterMap (·.position)).Nodup

/-! ### Ends of operations -/

/-- The diameters lowered by twice the depth that each wheel's completed passes took (R100, step 2). -/
def loweredDiameters (x : Station) (r : WheelsetRecord) : PerSide Geometry :=
  ⟨r.diameters.l - 2 * x.progress.l.depth, r.diameters.r - 2 * x.progress.r.depth⟩

/-- The record that stood as `r` has been lowered by the depth that its wheels' completed passes took, flagged RETRACE-DUE and
given the CUT-INTERRUPTED entry numbered `seq`, and then judged against the station's deferred ceiling (R100, steps 1 and 2;
R181). -/
def cutInterrupted (t : State) (x : Station) (cause : AbandonCause) (r : WheelsetRecord) (seq : Nat) (now : Stamp) : Prop :=
  ∃ q, findRecord t.history r.serial = some q ∧ q.retraceDue = true ∧ q.diameters = loweredDiameters x r ∧
    deferredApplied x.deferred r.condemned (loweredDiameters x r) r.ceiling r.matchDue q ∧
    { seq := seq, stamp := now
      body := .cutInterrupted cause x.recuts
        ⟨{ passes := x.progress.l.passes, depth := x.progress.l.depth, diameter := (loweredDiameters x r).l },
         { passes := x.progress.r.passes, depth := x.progress.r.depth, diameter := (loweredDiameters x r).r }⟩ } ∈ q.entries

/-- The operation `op` in hand at a station has been abandoned with a cause (R98 to R100). A verify leaves its scan records as
the last scan results, marked abandoned, a wheel whose task had not ended with result UNFINISHED (R142). -/
def abandons (s t : State) (st : StationId) (op : Operation) (cause : AbandonCause) : Prop :=
  Notice.withdraw st ∈ t.notices ∧ (∀ n ∈ s.notices, isHeadResult st n = false → n ∈ t.notices) ∧
  (t.station st).operation = none ∧ (t.station (otherStation st)).work = (s.station (otherStation st)).work ∧
  match op with
  | .trace =>
    (t.station st).work = (s.station st).prior.getD .mounted ∧ (t.station st).claim = false ∧ t.history = s.history ∧
    t.traceUnit st = { s.traceUnit st with walk := none } ∧
    .posting .traceEnd (.station st) (.traceFailed .trace cause) ∈ t.notices
  | .survey =>
    (t.station st).work = (s.station st).prior.getD .mounted ∧ (t.station st).results = (s.station st).results ∧
    t.history = s.history ∧ t.traceUnit st = { s.traceUnit st with scan := none } ∧
    .posting .traceEnd (.station st) (.traceFailed .survey cause) ∈ t.notices
  | .verify =>
    (t.station st).work = .held ∧ (t.station st).held = some .unverified ∧ t.history = s.history ∧
    (t.station st).plan = (s.station st).plan ∧ (t.station st).reservation = (s.station st).reservation ∧
    (t.station st).recuts = (s.station st).recuts ∧ (t.station st).progress = (s.station st).progress ∧
    t.traceUnit st = { s.traceUnit st with scan := none } ∧
    (t.station st).results = (s.traceUnit st).scan.map (fun y => { y with
      abandoned := true
      wheels := y.wheels.map (fun w => if w.result = .inProgress then { w with result := .unfinished } else w) }) ∧
    .posting .cutStopped (.station st) (.verifyAbandoned cause .held) ∈ t.notices
  | .cut =>
    (t.station st).work = .mounted ∧ (t.station st).held = none ∧ (t.station st).reservation = 0 ∧
    (t.station st).recuts = 0 ∧ (t.station st).progress = noProgress ∧ (t.station st).plan = none ∧
    (t.station st).results = none ∧ (t.station st).deferred = none ∧ t.traceUnit st = emptyTrace ∧
    (∀ r, (s.station st).occupant = some r.serial → findRecord s.history r.serial = some r →
      cutInterrupted t (s.station st) cause r (s.history.counter + 1) s.clock) ∧
    .posting .cutStopped (.station st) (.cutAbandoned false cause (s.station st).progress) ∈ t.notices

/-- A trace of the occupant whose record stood as `r` has completed at a station whose record stood as `x`, on the walk
records `ws`: it becomes the station's trace, the claim is released, the TRACED entry joins the record, a usable trace sets
the diameters and clears RETRACE-DUE, the station is TRACED, and TRACE-END is posted (R127, R128). A completed operation's
cursors and part marks are cleared: the model's choice (log entry 16). -/
def traceCompletes (s t : State) (st : StationId) (x : Station) (ws : PerSide TraceRecord) (r : WheelsetRecord) : Prop :=
  ∃ tr q, tr = formTrace ws (occupantProfile s st) s.clock ∧
    t.traceUnit st = { s.traceUnit st with held := some tr, walk := none } ∧ onlyStation s t st ∧
    t.station st = { x with
      claim := false, work := .traced, operation := none, prior := none, cursor := .both none, part := .both false } ∧
    findRecord t.history r.serial = some q ∧ t.history.counter = s.history.counter + 1 ∧
    { seq := s.history.counter + 1, stamp := s.clock, body := tracedBody tr } ∈ q.entries ∧
    (tr.usable = true → q.retraceDue = false ∧
      q.diameters = ⟨ws.l.results.d.getD r.diameters.l, ws.r.results.d.getD r.diameters.r⟩) ∧
    (tr.usable = false → q.retraceDue = r.retraceDue ∧ q.diameters = r.diameters) ∧
    .posting .traceEnd (.station st) (.traceDone tr.usable (ws.map (fun w => (w.status, w.results.d)))
      tr.findings.length (anyHold tr.findings)) ∈ t.notices

/-- A survey with the scan records `y` has completed at a station whose record stood as `x` (R145). A completed operation's
cursors and part marks are cleared: the model's choice (log entry 16). -/
def surveyCompletes (s t : State) (st : StationId) (x : Station) (y : Scan) : Prop :=
  t.stations = s.stations.set st { x with
    work := x.prior.getD .traced, operation := none, prior := none, cursor := .both none, part := .both false
    results := some y } ∧
  t.traces = s.traces.set st { s.traceUnit st with scan := none } ∧
  .posting .traceEnd (.station st) (.surveyDone y.slot (y.wheels.map surveyWheel)) ∈ t.notices

/-- A verify with the scan records `y`, its wheels not both CONFORM, has ended at a station whose record stood as `x`: the
station is HELD with reason NONCONFORM, and its plan, reservation, recut count and progress stay (R171). A completed
operation's cursors and part marks are cleared: the model's choice (log entry 16). -/
def verifyHolds (s t : State) (st : StationId) (x : Station) (y : Scan) : Prop :=
  t.stations = s.stations.set st { x with
    work := .held, held := some .nonconform, operation := none, prior := none, cursor := .both none
    part := .both false, results := some y } ∧
  t.traces = s.traces.set st { s.traceUnit st with scan := none } ∧
  .posting .cutEnd (.station st) (.verifyHeld x.recuts (y.wheels.map verifyHeldWheel)) ∈ t.notices

/-- A cut has moved on to its verify at a station whose record stood as `x` (R170). -/
def verifyBegins (s t : State) (st : StationId) (x : Station) : Prop :=
  (t.station st).work = .scanning ∧ (t.station st).operation = some .verify ∧
  (t.station st).reservation = x.reservation ∧ (t.station st).progress = x.progress ∧
  (t.station st).recuts = x.recuts ∧
  t.traces = s.traces.set st { s.traceUnit st with
    scan := some (newScan .verify (((shareOf s st).bind (·.profileUsed)).getD 0)) } ∧
  ∀ d, .task ⟨st, d⟩ (.scan .verify (.point .datum 70)) ∈ t.notices ∧
    handedTask (t.station st) d (.scan .verify (.point .datum 70))

/-- The smaller finished diameter of a station's wheels, Df (R172). -/
def finishedDf (x : Station) (ws : PerSide WheelPlan) : Geometry := min (finishedDiameters x ws).l (finishedDiameters x ws).r

/-- The ceiling that a record keeps when its own cut finishes: one that the finished wheelset meets is cleared (R177,
step 3). -/
def ceilingLeft (ceiling : Option Geometry) (df : Geometry) : Option Geometry :=
  ceiling.bind (fun c => if df ≤ c then none else some c)

/-- A cut of the occupant whose record stood as `r` has finished at a station whose record stood as `x`, with its plan,
share and wheel figures; `fates` says what became of each partner place (R172, R177 to R181). -/
def finishes (s t : State) (st : StationId) (x : Station) (p : Plan) (y : Share) (ws : PerSide WheelPlan)
    (r : WheelsetRecord) (fates : List (CapturePlace × CeilingFate)) : Prop :=
  (t.station st).work = .finished ∧ (t.station st).reservation = 0 ∧ (t.station st).recuts = 0 ∧
  (t.station st).progress = noProgress ∧ (t.station st).operation = none ∧ (t.station st).held = none ∧
  (t.station st).accepted = false ∧ (t.station st).plan = none ∧ (t.station st).deferred = none ∧
  (t.station st).results = x.results ∧ (t.station st).occupant = x.occupant ∧
  (t.station (otherStation st)).work = (s.station (otherStation st)).work ∧
  (∃ q, findRecord t.history r.serial = some q ∧ q.diameters = finishedDiameters x ws ∧
    q.profile = y.profileUsed.getD y.profileTried ∧ q.cutCount = min (r.cutCount + 1) 65535 ∧
    q.condemned = r.condemned ∧ q.position = r.position ∧
    { seq := s.history.counter + 1, stamp := s.clock, body := cutBody x p y ws } ∈ q.entries ∧
    deferredApplied x.deferred r.condemned (finishedDiameters x ws) (ceilingLeft r.ceiling (finishedDf x ws))
      (if ceilingLeft r.ceiling (finishedDf x ws) = r.ceiling then r.matchDue else false) q) ∧
  fates.map (·.1) = (partnerCaptures p st).map (·.place) ∧
  (partnersApart s p st → ∀ i ∈ (partnerCaptures p st).zip fates,
    partnerServed s t p st r.serial (finishedDf x ws) i.1 i.2.2) ∧
  Notice.posting .cutEnd (.station st) (.cutFinished x.accepted x.recuts
    ⟨(resultOf x .L, (finishedDiameters x ws).l), (resultOf x .R, (finishedDiameters x ws).r)⟩ (finishedDf x ws) fates) ∈
      t.notices

/-- A cut has begun at a station under a plan (R168): the entries that it may write are reserved, the recut count, the
progress and the deferred ceiling are cleared, and each head is handed its wheel's pass list from the start of pass 1. -/
def cutBegins (s t : State) (st : StationId) (p : Plan) : Prop :=
  (t.station st).work = .cutting ∧ (t.station st).operation = some .cut ∧ (t.station st).held = none ∧
  (t.station st).accepted = false ∧ (t.station st).reservation = cutReservation p st ∧ (t.station st).recuts = 0 ∧
  (t.station st).progress = noProgress ∧ (t.station st).deferred = none ∧
  (t.station st).occupant = (s.station st).occupant ∧ (t.station st).plan = (s.station st).plan ∧
  ∀ d, Notice.task ⟨st, d⟩ (.passes (stationPasses s st d) 0) ∈ t.notices ∧
    handedTask (t.station st) d (.passes (stationPasses s st d) 0)

/-! ### Invariants -/

/-- The Link Interface's bounds: at most four requests wait, and no counter passes 65 535 (R4, R8). -/
def linkInv (s : State) : Prop :=
  s.link.queue.length ≤ 4 ∧ s.link.accepted ≤ 65535 ∧ s.link.busy ≤ 65535 ∧ s.link.discarded ≤ 65535

/-- The attention queue holds at most one item for each pairing of kind and source, each with a repeat count of 1 to
255 (R10, R11). -/
def attentionInv (s : State) : Prop :=
  s.attention.Pairwise (fun i j => ¬ (i.kind = j.kind ∧ i.source = j.source)) ∧
  ∀ i ∈ s.attention, 1 ≤ i.repeats ∧ i.repeats ≤ 255

/-- No head's insert pass count exceeds the insert life, and the insert life does not exceed its range's top (R16,
R108). -/
def insertInv (s : State) : Prop :=
  s.settings.insertLife ≤ 200 ∧ ∀ h : HeadId, (s.head h).insertCount ≤ s.settings.insertLife

/-- No serial is the occupant of both stations (R93, R182). -/
def occupantInv (s : State) : Prop :=
  s.stations.a.occupant = none ∨ s.stations.a.occupant ≠ s.stations.b.occupant

/-- The lamp table has its sixteen cells (R62). -/
def panelInv (s : State) : Prop := s.warnings.cells.length = 16

/-- The sequence numbers that stand in the store: those waiting in the export queue and those of the records' entries. -/
def storedNumbers (h : History) : List Nat :=
  h.exportQueue.map (·.entry.seq) ++ h.records.flatMap (fun r => r.entries.map (·.seq))

/-- Every sequence number that stands in the store stands there once and does not exceed the counter; a record keeps at
most 12 entries, oldest first; and the export queue stands in sequence order (R185 to R187). -/
def numbersInv (h : History) : Prop :=
  (storedNumbers h).Nodup ∧ (∀ n ∈ storedNumbers h, n ≤ h.counter) ∧
  (∀ r ∈ h.records, r.entries.length ≤ 12 ∧ (r.entries.map (·.seq)).Pairwise (· < ·)) ∧
  (h.exportQueue.map (·.entry.seq)).Pairwise (· < ·)

/-- The History Store's invariant. -/
def historyInv (s : State) : Prop := recordsInv s.history ∧ numbersInv s.history

/-- A station's operation in hand is that of its work state, and there is one only while it works or is PAUSED; a prior
state is one from which a trace or a survey may have begun (section 5.1, R96, R97, R112, R144). -/
def workFits (x : Station) : Prop :=
  (x.work = .tracing → x.operation = some .trace) ∧ (x.work = .cutting → x.operation = some .cut) ∧
  (x.work = .scanning → x.operation = some .verify ∨ x.operation = some .survey) ∧
  (x.operation ≠ none → x.work = .tracing ∨ x.work = .cutting ∨ x.work = .scanning ∨ x.work = .paused) ∧
  ∀ w, x.prior = some w → surveyable w = true

/-- A station with a CONDEMNED share is neither PLANNED nor HELD, and it has no cut in hand (R147, R156). -/
def shareFits (s : State) (st : StationId) : Prop :=
  shareCondemned (shareOf s st) = true →
    (s.station st).work ≠ .planned ∧ (s.station st).work ≠ .held ∧ (s.station st).operation ≠ some .cut ∧
    (s.station st).operation ≠ some .verify

/-- Both stations fit their work states and their shares. -/
def stationsFit (s : State) : Prop := ∀ st, workFits (s.station st) ∧ shareFits s st

/-- A cut is in hand: CUTTING, SCANNING or PAUSED with operation CUT or VERIFY, or HELD after a cut (section 9, R195). -/
def cutUnderWay (x : Station) : Prop :=
  x.operation = some .cut ∨ x.operation = some .verify ∨ heldAfterCut x = true

/-- The room of section 10.3: the export queue's length and the total reservation stay within its 96 slots, so that the free
slots are never fewer than the total reservation; a powered station with a trace in hand holds its trace claim (R113); and a
station with a cut in hand still holds the reservation of all that its cut may write (R168, R187 to R189). -/
def roomInv (s : State) : Prop :=
  s.history.exportQueue.length + totalReservation s ≤ 96 ∧
  ∀ st, (s.powered = true → (s.station st).operation = some .trace → (s.station st).claim = true) ∧
    (cutUnderWay (s.station st) → 1 ≤ (s.station st).reservation ∧
      ∀ p y, planOf s st = some p → p.shares.get st = some y → cutReservation p st ≤ (s.station st).reservation)

/-- The record of a serial is flagged CONDEMNED. -/
def condemnedAt (s : State) (serial : Serial) : Bool :=
  match findRecord s.history serial with
  | none => false
  | some r => r.condemned

end Sys2Proof.Machine
end

