-- ==== Sys2Proof/Certificates/Slice0/Obligations.lean ====
section
/-! DEFINITION. The statements for the provers. Each says what the rules of spec/ make of a command, of every command, or
of the part as a whole, in the terms of Sys2Proof/Safety.lean. -/

open Sys2Proof Sys2Proof.Machine

/-! ### The queue of commands and the clockwork -/

/-- A step takes the command at the front of the queue and runs it with the queue's rest. -/
def Obligations.StepRunsFrontCommand : Prop :=
  ∀ (c : Instr) (rest : List Instr) (s : State), s.pending = c :: rest → step s = exec c (s.setPending rest)

/-- On an empty queue one millisecond passes at a powered part: power-on time goes on, each COUNTING channel's remaining
time falls, and a FROZEN or IDLE one holds (R55). Where a notice that changes an owner's view alone is under way, the oldest
such notice is taken instead, as an event of its own: that owner's item of the view becomes what the Zone Monitor then shows
(R49, R51, R53). That an empty queue stands for either is the model's choice (log entries 1 and 9). -/
def Obligations.IdleStepPassesOneMillisecond : Prop :=
  (∀ s : State, s.powered = true → s.pending = [] → (∀ n ∈ s.notices, isOwnView n = false) →
    ∃ t, step s = .next t ∧ t.uptime = s.uptime + 1 ∧
      (∀ ch, t.timers.get ch =
        if (s.timers.get ch).condition = .counting then
          { s.timers.get ch with remaining := (s.timers.get ch).remaining - 1 }
        else s.timers.get ch) ∧
      t.timers.gateOpen = s.timers.gateOpen ∧ t.powered = true ∧ t.pending = [] ∧ t.notices = s.notices ∧
      ∀ p, p ≠ Part.timers → agree s t p) ∧
  (∀ (s : State) (o : PitOwner) (input : PitInput) (rest : List Notice) (shown : PitView → PitView),
    waits s isOwnView (.ownView o input) rest → s.pending = [] →
    shown = (fun v => if input = .curtain then { v with zone := s.zone.zone } else { v with stop := s.zone.stop }) →
    ∃ t, step s = .next t ∧ t.notices = rest ∧ onlyChanges [.lift, .clamps, .heads, .stations] s t ∧
      t.lift = (if o = .lift then { s.lift with view := shown s.lift.view } else s.lift) ∧
      t.clamps = (if o = .clamps then { s.clamps with view := shown s.clamps.view } else s.clamps) ∧
      t.heads = (if o = .heads then { s.heads with view := shown s.heads.view } else s.heads) ∧
      ∀ st, t.station st =
        (if o = .station st then { s.station st with view := shown (s.station st).view } else s.station st))

/-! ### Invariants of every step -/

/-- Five invariants hold after every step that they held before: the Link Interface's bounds (R4, R8), one item for each
pairing of the attention queue with a repeat count of 1 to 255 (R10, R11), no insert pass count above the insert life (R16,
R108), no serial the occupant of both stations (R93, R182), and sixteen cells in the lamp table (R62). -/
def Obligations.BoundsAndPairingsKept : Prop :=
  (∀ s t : State, linkInv s → step s = .next t → linkInv t) ∧
  (∀ s t : State, attentionInv s → step s = .next t → attentionInv t) ∧
  (∀ s t : State, insertInv s → step s = .next t → insertInv t) ∧
  (∀ s t : State, occupantInv s → step s = .next t → occupantInv t) ∧
  (∀ s t : State, panelInv s → step s = .next t → panelInv t)

/-- No step makes two records hold one serial or one position, gives a sequence number twice, lets a record keep more
than 12 entries, or brings a list or the export queue out of its order (R182, R185 to R187, R194). -/
def Obligations.HistoryStoreKept : Prop :=
  ∀ s t : State, historyInv s → step s = .next t → historyInv t

/-- A record once flagged CONDEMNED is never unflagged: after any step it is retired or still CONDEMNED (R156, R195); and
the entry sequence counter never falls, whatever happens to power or to the queue (R185, R199). -/
def Obligations.CondemnedAndCounterNeverFallBack : Prop :=
  (∀ (s t : State) (serial : Serial), condemnedAt s serial = true → step s = .next t →
    findRecord t.history serial = none ∨ condemnedAt t serial = true) ∧
  (∀ s t : State, step s = .next t → s.history.counter ≤ t.history.counter)

/-- The invariants hold right after reset. -/
def Obligations.InvariantsHoldAtReset : Prop :=
  linkInv State.reset ∧ attentionInv State.reset ∧ insertInv State.reset ∧ occupantInv State.reset ∧
  panelInv State.reset ∧ historyInv State.reset ∧ stationsFit State.reset ∧ roomInv State.reset

/-! ### The pit link (chapter 1) -/

/-- A frame as section 1.1 lays it out is received as sent: the characters that follow the start mark, each with its stop
bit, are judged a good frame of that tag, kind and body; with any other two check bytes the frame is discarded (R2, R3). -/
def Obligations.FrameReceivedAsSent : Prop :=
  ∀ (tag kind : Byte) (body : Bytes), body.length ≤ 250 →
    received ((frameBytes tag kind body).tail.map (fun b => { data := b, stop := true })) =
      .good { tag := tag, kind := kind, body := body } ∧
    ∀ x y : Byte, [x, y] ≠ u16 (crc16 (checkedBytes tag kind body)).toNat →
      received ((checkedBytes tag kind body ++ [x, y]).map (fun b => { data := b, stop := true })) = .discarded

/-- The frame receiver: a start mark in HUNTING puts it IN-FRAME and any other character is ignored, a discard and an
inter-byte gap return it to HUNTING and raise the discarded-frame counter (R2, R8). A good frame joins the tail of a queue of
fewer than four requests and is accepted; at a full queue it is answered BUSY at once (R4, R8); while a taken RESTART awaits
its coming up it is accepted and answered WRONG-STATE at once, until every reply has been sent: from then on bytes that arrive
are lost, uncounted and unanswered (R25). The transmitter sends the oldest reply formed, as one frame with the tag and kind of
its request (R6); that a body beyond 250 bytes is cut there is the model's choice (log entry 42). -/
def Obligations.LinkTakesFramesAndSendsReplies : Prop :=
  (∀ (s : State) (ch : RxChar), s.powered = true → (s.link.restarting = false ∨ s.link.backlog ≠ []) →
    s.link.inFrame = false →
    ∃ t, exec (.startMark ch) s = .next t ∧ t.notices = s.notices ∧ onlyChanges [.link] s t ∧
      t.link = { s.link with inFrame := ch.stop && ch.data == 0xA5#8 }) ∧
  (∀ (s : State) (chars : List RxChar), s.powered = true → (s.link.restarting = false ∨ s.link.backlog ≠ []) →
    s.link.inFrame = true → received chars = .discarded →
    ∃ t, exec (.frameDiscard chars) s = .next t ∧ t.notices = s.notices ∧ onlyChanges [.link] s t ∧
      t.link = { s.link with inFrame := false, discarded := min (s.link.discarded + 1) 65535 }) ∧
  (∀ s : State, s.powered = true → (s.link.restarting = false ∨ s.link.backlog ≠ []) → s.link.inFrame = true →
    ∃ t, exec .interByteTimeout s = .next t ∧ t.notices = s.notices ∧ onlyChanges [.link] s t ∧
      t.link = { s.link with inFrame := false, discarded := min (s.link.discarded + 1) 65535 }) ∧
  (∀ (s : State) (chars : List RxChar) (f : Frame), s.powered = true →
    (s.link.restarting = false ∨ s.link.backlog ≠ []) → s.link.inFrame = true → received chars = .good f →
    ∃ t, exec (.goodFrameArrival chars) s = .next t ∧ t.notices = s.notices ∧ onlyChanges [.link] s t ∧
      t.link =
        if s.link.restarting = true then
          { s.link with
            inFrame := false, accepted := min (s.link.accepted + 1) 65535
            backlog := s.link.backlog ++ [{ tag := f.tag, kind := f.kind, body := .refused .wrongState .none }] }
        else if s.link.queue.length < 4 then
          { s.link with
            inFrame := false, accepted := min (s.link.accepted + 1) 65535, queue := s.link.queue ++ [f] }
        else
          { s.link with
            inFrame := false, busy := min (s.link.busy + 1) 65535
            backlog := s.link.backlog ++ [{ tag := f.tag, kind := f.kind, body := .busy }] }) ∧
  (∀ (s : State) (r : Reply) (rest : List Reply), s.powered = true → s.link.backlog = r :: rest →
    ∃ t, exec .replySent s = .next t ∧ t.notices = s.notices ∧ onlyChanges [.link] s t ∧
      t.link = { s.link with
        backlog := rest, sentFrame := frameBytes r.tag r.kind ((replyBodyBytes r.body).take 250) }) ∧
  (∀ (s : State) (c : Instr), s.powered = true → s.link.restarting = true → s.link.backlog = [] →
    ((∃ ch, c = .startMark ch) ∨ (∃ chars, c = .goodFrameArrival chars) ∨ (∃ chars, c = .frameDiscard chars) ∨
      c = .interByteTimeout) →
    exec c s = .next s)

/-- IDENTIFY, STATUS, SETTING READ, NODE LIST, STATION REPORT, PROFILE READ and RECORD READ answer with what the part shows
and change nothing but the link's queues (R17, R23, R24, R47, R110, R136, R198, R202); a slot outside 1 to 8 and a serial that
no record holds are refused. IDENTIFY's revision text is the free value of log entry 3; that SETTING READ of insert life
answers the range 1 to 200 whatever the insert counts is the model's choice (log entry 18). -/
def Obligations.ReadingRequestsAnswer : Prop :=
  (∀ (s : State) (f : Frame), asks s f 1 [] →
    ∃ t, exec .identify s = .next t ∧ answered s f t (.done (.identify Config.revisionText)) ∧ t.notices = s.notices ∧
      onlyChanges [.link] s t) ∧
  (∀ (s : State) (f : Frame), asks s f 2 [] →
    ∃ t, exec .status s = .next t ∧ t.notices = s.notices ∧ onlyChanges [.link] s t ∧
      answered s f t (.done (.status
        { loop := s.loop.state, lift := s.lift.state, stations := ⟨s.stations.a.work, s.stations.b.work⟩
          zone := s.zone.zone, stop := s.zone.stop, attention := s.attention.length
          exports := s.history.exportQueue.length, accepted := s.link.accepted, busy := s.link.busy
          discarded := s.link.discarded, time := s.clock }))) ∧
  (∀ (s : State) (f : Frame) (i : Byte), asks s f 5 [i] → 1 ≤ i.toNat → i.toNat ≤ 19 →
    ∃ t, exec .settingRead s = .next t ∧ t.notices = s.notices ∧ onlyChanges [.link] s t ∧
      answered s f t (.done (
        if i.toNat = 18 then .settingKinds s.settings.errorKinds
        else if i.toNat = 19 then .pitMap s.settings.pitMap
        else .settingRange (settingValue s.settings i.toNat) (settingRange i.toNat).1 (settingRange i.toNat).2))) ∧
  (∀ (s : State) (f : Frame), asks s f 12 [] →
    ∃ t, exec .nodeList s = .next t ∧ t.notices = s.notices ∧ onlyChanges [.link] s t ∧
      answered s f t (.done (.nodeList s.loop.state s.loop.chainEnd
        (if s.loop.state = .faulted then s.loop.fault else none) s.loop.table))) ∧
  (∀ (s : State) (f : Frame) (b p : Byte) (st : StationId), asks s f 31 [b, p] → stationOf b = some st → p.toNat ≤ 4 →
    ∃ t d, exec .stationReport s = .next t ∧ answered s f t (.done d) ∧ t.notices = s.notices ∧ onlyChanges [.link] s t ∧
      (p.toNat = 0 → d = .stationRecord (s.station st) (s.clamp st) (s.heads.recs.get st)) ∧
      (p.toNat = 1 → d = .stationTrace (s.traceUnit st).held (s.traceUnit st).walk (s.station st).cursor) ∧
      (p.toNat = 2 → d = .stationPlan st (planOf s st)) ∧
      (p.toNat = 3 → d = .stationScan (s.station st).results (s.traceUnit st).scan) ∧
      (p.toNat = 4 → d = .shareFindings (((shareOf s st).map (·.findings)).getD []))) ∧
  (∀ (s : State) (f : Frame) (b p : Byte), asks s f 36 [b, p] → (p = 1 ∨ p = 2) → 1 ≤ b.toNat → b.toNat ≤ 8 →
    (∀ q, profileAt s b.toNat = some q →
      ∃ t, exec .profileRead s = .next t ∧ t.notices = s.notices ∧ onlyChanges [.link] s t ∧
        answered s f t (.done (if p = 1 then .profileFirst q (slotUse s b.toNat) else .profileSecond (q.heights.drop 70)))) ∧
    (profileAt s b.toNat = none →
      ∃ t, exec .profileRead s = .next t ∧ t.notices = s.notices ∧ onlyChanges [.link] s t ∧
        answered s f t (.refused .noProfile .none))) ∧
  (∀ (s : State) (f : Frame) (b p : Byte), asks s f 36 [b, p] → (p = 1 ∨ p = 2) → b.toNat = 0 ∨ 8 < b.toNat →
    ∃ t, exec .profileRead s = .next t ∧ t.notices = s.notices ∧ onlyChanges [.link] s t ∧
      answered s f t (.refused .badField (.offset 0))) ∧
  (∀ (s : State) (f : Frame) (body : Bytes) (serial : Serial) (n : Nat), asks s f 38 body →
    parseRecordRead body = some (serial, n) → findRecord s.history serial = none →
    ∃ t, exec .recordRead s = .next t ∧ t.notices = s.notices ∧ onlyChanges [.link] s t ∧
      answered s f t (.refused .noRecord .none)) ∧
  (∀ (s : State) (f : Frame) (body : Bytes) (serial : Serial) (n : Nat) (r : WheelsetRecord), asks s f 38 body →
    parseRecordRead body = some (serial, n) → findRecord s.history serial = some r →
    ∃ t d, exec .recordRead s = .next t ∧ answered s f t d ∧ t.notices = s.notices ∧ onlyChanges [.link] s t ∧
      (n = 0 → d = .done (.recordFirst r (occupantData s serial))) ∧
      (∀ e, 0 < n → r.entries[n - 1]? = some e →
        d = .done (.recordEntry n (r.entries.length + 1) serial r.revision e)) ∧
      (0 < n → r.entries.length < n → d = .refused .badField (.offset 12)))

/-- Every request command that finds a request of an unknown kind at the head of the queue, or one of its own kind whose
body it does not read, answers it MALFORMED, and nothing else changes (R5, R7). No request of a body length other than its
kind's is read: the one length of most kinds, the three lengths of SETTING WRITE by its setting, and the lengths of PROFILE
LOAD's parts by the counts that they declare (R201). RESTART is shown while no RESTART has been taken. -/
def Obligations.MalformedRequestsAnswered : Prop :=
  (∀ row ∈ requestForms, ∀ (s : State) (f : Frame), s.powered = true → s.link.queue.head? = some f →
    (row.1 = .restart → s.link.restarting = false) →
    ((f.kind.toNat = 0 ∨ 42 < f.kind.toNat) ∨
      (1 ≤ f.kind.toNat ∧ f.kind.toNat ≤ 42 ∧ row.2.1 f = true ∧ row.2.2 f.body = false)) →
    ∃ t, exec row.1 s = .next t ∧ answered s f t .malformed ∧ t.notices = s.notices ∧ onlyChanges [.link] s t) ∧
  (∀ row ∈ requestLengths, ∀ (s : State) (f : Frame) (body : Bytes), asks s f row.2.1 body → body.length ≠ row.2.2 →
    (row.1 = .restart → s.link.restarting = false) →
    ∃ t, exec row.1 s = .next t ∧ answered s f t .malformed ∧ t.notices = s.notices ∧ onlyChanges [.link] s t) ∧
  (∀ (s : State) (f : Frame) (body : Bytes) (c : Instr), asks s f 4 body →
    ((c = .settingWrite ∧ body.head? ≠ some 18 ∧ body.head? ≠ some 19 ∧ body.length ≠ 3) ∨
      (c = .loopErrorKindsWrite ∧ body.head? = some 18 ∧ body.length ≠ 2) ∨
      (c = .pitMapWrite ∧ body.head? = some 19 ∧ body.length ≠ 11)) →
    ∃ t, exec c s = .next t ∧ answered s f t .malformed ∧ t.notices = s.notices ∧ onlyChanges [.link] s t) ∧
  (∀ (s : State) (f : Frame) (body : Bytes), asks s f 34 body →
    body.length ≠ 75 + 2 * min (body.getD 29 0).toNat 70 →
    ∃ t, exec .profileLoadFirstPart s = .next t ∧ answered s f t .malformed ∧ t.notices = s.notices ∧
      onlyChanges [.link] s t) ∧
  (∀ (s : State) (f : Frame) (body : Bytes), asks s f 35 body → body.length ≠ 2 + 2 * (body.getD 1 0).toNat →
    ∃ t, exec .profileLoadSecondPart s = .next t ∧ answered s f t .malformed ∧ t.notices = s.notices ∧
      onlyChanges [.link] s t) ∧
  (∀ (s : State) (f : Frame), s.powered = true → s.link.queue.head? = some f → (f.kind.toNat = 0 ∨ 42 < f.kind.toNat) →
    ∃ t, exec .status s = .next t ∧ answered s f t .malformed ∧ t.notices = s.notices ∧ onlyChanges [.link] s t) ∧
  (∀ (s : State) (f : Frame) (body : Bytes), asks s f 2 body → body ≠ [] →
    ∃ t, exec .status s = .next t ∧ answered s f t .malformed ∧ t.notices = s.notices ∧ onlyChanges [.link] s t) ∧
  (∀ (s : State) (f : Frame) (body : Bytes), asks s f 3 body → body.length ≠ 4 →
    ∃ t, exec .setClock s = .next t ∧ answered s f t .malformed ∧ t.notices = s.notices ∧ onlyChanges [.link] s t) ∧
  (∀ (s : State) (f : Frame) (body : Bytes), asks s f 42 body → body ≠ [] →
    ∃ t, exec .exportTake s = .next t ∧ answered s f t .malformed ∧ t.notices = s.notices ∧ onlyChanges [.link] s t)

/-- SET CLOCK stores the time carried with fraction 0, marks the clock SET and answers DONE with the time, in every state
of the pit (R21). -/
def Obligations.SetClockStoresTime : Prop :=
  ∀ (s : State) (f : Frame) (w : Word32), asks s f 3 (u32 w.toNat) →
    ∃ t, exec .setClock s = .next t ∧ t.clock = { secs := w, frac := 0, set := true } ∧
      answered s f t (.done (.clock w)) ∧ t.notices = s.notices ∧ onlyChanges [.link, .clock] s t

/-- The clock advances by one sixty-fourth of a second; from its greatest value, to which CLOCK_WRAP answers too, it turns
to 0, UNSET, and CLOCK-UNSET is posted (R20). That both commands wrap the greatest time is the model's choice (log entry
28). -/
def Obligations.ClockAdvancesAndWraps : Prop :=
  (∀ s : State, s.powered = true → s.clock.frac < 63 →
    ∃ t, exec .clockAdvance s = .next t ∧ t.clock = { s.clock with frac := s.clock.frac + 1 } ∧ t.notices = s.notices ∧
      onlyChanges [.clock] s t) ∧
  (∀ s : State, s.powered = true → s.clock.frac = 63 → s.clock.secs ≠ 4294967295#32 →
    ∃ t, exec .clockAdvance s = .next t ∧ t.clock = { s.clock with secs := s.clock.secs + 1, frac := 0 } ∧
      t.notices = s.notices ∧ onlyChanges [.clock] s t) ∧
  (∀ (s : State) (c : Instr), s.powered = true → s.clock.frac = 63 → s.clock.secs = 4294967295#32 →
    (c = .clockAdvance ∨ c = .clockWrap) →
    ∃ t, exec c s = .next t ∧ t.clock = { secs := 0, frac := 0, set := false } ∧
      t.notices = s.notices ++ [.posting .clockUnset .pit .empty] ∧ onlyChanges [.clock] s t)

/-- A numeric SETTING WRITE stores the value, brought into the setting's range, and answers DONE where it was in range and
ADJUSTED where it was not, in every state of the pit; for insert life the lower limit is the larger of 1 and the greatest
insert pass count (R16). SETTING WRITE of the loop error kinds counted stores every set and answers DONE; of the pit map, it
stores ten different positions in 1 to 12 and answers DONE, and otherwise refuses BAD-FIELD and keeps the map. The roles held
are not changed (R18). -/
def Obligations.SettingsWritten : Prop :=
  (∀ (s : State) (f : Frame) (i a b : Byte), asks s f 4 [i, a, b] → 1 ≤ i.toNat → i.toNat ≤ 17 →
    ∃ t lo v, exec .settingWrite s = .next t ∧
      lo = (if i.toNat = 14 then
          max (max (s.head ⟨.A, .L⟩).insertCount (s.head ⟨.A, .R⟩).insertCount)
            (max (max (s.head ⟨.B, .L⟩).insertCount (s.head ⟨.B, .R⟩).insertCount) 1)
        else (settingRange i.toNat).1) ∧
      v = (if n16 a b < lo then lo else min (n16 a b) (settingRange i.toNat).2) ∧
      t.settings = storeSetting s.settings i.toNat v ∧
      answered s f t (if v = n16 a b then .done (.setting v) else .adjusted (.setting v)) ∧
      handsOn s.notices t ∧ onlyChanges [.link, .settings] s t) ∧
  (∀ (s : State) (f : Frame) (k : Byte), asks s f 4 [18#8, k] → k.toNat ≤ 7 →
    ∃ t, exec .loopErrorKindsWrite s = .next t ∧
      t.settings = { s.settings with
        errorKinds := { check := k.getLsbD 0, silent := k.getLsbD 1, order := k.getLsbD 2 } } ∧
      answered s f t (.done .empty) ∧ t.notices = s.notices ∧ onlyChanges [.link, .settings] s t) ∧
  (∀ (s : State) (f : Frame) (ps : Bytes) (m : PitMap), asks s f 4 (19#8 :: ps) → ps.length = 10 →
    mapPositions m = ps.map (·.toNat) →
    (((mapPositions m).Nodup ∧ ∀ p ∈ mapPositions m, 1 ≤ p ∧ p ≤ 12) →
      ∃ t, exec .pitMapWrite s = .next t ∧ t.settings = { s.settings with pitMap := m } ∧
        answered s f t (.done .empty) ∧ t.notices = s.notices ∧ onlyChanges [.link, .settings] s t) ∧
    (¬ ((mapPositions m).Nodup ∧ ∀ p ∈ mapPositions m, 1 ≤ p ∧ p ≤ 12) →
      ∃ t i, exec .pitMapWrite s = .next t ∧ answered s f t (.refused .badField (.offset i)) ∧ t.notices = s.notices ∧
        onlyChanges [.link] s t))

/-- A posting taken by the Attention Queue makes a new item with repeat count 1 and both times at the stamp, or coalesces
into the item of its pairing: the detail replaced, the count one higher up to 255, the last time set (R10, R11, R22). TAKE
ATTENTION returns the item ranked first and removes it from the queue; an empty queue is refused EMPTY (R12, R13). -/
def Obligations.AttentionQueueCoalescesAndRanks : Prop :=
  (∀ (s : State) (i : Nat) (k : AttentionKind) (src : Source) (d : Detail) (rest : List Notice), s.powered = true →
    nthPosting i s.notices = some (k, src, d, rest) →
    ∃ t, exec (.attentionPosting i) s = .next t ∧ handsOn rest t ∧ onlyChanges [.attention] s t ∧
      ((∀ j ∈ s.attention, ¬ (j.kind = k ∧ j.source = src)) →
        t.attention = s.attention ++
          [{ kind := k, source := src, detail := d, repeats := 1, first := s.clock, last := s.clock }]) ∧
      ((∃ j ∈ s.attention, j.kind = k ∧ j.source = src) →
        t.attention = s.attention.map (fun j =>
          if j.kind = k ∧ j.source = src then
            { j with detail := d, repeats := min (j.repeats + 1) 255, last := s.clock }
          else j))) ∧
  (∀ (s : State) (f : Frame), asks s f 6 [] → attentionInv s → s.attention ≠ [] →
    ∃ t i, exec .takeAttention s = .next t ∧ i ∈ s.attention ∧
      (∀ j ∈ s.attention, j = i ∨ keysBefore (rankKeys j) (rankKeys i) = false) ∧
      t.attention = s.attention.erase i ∧ answered s f t (.done (.item i)) ∧ handsOn s.notices t ∧
      onlyChanges [.link, .attention] s t) ∧
  (∀ (s : State) (f : Frame), asks s f 6 [] → s.attention = [] →
    ∃ t, exec .takeAttention s = .next t ∧ answered s f t (.refused .empty .none) ∧ t.notices = s.notices ∧
      onlyChanges [.link] s t)

/-- RESTART with the pit at rest answers DONE, answers every request behind it WRONG-STATE in queue order, and awaits its
coming up; with the pit not at rest it is refused UNSAFE and nothing else changes (R25). That those replies join the
transmit order behind the DONE is the model's choice (log entry 31). -/
def Obligations.RestartNeedsPitAtRest : Prop :=
  (∀ (s : State) (f : Frame) (rest : List Frame), asks s f 7 [] → s.link.queue = f :: rest →
    (s.lift.state = .lowered ∨ s.lift.state = .unknown) → (s.clamp .A).state = .opened → (s.clamp .B).state = .opened →
    (∀ st, (s.station st).work ≠ .tracing ∧ (s.station st).work ≠ .cutting ∧ (s.station st).work ≠ .scanning ∧
      (s.station st).work ≠ .paused) →
    ∃ t, exec .restart s = .next t ∧ t.notices = s.notices ∧ onlyChanges [.link] s t ∧
      t.link = { s.link with
        restarting := true, queue := []
        backlog := s.link.backlog ++ { tag := f.tag, kind := f.kind, body := .done .empty } ::
          rest.map (fun g => { tag := g.tag, kind := g.kind, body := .refused .wrongState .none }) }) ∧
  (∀ (s : State) (f : Frame), asks s f 7 [] → s.link.restarting = false →
    ((s.lift.state ≠ .lowered ∧ s.lift.state ≠ .unknown) ∨ (s.clamp .A).state ≠ .opened ∨ (s.clamp .B).state ≠ .opened ∨
      ∃ st, (s.station st).work = .tracing ∨ (s.station st).work = .cutting ∨ (s.station st).work = .scanning ∨
        (s.station st).work = .paused) →
    ∃ t, exec .restart s = .next t ∧ answered s f t (.refused .unsafe_ .none) ∧ t.notices = s.notices ∧
      onlyChanges [.link] s t)

/-! ### The pit loop (chapter 2) -/

/-- LOOP START with its conditions met clears the loop and begins the dark hold, handing every owner the loop-down notice
where the loop was RUNNING, and answers STARTED; with a condition failing it is refused with the first reason (R34). The
loop-down notice takes down its owner's view of the loop and nothing else: what it owns keeps its states (R46). MAP ADOPT in
MISMATCH with four columns, four heads and two clamps found stores the map that gives roles in increasing position within each
kind, answers with it, assigns the roles and leaves MISMATCH, the first cycle being the next (R41 to R43); otherwise it is
refused and nothing else changes. That the loop is DISCOVERING until that cycle closes is the model's choice (log entry 25). -/
def Obligations.LoopStartsAndMapAdopted : Prop :=
  (∀ (s : State) (f : Frame), asks s f 10 [] → firstFailing (loopStartConditions s) = none →
    ∃ t, exec .loopStart s = .next t ∧ answered s f t .started ∧
      t.loop = { s.loop with
        state := .dark, table := [], chainEnd := 0, discovery := none, errors := 0
        tallies := { check := 0, silent := 0, order := 0 }, fault := none, wait := .darkHold, powered := 0
        firstCycle := false, sent := [] } ∧
      t.timers = s.timers.set .discover
        { condition := .counting, remaining := 500, loaded := 500
          count := if s.loop.wait = .none then s.timers.discover.count + 1 else s.timers.discover.count + 1 + 1 } ∧
      handsOn (s.notices ++
        (if s.loop.state = .running then [.loopDown .lift, .loopDown .clamps, .loopDown .heads] else [])) t ∧
      onlyChanges [.link, .loop, .timers] s t) ∧
  (∀ (s : State) (f : Frame) (r : Reason), asks s f 10 [] → firstFailing (loopStartConditions s) = some r →
    ∃ t, exec .loopStart s = .next t ∧ answered s f t (.refused r .none) ∧ t.notices = s.notices ∧
      onlyChanges [.link] s t) ∧
  (∀ (s : State) (o : LoopOwner) (rest : List Notice), waits s (fun n => n == .loopDown o) (.loopDown o) rest →
    ∃ t, exec (.loopDownNotice o) s = .next t ∧ t.notices = rest ∧
      t.lift = (if o = .lift then { s.lift with loopUp := false } else s.lift) ∧
      t.clamps = (if o = .clamps then { s.clamps with loopUp := false } else s.clamps) ∧
      t.heads = (if o = .heads then { s.heads with loopUp := false } else s.heads) ∧
      onlyChanges [.lift, .clamps, .heads] s t) ∧
  (∀ (s : State) (f : Frame), asks s f 11 [] → s.loop.state = .mismatch →
    (entriesOf s.loop.table .liftColumn).length = 4 → (entriesOf s.loop.table .wheelHead).length = 4 →
    (entriesOf s.loop.table .axleClamp).length = 2 →
    ∃ t, exec .mapAdopt s = .next t ∧ answered s f t (.done (.pitMap (adoptedMap s.loop.table))) ∧
      t.settings = { s.settings with pitMap := adoptedMap s.loop.table } ∧
      t.loop = { s.loop with
        state := .discovering, cycle := 0, firstCycle := true
        table := s.loop.table.map (fun e =>
          { e with role := mapRole (adoptedMap s.loop.table) e.position, condition := .active, count := 0 }) } ∧
      handsOn s.notices t ∧ onlyChanges [.link, .settings, .loop] s t) ∧
  (∀ (s : State) (f : Frame), asks s f 11 [] → s.loop.state ≠ .mismatch →
    ∃ t, exec .mapAdopt s = .next t ∧ answered s f t (.refused .wrongState .none) ∧ t.notices = s.notices ∧
      onlyChanges [.link] s t) ∧
  (∀ (s : State) (f : Frame), asks s f 11 [] → s.loop.state = .mismatch →
    ¬ ((entriesOf s.loop.table .liftColumn).length = 4 ∧ (entriesOf s.loop.table .wheelHead).length = 4 ∧
      (entriesOf s.loop.table .axleClamp).length = 2) →
    ∃ t i, exec .mapAdopt s = .next t ∧ answered s f t (.refused .badField (.offset i)) ∧ t.notices = s.notices ∧
      onlyChanges [.link] s t)

/-- The segment steps of discovery: the dark hold's end orders the diagnosis of segment 1, a clean segment is powered and
its first identity query sent, and a fault, or no diagnosis within 40 ms, ends discovery in FAULTED with SEGMENT-FAULT and
LOOP-STATE posted (R35 to R37). The identity steps: a good answer enters the node and goes on to the next segment, or ends
discovery at position 12; a bad answer is asked again up to three times in all and then ends discovery in FAULTED; no
answer ends discovery with the chain end before it, its segment unpowered again (R27, R38, R39). Discovery's end compares
the table with the pit map (R40 to R42); after a match the loop stays DISCOVERING until the first cycle closes, the
model's choice (log entry 25). So is DISCOVER cancelled when discovery ends by what arrived (log entry 24). -/
def Obligations.DiscoveryWalksTheLoop : Prop :=
  (∀ (s : State) (rest : List Notice), waits s (isExpiry .discover) (.expiry .discover s.timers.discover.count) rest →
    s.loop.wait = .darkHold →
    ∃ t, exec .darkHoldExpiry s = .next t ∧
      t.loop = { s.loop with state := .discovering, discovery := some 1, wait := .diagnosis } ∧ discoverWaits s t ∧
      handsOn rest t ∧ onlyChanges [.loop, .timers] s t) ∧
  (∀ (s : State) (p : Nat) (localized : Bool), s.powered = true → s.loop.wait = .diagnosis →
    s.timers.discover.condition ≠ .idle → s.loop.discovery = some p →
    ∃ t, exec (.segmentDiagnosis .clean localized) s = .next t ∧ t.loop = { s.loop with powered := p, wait := .query 1 } ∧
      discoverWaits s t ∧ t.notices = s.notices ∧ onlyChanges [.loop, .timers] s t) ∧
  (∀ (s : State) (p : Nat) (o : SegmentOutcome) (localized : Bool), s.powered = true → s.loop.wait = .diagnosis →
    s.timers.discover.condition ≠ .idle → s.loop.discovery = some p → o ≠ .clean →
    ∃ t, exec (.segmentDiagnosis o localized) s = .next t ∧
      discoveryFaults s t s.notices p o (localized && o != .undetermined) ∧ onlyChanges [.loop, .timers] s t) ∧
  (∀ (s : State) (p : Nat) (rest : List Notice),
    waits s (isExpiry .discover) (.expiry .discover s.timers.discover.count) rest → s.loop.wait = .diagnosis →
    s.loop.discovery = some p →
    ∃ t, exec .diagnosisTimeout s = .next t ∧ discoveryFaults s t rest p .undetermined false ∧
      onlyChanges [.loop, .timers] s t) ∧
  (∀ (s : State) (p k : Nat) (kind : NodeKind) (serial : Word32) (e : NodeEntry), s.powered = true →
    s.loop.wait = .query k → s.timers.discover.condition ≠ .idle → s.loop.discovery = some p →
    e = { position := p, kind := kind, serial := serial, role := none, condition := .active, count := 0, failures := []
          latest := none } →
    ∃ t, exec (.identityAnswer true kind serial) s = .next t ∧ handsOn s.notices t ∧ onlyChanges [.loop, .timers] s t ∧
      (p < 12 → discoverWaits s t ∧ t.loop = { s.loop with
        table := s.loop.table ++ [e], state := .discovering, discovery := some (p + 1), wait := .diagnosis }) ∧
      (p = 12 → discoveryEnds s t (s.loop.table ++ [e]) s.loop.powered 12)) ∧
  (∀ (s : State) (p k : Nat) (kind : NodeKind) (serial : Word32), s.powered = true → s.loop.wait = .query k →
    s.timers.discover.condition ≠ .idle → s.loop.discovery = some p →
    ∃ t, exec (.identityAnswer false kind serial) s = .next t ∧ onlyChanges [.loop, .timers] s t ∧
      (k < 3 → t.loop = { s.loop with wait := .query (k + 1) } ∧ discoverWaits s t ∧ t.notices = s.notices) ∧
      (3 ≤ k → discoveryFaults s t s.notices p .undetermined false)) ∧
  (∀ (s : State) (p k : Nat) (rest : List Notice),
    waits s (isExpiry .discover) (.expiry .discover s.timers.discover.count) rest → s.loop.wait = .query k →
    s.loop.discovery = some p →
    ∃ t, exec .identityQueryTimeout s = .next t ∧ discoveryEnds s t s.loop.table (p - 1) (p - 1) ∧ handsOn rest t ∧
      onlyChanges [.loop, .timers] s t)

/-- A cycle sends every node with a role its order, judges what arrived in each slot, and keeps the count, condition, last
failures and latest report of each entry; failures of ACTIVE nodes are tallied, those of a counted kind raise the error
counter, and at the threshold LOOP-QUALITY is posted and all are cleared. The first cycle's close makes the loop RUNNING
and hands each owner its loop-up notice (R28 to R33, R41, R45). Readings of another kind than the node's are judged CHECK,
and the failed cycles of a LOST node stay out of its last failures: the model's choices (log entries 10 and 23). -/
def Obligations.LoopCycleJudgesNodes : Prop :=
  ∀ (s : State) (slots : List (Nat × SlotReport)), s.powered = true → (s.loop.state = .running ∨ s.loop.firstCycle = true) →
    ∃ t js fs added, exec (.loopCycle slots) s = .next t ∧
      js = s.loop.table.map (fun e => (e, judge e s.loop.cycle (sparseGet slots e.position))) ∧
      fs = activeFailures (js.filter (fun j => j.1.role.isSome)) ∧
      added = (fs.filter (kindCounted s.settings.errorKinds)).length ∧
      t.loop.table = js.map (fun j => if j.1.role.isSome then judgedEntry j.1 j.2 else j.1) ∧
      t.loop.state = .running ∧ t.loop.firstCycle = false ∧ t.loop.cycle = s.loop.cycle + 1 ∧ t.loop.sent = cycleOrders s ∧
      t.loop.chainEnd = s.loop.chainEnd ∧ t.loop.fault = s.loop.fault ∧ t.loop.powered = s.loop.powered ∧
      t.loop.wait = s.loop.wait ∧ t.loop.discovery = s.loop.discovery ∧
      (if 0 < added ∧ 2 ^ (s.settings.errorIndex + 1) ≤ s.loop.errors + added then
        t.loop.errors = 0 ∧ t.loop.tallies = { check := 0, silent := 0, order := 0 } ∧
          .posting .loopQuality .pit (.loopQuality (fs.foldl tallied s.loop.tallies) (2 ^ (s.settings.errorIndex + 1))) ∈ t.notices
       else t.loop.errors = s.loop.errors + added ∧ t.loop.tallies = fs.foldl tallied s.loop.tallies) ∧
      (∀ j ∈ js, ∀ r, j.1.role = some r → ∀ n ∈ judgedNotices s.loop.firstCycle r j.1 j.2, n ∈ t.notices) ∧
      (s.loop.firstCycle = true → .posting .loopState .pit (.loopRunning s.loop.chainEnd) ∈ t.notices ∧
        ∀ o, Notice.loopUp o (ownOutcomes o (js.filterMap (fun j => j.1.role.map (fun r => (r, j.2))))) ∈ t.notices) ∧
      handsOn s.notices t ∧ onlyChanges [.loop] s t

/-! ### Zone, timers and warnings (chapter 3) -/

/-- One sample of an input whose state is BREACHED or BROKEN: return pending begins with the first sample that shows
safety, holds while safety shows, and ends where danger shows (R48). The clear event and the healthy event are taken once
safety has shown for 250 ms, and before that, or with no return pending, they change nothing: taken, they set the zone or
stop state, end the return pending and post, the clear opens the zone gate, and a notice goes to every owner, at which
nothing changes but its view (R48, R51, R53). When the owners take these notices is the model's choice (log entry 9). That
a CLEAR or HEALTHY whose time has not come stands for nothing having happened is log entry 4. -/
def Obligations.ZoneReturnNeedsPendingTime : Prop :=
  (∀ (s : State) (safe : Bool), s.powered = true →
    (s.zone.zone = .breached →
      ∃ t, exec (.returnPending .curtain safe) s = .next t ∧ handsOn s.notices t ∧ onlyChanges [.zone] s t ∧
        t.zone = { s.zone with
          curtainClear := safe
          zonePending := if safe = true then (if s.zone.zonePending = none then some s.uptime else s.zone.zonePending) else none }) ∧
    (s.zone.stop = .broken →
      ∃ t, exec (.returnPending .stopChain safe) s = .next t ∧ handsOn s.notices t ∧ onlyChanges [.zone] s t ∧
        t.zone = { s.zone with
          chainHealthy := safe
          stopPending := if safe = true then (if s.zone.stopPending = none then some s.uptime else s.zone.stopPending) else none })) ∧
  (∀ (s : State) (m : Nat), s.powered = true → s.zone.zone = .breached → s.zone.zonePending = some m → m + 250 ≤ s.uptime →
    ∃ t, exec .clear s = .next t ∧ t.zone = { s.zone with zone := .clear, zonePending := none, curtainClear := true } ∧
      handsOn (s.notices ++ [.ownView .lift .curtain, .ownView .clamps .curtain, .ownView .heads .curtain,
        .ownView (.station .A) .curtain, .ownView (.station .B) .curtain, .gateOpen, .posting .zone .pit (.zone false)]) t ∧
      onlyChanges [.zone] s t) ∧
  (∀ s : State, s.powered = true →
    (s.zone.zone = .clear ∨ s.zone.zonePending = none ∨ ∃ m, s.zone.zonePending = some m ∧ s.uptime < m + 250) →
    exec .clear s = .next s) ∧
  (∀ (s : State) (m : Nat), s.powered = true → s.zone.stop = .broken → s.zone.stopPending = some m → m + 250 ≤ s.uptime →
    ∃ t, exec .healthy s = .next t ∧ t.zone = { s.zone with stop := .healthy, stopPending := none, chainHealthy := true } ∧
      handsOn (s.notices ++ [.ownView .lift .stopChain, .ownView .clamps .stopChain, .ownView .heads .stopChain,
        .ownView (.station .A) .stopChain, .ownView (.station .B) .stopChain, .posting .estop .pit (.estop false)]) t ∧
      onlyChanges [.zone] s t) ∧
  (∀ s : State, s.powered = true →
    (s.zone.stop = .healthy ∨ s.zone.stopPending = none ∨ ∃ m, s.zone.stopPending = some m ∧ s.uptime < m + 250) →
    exec .healthy s = .next s)

/-- The breach event and the break event set the zone or stop state, end the return pending, and deliver their notice to
every owner, to the zone gate (a breach alone) and to the Warning Outputs, and post ZONE or ESTOP (R50, R52). Clamp
Control's breach notice, which changes its view alone, is one of those that the empty queue takes: the model's choice (log
entry 9). -/
def Obligations.BreachAndBreakDeliver : Prop :=
  (∀ s : State, s.powered = true → s.zone.zone = .clear →
    ∃ t, exec .breach s = .next t ∧ t.zone = { s.zone with zone := .breached, zonePending := none, curtainClear := false } ∧
      handsOn (s.notices ++ [.liftBreach, .ownView .clamps .curtain, .headBreach, .stationBreach .A, .stationBreach .B,
        .gateClose, .posting .zone .pit (.zone true)]) t ∧ Notice.view .zone (.zone .breached false) ∈ t.notices ∧
      onlyChanges [.zone] s t) ∧
  (∀ s : State, s.powered = true → s.zone.stop = .healthy →
    ∃ t, exec .chainBreak s = .next t ∧ t.zone = { s.zone with stop := .broken, stopPending := none, chainHealthy := false } ∧
      handsOn (s.notices ++ [.liftBreak, .clampBreak, .headBreak, .stationBreak .A, .stationBreak .B,
        .posting .estop .pit (.estop true)]) t ∧ Notice.view .zone (.stop .broken false) ∈ t.notices ∧
      onlyChanges [.zone] s t)

/-- The zone gate: a breach notice closes it and freezes each COUNTING zone-gated channel, a clear notice opens it and lets
each FROZEN one count; channels without a gate go on (R56). A COUNTING channel whose remaining time is 0 expires: its owner is
handed an expiry with its start count, a single-mode channel becomes IDLE, and PACE goes on from its loaded duration; a stale
expiry is disregarded by every owner: the notice is gone and no state changes (R57). -/
def Obligations.TimersGateExpireAndGoStale : Prop :=
  (∀ (s : State) (rest : List Notice), waits s (fun n => n == .gateClose) .gateClose rest →
    ∃ t, exec .zoneGateClose s = .next t ∧ t.timers.gateOpen = false ∧ t.notices = rest ∧ onlyChanges [.timers] s t ∧
      ∀ ch, t.timers.get ch =
        if channelGated ch = true ∧ (s.timers.get ch).condition = .counting then
          { s.timers.get ch with condition := .frozen }
        else s.timers.get ch) ∧
  (∀ (s : State) (rest : List Notice), waits s (fun n => n == .gateOpen) .gateOpen rest →
    ∃ t, exec .zoneGateOpen s = .next t ∧ t.timers.gateOpen = true ∧ t.notices = rest ∧ onlyChanges [.timers] s t ∧
      ∀ ch, t.timers.get ch =
        if channelGated ch = true ∧ (s.timers.get ch).condition = .frozen then
          { s.timers.get ch with condition := .counting }
        else s.timers.get ch) ∧
  (∀ (s : State) (ch : Channel), s.powered = true → (s.timers.get ch).condition = .counting →
    (s.timers.get ch).remaining = 0 →
    ∃ t, exec (.timerExpiry ch) s = .next t ∧ t.notices = s.notices ++ [.expiry ch (s.timers.get ch).count] ∧
      onlyChanges [.timers] s t ∧
      t.timers = s.timers.set ch
        (if ch = .pace then { s.timers.get ch with remaining := (s.timers.get ch).loaded }
         else { s.timers.get ch with condition := .idle })) ∧
  (∀ (s : State) (ch : Channel) (c : Instr) (count : Word16) (rest : List Notice),
    waits s (isExpiry ch) (.expiry ch count) rest → count ≠ (s.timers.get ch).count →
    ((ch = .warn ∧ c = .warnExpiry) ∨ (ch = .step ∧ c = .stepExpiry) ∨ (ch = .settle ∧ c = .settleExpiry) ∨
      (ch = .pace ∧ c = .paceExpiry) ∨ (∃ st, ch = .clamp st ∧ c = .clampTimerExpiry st) ∨
      (∃ h, ch = .head h ∧ c = .headTimerExpiry h) ∨
      (ch = .discover ∧ (c = .darkHoldExpiry ∨ c = .diagnosisTimeout ∨ c = .identityQueryTimeout))) →
    exec c s = .next (s.setNotices rest))

/-- HORN MUTE mutes in every state of the pit: the mark becomes MUTED and the horn sounds what its rules then give, the
reply carrying the tone before, the tone after and the size of the fault set (R60, R61). The Warning Outputs take one
notice: its item of the view is replaced, a fault onset unmutes, the horn tone and the part's own lamp cells follow from
the view, and the host cells stay; the panel is sent the whole lamp table (R58, R59, R61 to R64). What a view item that no
notice has filled yet gives is the model's choice (log entry 8). -/
def Obligations.HornAndLampsFollowTheView : Prop :=
  (∀ (s : State) (f : Frame), asks s f 8 [] →
    ∃ t, exec .hornMute s = .next t ∧
      t.warnings = { s.warnings with
        muted := true, tone := hornTone s.warnings.view true
        toneSince := if hornTone s.warnings.view true = s.warnings.tone then s.warnings.toneSince else s.uptime } ∧
      answered s f t (.done (.horn s.warnings.tone (hornTone s.warnings.view true) (faultSet s.warnings.view).length)) ∧
      t.notices = s.notices ∧ onlyChanges [.link, .warnings] s t) ∧
  (∀ (s : State) (src : ViewSource) (item : ViewItem) (rest : List Notice), waits s (isView src) (.view src item) rest →
    ∃ t, exec (.warningViewNotice src) s = .next t ∧ t.notices = rest ∧ onlyChanges [.warnings] s t ∧
      t.warnings.view = updateView s.warnings.view item ∧
      t.warnings.muted = (s.warnings.muted && !faultOnset s.warnings.view t.warnings.view) ∧
      t.warnings.tone = hornTone t.warnings.view t.warnings.muted ∧
      t.warnings.toneSince = (if t.warnings.tone = s.warnings.tone then s.warnings.toneSince else s.uptime) ∧
      t.warnings.cells = partCells t.warnings.view ++ s.warnings.cells.drop 12 ∧ t.warnings.shown = s.warnings.shown) ∧
  (∀ s : State, s.powered = true →
    ∃ t, exec .panelRefresh s = .next t ∧ t.warnings = { s.warnings with shown := s.warnings.cells } ∧
      t.notices = s.notices ∧ onlyChanges [.warnings] s t)

/-- PANEL SET sets each host cell whose value is given, keeps each that is UNCHANGED and all of the part's own cells, and
answers with all cells, the tone and the mute mark, in every state of the pit; a body that is not four such values is
answered MALFORMED (R65). -/
def Obligations.PanelSetSetsHostCells : Prop :=
  (∀ (s : State) (f : Frame) (body : Bytes) (vs : List (Option Lamp)), asks s f 9 body → parsePanel body = some vs →
    panelInv s →
    ∃ t, exec .panelSet s = .next t ∧ t.warnings = { s.warnings with cells := t.warnings.cells } ∧
      panelInv t ∧ (∀ i, i < 12 → t.warnings.cells[i]? = s.warnings.cells[i]?) ∧
      (∀ i v, vs[i]? = some v → t.warnings.cells[12 + i]? = (s.warnings.cells[12 + i]?).map (fun c => v.getD c)) ∧
      answered s f t (.done (.panel t.warnings.cells s.warnings.tone s.warnings.muted)) ∧ t.notices = s.notices ∧
      onlyChanges [.link, .warnings] s t) ∧
  (∀ (s : State) (f : Frame) (body : Bytes), asks s f 9 body →
    (body.length ≠ 4 ∨ ∃ b ∈ body, b ≠ 0 ∧ b ≠ 1 ∧ b ≠ 2 ∧ b ≠ 3) →
    ∃ t, exec .panelSet s = .next t ∧ answered s f t .malformed ∧ t.notices = s.notices ∧ onlyChanges [.link] s t)

/-! ### Lifting (chapter 4) -/

/-- LIFT RAISE, LIFT LOWER and LIFT RESUME, each in a state that takes it and with the shared conditions met, set the
direction memory (RESUME keeps it) and enter WARNING with HOLD in all four slots, the step index and the acknowledgements 0,
any hold reason gone and WARN started, and answer STARTED; otherwise they are refused with the first reason that applies and
change nothing (R69 to R73). LIFT STOP on a moving lift puts it in HOLDING with reason HOST: HOLD in all four slots, the
running lift channels cancelled, LIFT-STOPPED posted, and the heights answered; on a lift at rest it is refused WRONG-STATE
(R80, R81). -/
def Obligations.LiftRequestsWarnAndStop : Prop :=
  (∀ (s : State) (f : Frame) (k : Nat) (c : Instr) (d : Direction), asks s f k [] →
    ((k = 13 ∧ c = .liftRaise ∧ d = .up ∧ s.lift.state = .lowered) ∨
      (k = 14 ∧ c = .liftLower ∧ d = .down ∧
        (s.lift.state = .raised ∨ s.lift.state = .holding ∨ s.lift.state = .faulted)) ∨
      (k = 16 ∧ c = .liftResume ∧ d = s.lift.direction ∧ s.lift.state = .holding)) →
    firstFailing (liftConditions s) = none →
    ∃ t, exec c s = .next t ∧ answered s f t .started ∧
      t.lift = { s.lift with
        state := .warning, direction := d, holdReason := none, stepIndex := 0, finalIndex := none, orders := .all .hold
        columns := s.lift.columns.map (fun r => { r with current := r.height, next := none, lastAck := 0 }) } ∧
      t.timers = s.timers.set .warn
        (startedRec s.timers.gateOpen .warn s.timers.warn (s.settings.warnTime * 100)) ∧
      handsOn s.notices t ∧ onlyChanges [.link, .lift, .timers] s t) ∧
  (∀ (s : State) (f : Frame) (k : Nat) (c : Instr) (r : Reason), asks s f k [] →
    ((k = 13 ∧ c = .liftRaise ∧ firstFailing ((s.lift.state == .lowered, .wrongState) :: liftConditions s) = some r) ∨
      (k = 14 ∧ c = .liftLower ∧ firstFailing ((s.lift.state == .raised || s.lift.state == .holding ||
        s.lift.state == .faulted, .wrongState) :: liftConditions s) = some r) ∨
      (k = 16 ∧ c = .liftResume ∧ firstFailing ((s.lift.state == .holding, .wrongState) :: liftConditions s) = some r)) →
    ∃ t, exec c s = .next t ∧ answered s f t (.refused r .none) ∧ t.notices = s.notices ∧ onlyChanges [.link] s t) ∧
  (∀ (s : State) (f : Frame), asks s f 15 [] →
    (s.lift.state = .warning ∨ s.lift.state = .raising ∨ s.lift.state = .settling ∨ s.lift.state = .lowering) →
    ∃ t, exec .liftStop s = .next t ∧ answered s f t (.done (.liftHeld (s.lift.columns.map (·.height)))) ∧
      liftHolds s t s.notices .host .none ∧ onlyChanges [.link, .lift, .timers] s t) ∧
  (∀ (s : State) (f : Frame), asks s f 15 [] → liftMoving s.lift.state = false →
    ∃ t, exec .liftStop s = .next t ∧ answered s f t (.refused .wrongState .none) ∧ t.notices = s.notices ∧
      onlyChanges [.link] s t)

/-- The breach notice holds a lift that is WARNING, RAISING or LOWERING with reason ZONE and lets SETTLING go on; the break
notice holds every moving lift with reason STOPPED; a lift at rest takes either in its view alone (R81). That the view then
shows the Zone Monitor's state as it stands when the notice is taken is the model's choice (log entry 9). -/
def Obligations.BreachAndBreakHoldLift : Prop :=
  (∀ (s u : State) (rest : List Notice), waits s (fun n => n == .liftBreach) .liftBreach rest →
    u = s.setLift { s.lift with view := { s.lift.view with zone := s.zone.zone } } →
    ∃ t, exec .liftBreachNotice s = .next t ∧ onlyChanges [.lift, .timers] s t ∧
      if s.lift.state = .warning ∨ s.lift.state = .raising ∨ s.lift.state = .lowering then
        liftHolds u t rest .zone .none
      else t.lift = u.lift ∧ t.timers = s.timers ∧ t.notices = rest) ∧
  (∀ (s u : State) (rest : List Notice), waits s (fun n => n == .liftBreak) .liftBreak rest →
    u = s.setLift { s.lift with view := { s.lift.view with stop := s.zone.stop } } →
    ∃ t, exec .liftBreakNotice s = .next t ∧ onlyChanges [.lift, .timers] s t ∧
      if liftMoving s.lift.state = true then liftHolds u t rest .stopped .none
      else t.lift = u.lift ∧ t.timers = s.timers ∧ t.notices = rest)

/-- The end of the warning starts the motion that the direction memory names: RAISING offers its first step at the first
multiple of the lift step above the highest column, and at most the raise height, to all four columns and starts STEP;
LOWERING issues its first step one lift step below the lowest current setpoint and starts PACE (R73, R74, R78). That a
column without a height or a current setpoint takes no part is the model's choice (log entry 11). -/
def Obligations.WarningEndStartsMotion : Prop :=
  ∀ (s : State) (rest : List Notice) (i : Nat), waits s (isExpiry .warn) (.expiry .warn s.timers.warn.count) rest →
    s.lift.state = .warning → i = s.lift.stepIndex + 1 →
    ∃ t x, exec .warnExpiry s = .next t ∧ onlyChanges [.lift, .timers] s t ∧ handsOn rest t ∧
      match s.lift.direction with
      | .up =>
        x = min ((highestHeight s.lift / s.settings.liftStep + 1) * s.settings.liftStep) s.settings.raiseHeight ∧
        t.lift = { s.lift with
          state := .raising, stepIndex := i, issued := x, orders := .all (.move [{ index := i, setpoint := x }])
          columns := s.lift.columns.map (fun r => { r with current := some x, next := none }) } ∧
        t.timers = s.timers.set .step (startedRec s.timers.gateOpen .step s.timers.step (s.settings.stepTimeout * 100))
      | .down =>
        x = leastOf (s.lift.columns.toList.filterMap (·.current)) - s.settings.liftStep ∧
        t.lift = { s.lift with
          state := .lowering, stepIndex := i, issued := x, finalIndex := if x = 0 then some i else s.lift.finalIndex
          orders := .all (.move [{ index := i, setpoint := x }])
          columns := s.lift.columns.map (fun r => { r with current := some x, next := none }) } ∧
        t.timers = s.timers.set .pace (startedRec s.timers.gateOpen .pace s.timers.pace (s.settings.lowerPace * 100))

/-- A step timeout in RAISING holds the lift with reason STEP-TIMEOUT and names each column that owes the step; the settle
time's end makes a lift that passes the level and load checks RAISED, with LIFT-DONE posted, and holds one that fails them
(R76, R77). A PACE expiry in LOWERING holds the lift with reason LAG where some column is two steps or more behind, and
otherwise issues the next step, one lift step lower and final at 0, or, after the final step, counts its index on (R78,
R79). That a column without readings takes no part in the checks, and which of equal columns is named, are the model's
choices (log entries 11 and 12). -/
def Obligations.LiftTimersHoldOrGoOn : Prop :=
  (∀ (s : State) (rest : List Notice), waits s (isExpiry .step) (.expiry .step s.timers.step.count) rest →
    s.lift.state = .raising →
    ∃ t, exec .stepExpiry s = .next t ∧ onlyChanges [.lift, .timers] s t ∧
      liftHolds s t rest .stepTimeout (.timeout
        ((columns.filter (fun c => decide ((s.lift.columns.get c).lastAck < s.lift.stepIndex))).map
          (fun c => (c, (s.lift.columns.get c).status))))) ∧
  (∀ (s : State) (rest : List Notice), waits s (isExpiry .settle) (.expiry .settle s.timers.settle.count) rest →
    s.lift.state = .settling → levelAndLoad s.settings s.lift = none →
    ∃ t, exec .settleExpiry s = .next t ∧ onlyChanges [.lift] s t ∧ t.lift = { holdColumns s.lift with state := .raised } ∧
      handsOn (rest ++ [.posting .liftDone .lift
        (.liftDone true (s.lift.columns.map (·.height)) (s.lift.columns.map (·.load)))]) t) ∧
  (∀ (s : State) (rest : List Notice) (reason : HoldReason) (p : Particulars),
    waits s (isExpiry .settle) (.expiry .settle s.timers.settle.count) rest → s.lift.state = .settling →
    levelAndLoad s.settings s.lift = some (reason, p) →
    ∃ t, exec .settleExpiry s = .next t ∧ onlyChanges [.lift, .timers] s t ∧ liftHolds s t rest reason p) ∧
  (∀ (s : State) (rest : List Notice), waits s (isExpiry .pace) (.expiry .pace s.timers.pace.count) rest →
    s.lift.state = .lowering →
    ∃ t, exec .paceExpiry s = .next t ∧ onlyChanges [.lift, .timers] s t ∧
      (leastAck s.lift + 2 ≤ s.lift.stepIndex →
        liftHolds s t rest .lag (.lag ((columns.filter (fun c => (s.lift.columns.get c).lastAck == leastAck s.lift)).map
          (fun c => (c, (s.lift.columns.get c).height, (s.lift.columns.get c).status))))) ∧
      (s.lift.stepIndex < leastAck s.lift + 2 → t.timers = s.timers ∧ t.notices = rest ∧
        t.lift.stepIndex = s.lift.stepIndex + 1 ∧ t.lift.state = .lowering ∧
        (∀ i, s.lift.finalIndex = some i → t.lift = { s.lift with stepIndex := s.lift.stepIndex + 1 }) ∧
        (s.lift.finalIndex = none →
          t.lift.issued = s.lift.issued - s.settings.liftStep ∧
          t.lift.finalIndex = (if t.lift.issued = 0 then some (s.lift.stepIndex + 1) else none) ∧
          ∀ c, t.lift.orders.get c =
            addStepOrder { index := s.lift.stepIndex + 1, setpoint := t.lift.issued } (s.lift.orders.get c))))

/-- A column report is recorded: height, load and status as reported, and an acknowledgement above the last one taken up
to the highest index issued (R67). In RAISING, once all four columns acknowledge the step, STEP is cancelled and then the
next step is offered with STEP started afresh, or SETTLING entered at the raise height with SETTLE started, or the lift
held by the level or load check, its channels cancelled and LIFT-STOPPED posted with the check's particulars (R74, R75,
R77, R80). In LOWERING, once all four acknowledge the final step, PACE is cancelled and the lift is LOWERED with LIFT-DONE
posted (R78). In every other state nothing more comes of a report. That a column without readings takes no part in the
checks, which of equal columns is named, and that an index below the last acknowledged one changes nothing more, are the
model's choices (log entries 11, 12 and 50). -/
def Obligations.ColumnReportsDriveTheLift : Prop :=
  ∀ (s : State) (c : Column) (height load ack : Nat) (st : ColumnStatus) (rest : List Notice) (l : Lift) (u : State),
    waits s (isReport (.column c)) (.report (.column c) (.column height load st ack)) rest →
    l = recordColumn s.lift c height load st ack →
    u = (s.setLift l).setTimers (s.timers.set .step (cancelledRec s.timers.step)) →
    (l.columns.get c).height = some height ∧ (l.columns.get c).load = some load ∧ (l.columns.get c).status = some st ∧
    (s.lift.state ≠ .warning → (s.lift.columns.get c).lastAck < ack → ack ≤ highestIssued s.lift →
      (l.columns.get c).lastAck = ack) ∧
    (ack ≤ (s.lift.columns.get c).lastAck → (l.columns.get c).lastAck = (s.lift.columns.get c).lastAck) ∧
    (∀ c', c' ≠ c → l.columns.get c' = s.lift.columns.get c') ∧
    ∃ t, exec (.columnReport c) s = .next t ∧ onlyChanges [.lift, .timers] s t ∧ handsOn rest t ∧
      (s.lift.state ≠ .raising → s.lift.state ≠ .lowering → t.lift = l ∧ t.timers = s.timers) ∧
      (s.lift.state = .raising → allAcknowledged l l.stepIndex = false → t.lift = l ∧ t.timers = s.timers) ∧
      (s.lift.state = .raising → allAcknowledged l l.stepIndex = true →
        (∀ reason p, levelAndLoad s.settings l = some (reason, p) →
          liftHolds u t rest reason p ∧ t.timers.step = cancelledRec s.timers.step) ∧
        (levelAndLoad s.settings l = none → s.settings.raiseHeight ≤ l.issued →
          t.lift = { holdColumns l with state := .settling } ∧
          t.timers = u.timers.set .settle
            (startedRec s.timers.gateOpen .settle s.timers.settle (s.settings.settleTime * 100))) ∧
        (levelAndLoad s.settings l = none → l.issued < s.settings.raiseHeight →
          t.lift.state = .raising ∧ t.lift.stepIndex = l.stepIndex + 1 ∧
          t.lift.issued = min (l.issued + s.settings.liftStep) s.settings.raiseHeight ∧
          t.lift.orders = .all (.move [{ index := l.stepIndex + 1, setpoint := t.lift.issued }]) ∧
          t.timers = s.timers.set .step
            (startedRec s.timers.gateOpen .step (cancelledRec s.timers.step) (s.settings.stepTimeout * 100)))) ∧
      (s.lift.state = .lowering → (∀ i, l.finalIndex = some i → allAcknowledged l i = false) →
        t.lift = l ∧ t.timers = s.timers) ∧
      (∀ i, s.lift.state = .lowering → l.finalIndex = some i → allAcknowledged l i = true →
        t.lift = { holdColumns l with state := .lowered } ∧ t.timers = s.timers.set .pace (cancelledRec s.timers.pace) ∧
        handsOn (rest ++ [.posting .liftDone .lift
          (.liftDone false (l.columns.map (·.height)) (l.columns.map (·.load)))]) t)

/-- The loss of a column is recorded in every state; it faults a lift that is neither LOWERED, UNKNOWN nor FAULTED, with
its channels cancelled, LIFT-STOPPED posted and both stations told; a FAULTED lift posts LIFT-STOPPED again. A regained
column is ACTIVE with the report recorded, and the lift stays in its state (R82, R83). The first cycle after the roles are
assigned fills the four column records afresh and clears the run: with all four columns reporting 0 the lift is LOWERED,
and otherwise it is HOLDING with reason RECOVERED and LIFT-STOPPED names the columns whose first cycle failed (R68). That
a column's last acknowledged step index is 0 then, whatever the report's, and that a lift set moving between LOOP START and
its loop-down notice keeps its channels, are the model's choices (log entries 38 and 51). An index below the last
acknowledged one in a regained column's report changes nothing more (log entry 50). -/
def Obligations.ColumnLossAndLoopUpPlaceLift : Prop :=
  (∀ (s : State) (c : Column) (rest : List Notice) (l : Lift),
    waits s (fun n => n == .lost (.column c)) (.lost (.column c)) rest →
    l = { s.lift with columns := s.lift.columns.set c { s.lift.columns.get c with condition := .lost } } →
    ∃ t, exec (.columnLost c) s = .next t ∧ handsOn rest t ∧ onlyChanges [.lift, .timers] s t ∧
      (s.lift.state = .lowered ∨ s.lift.state = .unknown → t.lift = l ∧ t.timers = s.timers) ∧
      (s.lift.state = .faulted → t.lift = l ∧ t.timers = s.timers ∧
        .posting .liftStopped .lift (.liftStopped .faulted l.holdReason l.direction l.stepIndex
          (columns.map (columnDetail l)) (.lost c)) ∈ t.notices) ∧
      (s.lift.state ≠ .lowered → s.lift.state ≠ .unknown → s.lift.state ≠ .faulted →
        t.lift = { holdColumns l with state := .faulted, holdReason := none } ∧ liftTimersStopped s t ∧
        handsOn (rest ++ [.posting .liftStopped .lift (.liftStopped .faulted none l.direction l.stepIndex
          (columns.map (columnDetail l)) (.lost c)), .liftFaulted .A, .liftFaulted .B]) t)) ∧
  (∀ (s : State) (c : Column) (height load ack : Nat) (st : ColumnStatus) (rest : List Notice),
    waits s (isRegained (.column c)) (.regained (.column c) (.column height load st ack)) rest →
    ∃ t, exec (.columnRegained c) s = .next t ∧ t.notices = rest ∧ onlyChanges [.lift] s t ∧
      t.lift = recordColumn
        { s.lift with columns := s.lift.columns.set c { s.lift.columns.get c with condition := .active } }
        c height load st ack ∧
      t.lift.state = s.lift.state ∧ (t.lift.columns.get c).condition = .active) ∧
  (∀ (s : State) (outs : List (Role × CycleOutcome)) (rest : List Notice),
    waits s (isLoopUp .lift) (.loopUp .lift outs) rest →
    ∃ t, exec .liftLoopUp s = .next t ∧ handsOn rest t ∧ onlyChanges [.lift] s t ∧ t.lift.loopUp = true ∧
      t.lift.orders = .all .hold ∧ t.lift.direction = .up ∧ t.lift.stepIndex = 0 ∧ t.lift.finalIndex = none ∧
      t.lift.view = s.lift.view ∧ (∀ c, t.lift.columns.get c = loopUpColumn (outcomeOf outs (.column c))) ∧
      ((∀ c, (t.lift.columns.get c).height = some 0) → t.lift.state = .lowered ∧ t.lift.holdReason = none) ∧
      ((∃ c, (t.lift.columns.get c).height ≠ some 0) → t.lift.state = .holding ∧ t.lift.holdReason = some .recovered ∧
        .posting .liftStopped .lift (.liftStopped .holding (some .recovered) .up 0 (columns.map (columnDetail t.lift))
          (.failedFirstCycle (columns.filter (fun c => (t.lift.columns.get c).height.isNone)))) ∈ t.notices))

/-! ### Clamping (section 4.9) -/

/-- CLAMP CLOSE and CLAMP OPEN with their conditions met put the clamp in CLOSING or OPENING, its order following, start
its channel and answer STARTED; with a condition failing they are refused with its reason and change nothing (R84, R85). -/
def Obligations.ClampRequestsStartTravel : Prop :=
  (∀ (s : State) (f : Frame) (st : StationId) (b : Byte) (c : Instr) (x : ClampState) (o : ClampOrder) (k : Nat),
    asks s f k [b] → stationOf b = some st →
    ((k = 17 ∧ c = .clampClose ∧ x = .closing ∧ o = .close ∧ firstFailing (clampCloseConditions s st) = none) ∨
      (k = 18 ∧ c = .clampOpen ∧ x = .opening ∧ o = .opened ∧ firstFailing (clampOpenConditions s st) = none)) →
    ∃ t, exec c s = .next t ∧ answered s f t .started ∧
      t.clamps = { s.clamps with recs := s.clamps.recs.set st { s.clamp st with state := x, cause := none, order := o } } ∧
      t.timers = s.timers.set (.clamp st)
        (startedRec s.timers.gateOpen (.clamp st) (s.timers.clamp.get st) (s.settings.clampTimeout * 100)) ∧
      handsOn s.notices t ∧ onlyChanges [.link, .clamps, .timers] s t) ∧
  (∀ (s : State) (f : Frame) (st : StationId) (b : Byte) (c : Instr) (r : Reason) (k : Nat),
    asks s f k [b] → stationOf b = some st →
    ((k = 17 ∧ c = .clampClose ∧ firstFailing (clampCloseConditions s st) = some r) ∨
      (k = 18 ∧ c = .clampOpen ∧ firstFailing (clampOpenConditions s st) = some r)) →
    ∃ t, exec c s = .next t ∧ answered s f t (.refused r .none) ∧ t.notices = s.notices ∧ onlyChanges [.link] s t)

/-- A clamp's report is recorded and, by the clamp's state, completes a closing at AT-CLOSED with the holding force or an
opening at AT-OPEN, its channel cancelled, or faults a CLOSED clamp that no longer holds, telling its station; otherwise
nothing more comes of it (R86, R88, R89). -/
def Obligations.ClampReportsCompleteTravel : Prop :=
  ∀ (s : State) (st : StationId) (jaw : Jaw) (force holding : Nat) (rest : List Notice) (c : Clamp) (closed : Prop),
    waits s (isReport (.clamp st)) (.report (.clamp st) (.clamp jaw force holding)) rest →
    c = { s.clamp st with jaw := some jaw, force := some force, holding := some holding } →
    closed = (jaw = .atClosed ∧ holding ≤ force) →
    ∃ t, exec (.clampReport st) s = .next t ∧ handsOn rest t ∧ onlyChanges [.clamps, .timers] s t ∧
      t.clamps = { s.clamps with recs := s.clamps.recs.set st (t.clamp st) } ∧
      (c.state = .closing → closed →
        t.clamp st = { c with state := .closed, cause := none, order := .close } ∧
        t.timers = s.timers.set (.clamp st) (cancelledRec (s.timers.clamp.get st))) ∧
      (c.state = .opening → jaw = .atOpen →
        t.clamp st = { c with state := .opened, cause := none, order := .opened } ∧
        t.timers = s.timers.set (.clamp st) (cancelledRec (s.timers.clamp.get st))) ∧
      (c.state = .closed → ¬ closed → clampFaults s t rest st c .force ∧ Notice.clampFailed st ∈ t.notices) ∧
      ((c.state = .closing ∧ ¬ closed) ∨ (c.state = .opening ∧ jaw ≠ .atOpen) ∨ (c.state = .closed ∧ closed) ∨
          c.state = .opened ∨ c.state = .faulted →
        t.clamp st = c ∧ t.timers = s.timers ∧ t.notices = rest)

/-- What faults a clamp: its channel's expiry while it travels (TIMEOUT), the break notice while it travels (STOPPED), and
the loss of its node while it travels or is CLOSED (LOST), the last telling the station of a CLOSED clamp. A clamp at rest
keeps its state through each (R86, R88 to R90). A regained clamp is ACTIVE with the report recorded and keeps its state; the
first cycle after the roles are assigned derives each clamp's state from its report, and faults with cause RECOVERED one that
is between, or whose first cycle failed (R90, R91). That Clamp Control's view then shows the stop chain as it stands when the
break notice is taken is the model's choice (log entry 9). -/
def Obligations.ClampFaultsAndRecovery : Prop :=
  (∀ (s : State) (st : StationId) (rest : List Notice),
    waits s (isExpiry (.clamp st)) (.expiry (.clamp st) (s.timers.clamp.get st).count) rest →
    ∃ t, exec (.clampTimerExpiry st) s = .next t ∧ onlyChanges [.clamps, .timers] s t ∧
      if (s.clamp st).state = .closing ∨ (s.clamp st).state = .opening then clampFaults s t rest st (s.clamp st) .timeout
      else t.clamps = s.clamps ∧ t.timers = s.timers ∧ t.notices = rest) ∧
  (∀ (s : State) (rest : List Notice), waits s (fun n => n == .clampBreak) .clampBreak rest →
    ∃ t, exec .clampBreakNotice s = .next t ∧ handsOn rest t ∧ onlyChanges [.clamps, .timers] s t ∧
      t.clamps.view = { s.clamps.view with stop := s.zone.stop } ∧ t.clamps.loopUp = s.clamps.loopUp ∧
      ∀ st, if (s.clamp st).state = .closing ∨ (s.clamp st).state = .opening then
          t.clamp st = { s.clamp st with state := .faulted, cause := some .stopped, order := .hold } ∧
          t.timers.get (.clamp st) = cancelledRec (s.timers.get (.clamp st)) ∧
          .posting .clampFault (.station st) (.clampFault st .stopped (s.clamp st).state (s.clamp st).jaw
            (s.clamp st).force (s.clamp st).holding) ∈ t.notices
        else t.clamp st = s.clamp st ∧ t.timers.get (.clamp st) = s.timers.get (.clamp st)) ∧
  (∀ (s : State) (st : StationId) (rest : List Notice) (c : Clamp),
    waits s (fun n => n == .lost (.clamp st)) (.lost (.clamp st)) rest → c = { s.clamp st with condition := .lost } →
    ∃ t, exec (.clampLost st) s = .next t ∧ onlyChanges [.clamps, .timers] s t ∧
      t.clamps = { s.clamps with recs := s.clamps.recs.set st (t.clamp st) } ∧
      (c.state = .opened ∨ c.state = .faulted → t.clamp st = c ∧ t.timers = s.timers ∧ t.notices = rest) ∧
      (c.state = .closing ∨ c.state = .opening ∨ c.state = .closed → clampFaults s t rest st c .lost) ∧
      (c.state = .closed → Notice.clampFailed st ∈ t.notices)) ∧
  (∀ (s : State) (st : StationId) (jaw : Jaw) (force holding : Nat) (rest : List Notice),
    waits s (isRegained (.clamp st)) (.regained (.clamp st) (.clamp jaw force holding)) rest →
    ∃ t, exec (.clampRegained st) s = .next t ∧ t.notices = rest ∧ onlyChanges [.clamps] s t ∧
      t.clamps = { s.clamps with recs := s.clamps.recs.set st (t.clamp st) } ∧
      t.clamp st =
        { s.clamp st with condition := .active, jaw := some jaw, force := some force, holding := some holding }) ∧
  (∀ (s : State) (outs : List (Role × CycleOutcome)) (rest : List Notice),
    waits s (isLoopUp .clamps) (.loopUp .clamps outs) rest →
    ∃ t, exec .clampLoopUp s = .next t ∧ handsOn rest t ∧ onlyChanges [.clamps, .timers] s t ∧ t.clamps.loopUp = true ∧
      t.clamps.view = s.clamps.view ∧
      ∀ st, (t.clamp st).condition = .active ∧
        (∀ jaw force holding, outcomeOf outs (.clamp st) = some (.good (.clamp jaw force holding)) →
          (t.clamp st).jaw = some jaw ∧ (t.clamp st).force = some force ∧ (t.clamp st).holding = some holding ∧
          (jaw = .atClosed → holding ≤ force → (t.clamp st).state = .closed ∧ (t.clamp st).order = .close) ∧
          (jaw = .atOpen → (t.clamp st).state = .opened ∧ (t.clamp st).order = .opened) ∧
          (jaw = .between ∨ (jaw = .atClosed ∧ force < holding) →
            (t.clamp st).state = .faulted ∧ (t.clamp st).cause = some .recovered ∧ (t.clamp st).order = .hold)) ∧
        (∀ e, outcomeOf outs (.clamp st) = some (.failed e) →
          (t.clamp st).state = .faulted ∧ (t.clamp st).cause = some .recovered ∧ (t.clamp st).order = .hold))

/-! ### Wheel heads (section 5.6) -/

/-- A task handed to a head is taken by the head's state, the zone and the stop chain: a PARKED head starts it, keeps it
PAUSED under a breached zone, or drops it under a broken chain; a RETURNING head keeps it as its pending task; a PAUSED
head starts the remainder; a FAULTED head drops it (R102, R103). A PAUSED head stays halted unless the zone is clear and
the chain healthy, and a working head ignores a task: the model's choices of log entry 13. -/
def Obligations.TasksTakenByHeadState : Prop :=
  ∀ (s : State) (h : HeadId) (k : HeadTask) (rest : List Notice), waits s (isTask h) (.task h k) rest →
    ∃ t, exec (.taskHanded h) s = .next t ∧ t.notices = rest ∧ onlyHead s t h ∧ onlyChanges [.heads, .timers] s t ∧
      (s.zone.stop = .healthy → s.zone.zone = .clear → (s.head h).state = .parked ∨ (s.head h).state = .paused →
        t.head h = { s.head h with state := taskState k, task := some k, order := taskOrder k } ∧
        t.timers = s.timers.set (.head h)
          (startedRec s.timers.gateOpen (.head h) (s.timers.get (.head h)) (s.settings.headTimeout * 100))) ∧
      (s.zone.stop = .healthy → s.zone.zone = .breached → (s.head h).state = .parked →
        t.head h = { s.head h with state := .paused, task := some k, order := .halt } ∧ t.timers = s.timers) ∧
      (s.zone.stop = .broken → (s.head h).state = .parked → t.head h = s.head h ∧ t.timers = s.timers) ∧
      ((s.head h).state = .returning → t.head h = { s.head h with pendingTask := some k } ∧ t.timers = s.timers) ∧
      ((s.head h).state = .paused → s.zone.stop = .broken ∨ s.zone.zone = .breached →
        t.head h = { s.head h with task := some k } ∧ t.timers = s.timers) ∧
      ((s.head h).state = .faulted ∨ headWorking (s.head h).state = true → t.head h = s.head h ∧ t.timers = s.timers)

/-- A good report of a working or PAUSED head is recorded; at a station with an operation in hand its samples go to the
Trace Unit, its cursor, a pass completion and a task's completion to the station. A pass completion wears the insert,
whose count stays at the insert life and posts INSERT-DUE there; a report of progress restarts a working head's channel
and never a PAUSED one's; a task-complete mark sends the head RETURNING (R104 to R106, R108). At a station whose operation
has been abandoned nothing is handed on (R98); that this holds from the abandon on, before the withdrawal reaches the
head, is the model's choice (log entry 14). So is the station's record of the cursor, which changes with the head's report
(log entry 15). -/
def Obligations.HeadReportsAdvanceWork : Prop :=
  ∀ (s : State) (h : HeadId) (r : HeadReadings) (rest : List Notice) (k : HeadTask) (moved : Bool),
    waits s (isReport (.head h)) (.report (.head h) (.head r)) rest →
    headWorking (s.head h).state = true ∨ (s.head h).state = .paused → (s.head h).task = some k →
    moved = (((s.head h).latest.bind (·.cursor)) != r.cursor || r.passDone.isSome || r.taskDone) →
    ∃ t, exec (.headReport h) s = .next t ∧ handsOn rest t ∧ onlyHead s t h ∧
      onlyChanges [.heads, .timers, .stations] s t ∧ (t.head h).latest = some (latestOf r) ∧
      (∀ st, t.station st = { s.station st with cursor := (t.station st).cursor }) ∧
      (∀ st d, (t.station st).cursor.get d =
        if st = h.station ∧ d = h.side ∧ r.cursor.isSome = true ∧ operationInHand s h.station = true then r.cursor
        else (s.station st).cursor.get d) ∧
      (t.head h).insertCount = (if r.passDone.isSome = true ∧ (s.head h).insertCount < s.settings.insertLife then
        (s.head h).insertCount + 1 else (s.head h).insertCount) ∧
      (∀ n ∈ insertDuePosted s h r.passDone, n ∈ t.notices) ∧
      (operationInHand s h.station = true →
        (∀ n, r.passDone = some n → .passDone h n ∈ t.notices) ∧
        (∀ start, k = .walk start → r.samples ≠ [] ∨ r.backFace.isSome = true →
          .traceSamples h r.samples r.backFace ∈ t.notices) ∧
        (∀ m start, k = .scan m start → r.samples ≠ [] ∨ r.cursor.isSome = true →
          .scanSamples h r.samples r.cursor ∈ t.notices) ∧
        (r.taskDone = true → .taskDone h (taskKind k) ∈ t.notices)) ∧
      (operationInHand s h.station = false → t.notices = rest ++ insertDuePosted s h r.passDone) ∧
      (r.taskDone = true → (t.head h).state = .returning ∧ (t.head h).order = .ret ∧ (t.head h).task = none ∧
        (t.timers.get (.head h)).remaining = s.settings.headTimeout * 100) ∧
      (r.taskDone = false → (t.head h).state = (s.head h).state ∧
        (headWorking (s.head h).state = true → moved = true → t.timers = s.timers.set (.head h)
          (startedRec s.timers.gateOpen (.head h) (s.timers.get (.head h)) (s.settings.headTimeout * 100))) ∧
        (moved = false ∨ (s.head h).state = .paused → t.timers = s.timers))

/-- A RETURNING head that reports parked becomes PARKED with its channel cancelled, and one with no pending task stays
so, while a pending task is then taken as a PARKED head takes one: started with its channel, kept PAUSED under a
breached zone, or dropped under a broken chain (R103, R106). In RETURNING, PARKED and FAULTED a pass completion still
wears the insert, INSERT-DUE is posted where that calls for it, and nothing else is handed on (R106, R108). The first
cycle after the roles are assigned derives each head: PARKED where its report is parked, FAULTED with cause RECOVERED
otherwise, a failed first cycle included; conditions are ACTIVE, tasks are gone, orders are HALT, and the insert counts
stay (R102). That the channels stay then, and that a pass completion in that first report does not wear the insert, are the
model's choices (log entries 51 and 15). -/
def Obligations.HeadsParkAndDerive : Prop :=
  (∀ (s : State) (h : HeadId) (r : HeadReadings) (rest : List Notice),
    waits s (isReport (.head h)) (.report (.head h) (.head r)) rest →
    (s.head h).state = .returning ∨ (s.head h).state = .parked ∨ (s.head h).state = .faulted →
    (s.head h).pendingTask = none ∨ (s.head h).state ≠ .returning ∨ r.status ≠ .atPark →
    ∃ t, exec (.headReport h) s = .next t ∧ t.notices = rest ++ insertDuePosted s h r.passDone ∧ onlyHead s t h ∧
      onlyChanges [.heads, .timers] s t ∧
      (t.head h).latest = some (latestOf r) ∧
      (t.head h).insertCount = (if r.passDone.isSome = true ∧ (s.head h).insertCount < s.settings.insertLife then
        (s.head h).insertCount + 1 else (s.head h).insertCount) ∧
      ((s.head h).state = .returning → r.status = .atPark →
        (t.head h).state = .parked ∧ (t.head h).order = .halt ∧
        t.timers = s.timers.set (.head h) (cancelledRec (s.timers.get (.head h)))) ∧
      ((s.head h).state ≠ .returning ∨ r.status ≠ .atPark →
        (t.head h).state = (s.head h).state ∧ (t.head h).order = (s.head h).order ∧ t.timers = s.timers)) ∧
  (∀ (s : State) (h : HeadId) (r : HeadReadings) (rest : List Notice) (k : HeadTask),
    waits s (isReport (.head h)) (.report (.head h) (.head r)) rest →
    (s.head h).state = .returning → r.status = .atPark → (s.head h).pendingTask = some k →
    ∃ t, exec (.headReport h) s = .next t ∧ t.notices = rest ++ insertDuePosted s h r.passDone ∧ onlyHead s t h ∧
      onlyChanges [.heads, .timers] s t ∧ (t.head h).latest = some (latestOf r) ∧ (t.head h).pendingTask = none ∧
      (s.zone.stop = .healthy → s.zone.zone = .clear →
        (t.head h).state = taskState k ∧ (t.head h).task = some k ∧ (t.head h).order = taskOrder k ∧
        t.timers = s.timers.set (.head h) (startedRec s.timers.gateOpen (.head h)
          (cancelledRec (s.timers.get (.head h))) (s.settings.headTimeout * 100))) ∧
      (s.zone.stop = .healthy → s.zone.zone = .breached →
        (t.head h).state = .paused ∧ (t.head h).task = some k ∧ (t.head h).order = .halt ∧
        t.timers = s.timers.set (.head h) (cancelledRec (s.timers.get (.head h)))) ∧
      (s.zone.stop = .broken → (t.head h).state = .parked ∧ (t.head h).task = (s.head h).task ∧ (t.head h).order = .halt ∧
        t.timers = s.timers.set (.head h) (cancelledRec (s.timers.get (.head h))))) ∧
  (∀ (s : State) (outs : List (Role × CycleOutcome)) (rest : List Notice),
    waits s (isLoopUp .heads) (.loopUp .heads outs) rest →
    ∃ t, exec .headLoopUp s = .next t ∧ t.notices = rest ∧ onlyChanges [.heads] s t ∧ t.heads.loopUp = true ∧
      t.heads.view = s.heads.view ∧
      ∀ h, (t.head h).condition = .active ∧ (t.head h).task = none ∧ (t.head h).pendingTask = none ∧
        (t.head h).order = .halt ∧ (t.head h).insertCount = (s.head h).insertCount ∧
        (∀ r, outcomeOf outs (.head h) = some (.good (.head r)) →
          (t.head h).latest = some (latestOf r) ∧
          (r.status = .atPark → (t.head h).state = .parked ∧ (t.head h).cause = none) ∧
          (r.status ≠ .atPark → (t.head h).state = .faulted ∧ (t.head h).cause = some .recovered)) ∧
        (∀ e, outcomeOf outs (.head h) = some (.failed e) →
          (t.head h).state = .faulted ∧ (t.head h).cause = some .recovered))

/-- A current expiry of a working or RETURNING head faults it with cause TIMEOUT and leaves any other head; the loss of its
node sets it LOST and faults it, but for a PARKED head whose station has no operation in hand; a regained node is ACTIVE
with its report recorded and its state kept (R104, R107). That a completion mark in a regained node's report is recorded and
not acted on, so that the insert count stays, is the model's choice (log entry 15). -/
def Obligations.HeadsFaultByCause : Prop :=
  (∀ (s : State) (h : HeadId) (rest : List Notice),
    waits s (isExpiry (.head h)) (.expiry (.head h) (s.timers.get (.head h)).count) rest →
    ∃ t, exec (.headTimerExpiry h) s = .next t ∧ onlyHead s t h ∧ onlyChanges [.heads, .timers] s t ∧
      if headWorking (s.head h).state = true ∨ (s.head h).state = .returning then
        headFaults s t rest h (s.head h) .timeout
      else t.head h = s.head h ∧ t.timers = s.timers ∧ t.notices = rest) ∧
  (∀ (s : State) (h : HeadId) (rest : List Notice) (c : Head),
    waits s (fun n => n == .lost (.head h)) (.lost (.head h)) rest → c = { s.head h with condition := .lost } →
    ∃ t, exec (.headLost h) s = .next t ∧ onlyHead s t h ∧ onlyChanges [.heads, .timers] s t ∧
      if c.state = .parked ∧ operationInHand s h.station = false then t.head h = c ∧ t.timers = s.timers ∧ t.notices = rest
      else headFaults s t rest h c .lost) ∧
  (∀ (s : State) (h : HeadId) (r : HeadReadings) (rest : List Notice),
    waits s (isRegained (.head h)) (.regained (.head h) (.head r)) rest →
    ∃ t, exec (.headRegained h) s = .next t ∧ t.notices = rest ∧ onlyHead s t h ∧ onlyChanges [.heads] s t ∧
      t.head h = { s.head h with condition := .active, latest := some (latestOf r) })

/-- The breach notice at all four heads, and a station's halt notice at its two, take each working head to PAUSED with its
task kept, order HALT and its channel cancelled, drop every pending task, and leave the other heads' states (R105). The break
notice at all four heads, and a station's withdraw notice at its two, take each working or PAUSED head to RETURNING with order
RETURN, no task and its channel started, and drop a pending task everywhere reached (R107). Every withdraw notice of a station
that waits to be taken is taken so, whatever the states of its two heads, and the other station's heads stay (R107). That Head
Control's view then shows the Zone Monitor's state as it stands when a breach or break notice is taken is the model's choice
(log entry 9). -/
def Obligations.HaltsAndWithdrawalsReachHeads : Prop :=
  (∀ (s : State) (c : Instr) (n : Notice) (rest : List Notice) (reached : HeadId → Prop), waits s (fun m => m == n) n rest →
    ((c = .headBreachNotice ∧ n = .headBreach ∧ ∀ h, reached h) ∨
      (∃ st, c = .haltNotice st ∧ n = .halt st ∧ ∀ h, reached h ↔ h.station = st)) →
    ∃ t, exec c s = .next t ∧ t.notices = rest ∧ onlyChanges [.heads, .timers] s t ∧ t.heads.loopUp = s.heads.loopUp ∧
      t.heads.view = (if c = .headBreachNotice then { s.heads.view with zone := s.zone.zone } else s.heads.view) ∧
      ∀ h,
        (reached h → headWorking (s.head h).state = true →
          t.head h = { s.head h with state := .paused, order := .halt, pendingTask := none } ∧
          t.timers.get (.head h) = cancelledRec (s.timers.get (.head h))) ∧
        (reached h → headWorking (s.head h).state = false →
          t.head h = { s.head h with pendingTask := none } ∧ t.timers.get (.head h) = s.timers.get (.head h)) ∧
        (¬ reached h → t.head h = s.head h ∧ t.timers.get (.head h) = s.timers.get (.head h))) ∧
  (∀ (s : State) (c : Instr) (n : Notice) (rest : List Notice) (reached : HeadId → Prop), waits s (fun m => m == n) n rest →
    ((c = .headBreakNotice ∧ n = .headBreak ∧ ∀ h, reached h) ∨
      (∃ st, c = .withdrawNotice st ∧ n = .withdraw st ∧ ∀ h, reached h ↔ h.station = st)) →
    ∃ t, exec c s = .next t ∧ t.notices = rest ∧ onlyChanges [.heads, .timers] s t ∧ t.heads.loopUp = s.heads.loopUp ∧
      t.heads.view = (if c = .headBreakNotice then { s.heads.view with stop := s.zone.stop } else s.heads.view) ∧
      ∀ h,
        (reached h → headWorking (s.head h).state = true ∨ (s.head h).state = .paused →
          t.head h = { s.head h with state := .returning, order := .ret, task := none, pendingTask := none } ∧
          t.timers.get (.head h) =
            startedRec s.timers.gateOpen (.head h) (s.timers.get (.head h)) (s.settings.headTimeout * 100)) ∧
        (reached h → headWorking (s.head h).state = false → (s.head h).state ≠ .paused →
          t.head h = { s.head h with pendingTask := none } ∧ t.timers.get (.head h) = s.timers.get (.head h)) ∧
        (¬ reached h → t.head h = s.head h ∧ t.timers.get (.head h) = s.timers.get (.head h))) ∧
  (∀ (s : State) (st : StationId) (rest : List Notice),
    waits s (fun m => m == .withdraw st) (.withdraw st) rest →
    ∃ t, exec (.withdrawNotice st) s = .next t ∧ t.notices = rest ∧ onlyChanges [.heads, .timers] s t ∧
      t.heads.loopUp = s.heads.loopUp ∧ t.heads.view = s.heads.view ∧
      ∀ d : Side,
        t.head ⟨otherStation st, d⟩ = s.head ⟨otherStation st, d⟩ ∧
        t.timers.get (.head ⟨otherStation st, d⟩) = s.timers.get (.head ⟨otherStation st, d⟩) ∧
        if headWorking (s.head ⟨st, d⟩).state = true ∨ (s.head ⟨st, d⟩).state = .paused then
          t.head ⟨st, d⟩ = { s.head ⟨st, d⟩ with state := .returning, order := .ret, task := none, pendingTask := none } ∧
          t.timers.get (.head ⟨st, d⟩) = startedRec s.timers.gateOpen (.head ⟨st, d⟩) (s.timers.get (.head ⟨st, d⟩))
            (s.settings.headTimeout * 100)
        else
          t.head ⟨st, d⟩ = { s.head ⟨st, d⟩ with pendingTask := none } ∧
          t.timers.get (.head ⟨st, d⟩) = s.timers.get (.head ⟨st, d⟩))

/-- INSERT CHANGED on a PARKED head sets its insert pass count to 0, which a loss of power keeps, and answers DONE with the
count before; in any other state it is refused WRONG-STATE. It needs neither the loop nor a clear zone, and it removes no
attention item (R109). -/
def Obligations.InsertChangedResetsCount : Prop :=
  ∀ (s : State) (f : Frame) (b : Byte) (h : HeadId), asks s f 32 [b] → headOf b = some h →
    ((s.head h).state = .parked →
      ∃ t u, exec .insertChanged s = .next t ∧ answered s f t (.done (.insertCount (s.head h).insertCount)) ∧
        t.head h = { s.head h with insertCount := 0 } ∧ onlyHead s t h ∧ t.notices = s.notices ∧
        onlyChanges [.link, .heads] s t ∧ exec .powerLoss t = .next u ∧ (u.head h).insertCount = 0) ∧
    ((s.head h).state ≠ .parked →
      ∃ t, exec .insertChanged s = .next t ∧ answered s f t (.refused .wrongState .none) ∧ t.notices = s.notices ∧
        onlyChanges [.link] s t)

/-! ### Stations (chapter 5) -/

/-- MOUNT with its conditions met makes the serial the occupant of a MOUNTED station, the reservation, recut count and pass
progress 0, and answers DONE; with a condition failing it is refused with that condition's reason (R93). DISMOUNT of a station
at rest with its clamp OPEN leaves it VACANT with every non-volatile field cleared and its trace and scan results gone, and
answers DONE; it posts nothing, but where a cut in hand is interrupted that entry is written, the record lowered and
CUT-STOPPED posted (R94, R100, R181). The other station keeps its occupant; where it holds a share of the same joint plan and
is PLANNED or HELD with no cut in hand it becomes TRACED with no share, and otherwise it keeps its work and its share (R94).
Not at rest DISMOUNT is refused WRONG-STATE, and with the clamp not OPEN, CLAMP-NOT-OPEN. That the same joint plan is judged
by the share that the station held when DISMOUNT was taken is the model's choice (log entry 20). -/
def Obligations.MountAndDismount : Prop :=
  (∀ (s : State) (f : Frame) (body : Bytes) (st : StationId) (serial : Serial), asks s f 19 body →
    parseMount body = some (st, serial) →
    (firstFailing (mountConditions s st serial) = none →
      ∃ t, exec .mount s = .next t ∧ answered s f t (.done .empty) ∧ onlyStation s t st ∧
        t.station st = { s.station st with
          occupant := some serial, work := .mounted, reservation := 0, recuts := 0, progress := noProgress, prior := none
          held := none } ∧
        handsOn s.notices t ∧ onlyChanges [.link, .stations] s t) ∧
    (∀ r, firstFailing (mountConditions s st serial) = some r →
      ∃ t, exec .mount s = .next t ∧ answered s f t (.refused r .none) ∧ t.notices = s.notices ∧ onlyChanges [.link] s t)) ∧
  (∀ (s : State) (f : Frame) (b : Byte) (st : StationId) (o : Station) (idle : Prop), asks s f 20 [b] →
    stationOf b = some st → o = s.station (otherStation st) →
    (idle ↔ ((s.station st).plan ≠ none ∧ o.plan = (s.station st).plan ∧ (o.work = .planned ∨ o.work = .held) ∧
      o.reservation = 0)) →
    (dismountable (s.station st).work = true → (s.clamp st).state = .opened →
      ∃ t, exec .dismount s = .next t ∧
        (idle → t.station (otherStation st) = { o with work := .traced, held := none, plan := none }) ∧
        (¬ idle → (t.station (otherStation st)).work = o.work ∧
          ∀ y, o.plan = (s.station st).plan → shareOf s (otherStation st) = some y → y.outcome ≠ .condemned →
            shareOf t (otherStation st) = some y)) ∧
    (dismountable (s.station st).work = true → (s.clamp st).state = .opened → (s.station st).reservation = 0 →
      ∃ t, exec .dismount s = .next t ∧ answered s f t (.done .empty) ∧
        t.station st = { vacantStation with view := (s.station st).view } ∧ t.traceUnit st = emptyTrace ∧
        t.traceUnit (otherStation st) = s.traceUnit (otherStation st) ∧
        (t.station (otherStation st)).occupant = (s.station (otherStation st)).occupant ∧
        onlyViews s.notices t ∧ onlyChanges [.link, .stations, .traces, .planner] s t) ∧
    (dismountable (s.station st).work = true → (s.clamp st).state = .opened → 0 < (s.station st).reservation →
      ∃ t, exec .dismount s = .next t ∧ answered s f t (.done .empty) ∧
        t.station st = { vacantStation with view := (s.station st).view } ∧ t.traceUnit st = emptyTrace ∧
        t.traceUnit (otherStation st) = s.traceUnit (otherStation st) ∧
        (t.station (otherStation st)).occupant = (s.station (otherStation st)).occupant ∧
        (∀ r, (s.station st).occupant = some r.serial → findRecord s.history r.serial = some r →
          cutInterrupted t (s.station st) .host r (s.history.counter + 1) s.clock) ∧
        handsOn s.notices t ∧ .posting .cutStopped (.station st) (.cutAbandoned true .host (s.station st).progress) ∈ t.notices ∧
        onlyChanges [.link, .stations, .traces, .planner, .history] s t) ∧
    (dismountable (s.station st).work = false →
      ∃ t, exec .dismount s = .next t ∧ answered s f t (.refused .wrongState .none) ∧ t.notices = s.notices ∧
        onlyChanges [.link] s t) ∧
    (dismountable (s.station st).work = true → (s.clamp st).state ≠ .opened →
      ∃ t, exec .dismount s = .next t ∧ answered s f t (.refused .clampNotOpen .none) ∧ t.notices = s.notices ∧
        onlyChanges [.link] s t))

/-- STATION PAUSE of a working station, and the breach notice at one, make it PAUSED with its operation kept, hand Head
Control a halt notice, and post CUT-STOPPED paused with the cause, the operation, the cursors and the progress; in any
other state the request is refused WRONG-STATE and the notice changes the station's view alone (R96). STATION RESUME of a
PAUSED station with the motion conditions met takes it back to the work of its operation and hands each head whose part is
not complete the remainder of its task from its cursor; with both parts complete the operation goes on to its next phase
or its end: a trace completes, a survey completes, a cut begins its verify, a verify ends HELD or FINISHED; otherwise it
is refused with the first reason, WRONG-STATE where the station is not PAUSED (R95, R97). The view that shows the zone as
it stands when the notice is taken and the passes that remain of a cut are the model's choices (log entries 9 and 22). So
are the completed operation's cursors and part marks, cleared in the next phase or the end; the index 70 of the cursor of
DATUM where a verify begins; the partner of a JOINT plan reported as OWN and an EMPTY place as not needed; and the
revisions, counted once a change (log entries 16, 17, 29 and 19). -/
def Obligations.PauseAndResume : Prop :=
  (∀ (s : State) (f : Frame) (b : Byte) (st : StationId) (x : Station) (d : PauseData), asks s f 26 [b] →
    stationOf b = some st → x = s.station st →
    d = { byZone := false, operation := x.operation, cursors := x.cursor, progress := x.progress } →
    (stationWorking x.work = true →
      ∃ t, exec .stationPause s = .next t ∧ answered s f t (.done (.paused d)) ∧ onlyStation s t st ∧
        t.station st = { x with work := .paused } ∧
        handsOn (s.notices ++ [.halt st, .posting .cutStopped (.station st) (.cutPaused d)]) t ∧
        onlyChanges [.link, .stations] s t) ∧
    (stationWorking x.work = false →
      ∃ t, exec .stationPause s = .next t ∧ answered s f t (.refused .wrongState .none) ∧ t.notices = s.notices ∧
        onlyChanges [.link] s t)) ∧
  (∀ (s : State) (st : StationId) (rest : List Notice) (x : Station) (d : PauseData),
    waits s (fun n => n == .stationBreach st) (.stationBreach st) rest →
    x = { s.station st with view := { (s.station st).view with zone := s.zone.zone } } →
    d = { byZone := true, operation := x.operation, cursors := x.cursor, progress := x.progress } →
    ∃ t, exec (.stationBreachNotice st) s = .next t ∧ onlyStation s t st ∧ onlyChanges [.stations] s t ∧
      if stationWorking x.work = true then
        t.station st = { x with work := .paused } ∧
          handsOn (rest ++ [.halt st, .posting .cutStopped (.station st) (.cutPaused d)]) t
      else t.station st = x ∧ t.notices = rest) ∧
  (∀ (s : State) (f : Frame) (b : Byte) (st : StationId) (op : Operation), asks s f 27 [b] → stationOf b = some st →
    (s.station st).work = .paused → (s.station st).operation = some op →
    (firstFailing (motionConditions s st headResumable) = none → bothComplete (s.station st) = false →
      ∃ t, exec .stationResume s = .next t ∧ answered s f t .started ∧ onlyStation s t st ∧
        (t.station st).work = resumedState op ∧
        t.station st = { s.station st with work := (t.station st).work, cursor := (t.station st).cursor } ∧
        (∀ d, ((s.station st).part.get d = true → (t.station st).cursor.get d = (s.station st).cursor.get d) ∧
          ((s.station st).part.get d = false → .task ⟨st, d⟩ (remainder s st op d) ∈ t.notices ∧
            handedTask (t.station st) d (remainder s st op d))) ∧
        handsOn s.notices t ∧ onlyChanges [.link, .stations] s t) ∧
    (firstFailing (motionConditions s st headResumable) = none → bothComplete (s.station st) = true → op = .cut →
      ∃ t, exec .stationResume s = .next t ∧ answered s f t .started ∧ verifyBegins s t st (s.station st) ∧
        handsOn s.notices t ∧ onlyChanges [.link, .stations, .traces] s t) ∧
    (∀ ws r, firstFailing (motionConditions s st headResumable) = none → bothComplete (s.station st) = true → op = .trace →
      (s.traceUnit st).walk = some ws → (s.station st).occupant = some r.serial →
      findRecord s.history r.serial = some r →
      ∃ t, exec .stationResume s = .next t ∧ answered s f t .started ∧ traceCompletes s t st (s.station st) ws r ∧
        handsOn s.notices t ∧ onlyChanges [.link, .stations, .traces, .history] s t) ∧
    (∀ y, firstFailing (motionConditions s st headResumable) = none → bothComplete (s.station st) = true → op = .survey →
      (s.traceUnit st).scan = some y →
      ∃ t, exec .stationResume s = .next t ∧ answered s f t .started ∧ surveyCompletes s t st (s.station st) y ∧
        handsOn s.notices t ∧ onlyChanges [.link, .stations, .traces] s t) ∧
    (∀ y, firstFailing (motionConditions s st headResumable) = none → bothComplete (s.station st) = true → op = .verify →
      (s.traceUnit st).scan = some y →
      (¬ (y.wheels.l.result = .conform ∧ y.wheels.r.result = .conform) →
        ∃ t, exec .stationResume s = .next t ∧ answered s f t .started ∧ verifyHolds s t st (s.station st) y ∧
          handsOn s.notices t ∧ onlyChanges [.link, .stations, .traces] s t) ∧
      (∀ p ys ws r, y.wheels.l.result = .conform → y.wheels.r.result = .conform → shareParts s st = some (p, ys, ws) →
        (s.station st).occupant = some r.serial → findRecord s.history r.serial = some r →
        ∃ t fates, exec .stationResume s = .next t ∧ answered s f t .started ∧
          finishes s t st { s.station st with results := some y } p ys ws r fates ∧
          handsOn s.notices t ∧ onlyChanges [.link, .stations, .traces, .planner, .history] s t)) ∧
    (∀ r, firstFailing (motionConditions s st headResumable) = some r →
      ∃ t, exec .stationResume s = .next t ∧ answered s f t (.refused r .none) ∧ t.notices = s.notices ∧
        onlyChanges [.link] s t)) ∧
  (∀ (s : State) (f : Frame) (b : Byte) (st : StationId), asks s f 27 [b] → stationOf b = some st →
    (s.station st).work ≠ .paused →
    ∃ t, exec .stationResume s = .next t ∧ answered s f t (.refused .wrongState .none) ∧ t.notices = s.notices ∧
      onlyChanges [.link] s t)

/-- STATION ABANDON of a station with an operation in hand, and each notice that forces an abandon, hand the heads a
withdraw notice and end the operation: a trace or survey goes back to its prior state with its samples gone and TRACE-END
failed posted, a verify leaves the station HELD UNVERIFIED with CUT-STOPPED posted and its scan records as the last scan
results, marked abandoned and an unfinished wheel UNFINISHED (R142), and a cut leaves it MOUNTED, its record lowered with the
CUT-INTERRUPTED entry and then judged against the station's deferred ceiling (R181); without an operation in hand the request
is refused WRONG-STATE and the notice leaves the station's work (R98 to R100). That the station's view then
shows the stop chain as it stands when the break notice is taken, and that results still under way from the heads are gone
with the abandon, are the model's choices (log entries 9 and 14). -/
def Obligations.AbandonsEndTheOperation : Prop :=
  (∀ (s : State) (f : Frame) (b : Byte) (st : StationId), asks s f 28 [b] → stationOf b = some st →
    (∀ op, operationInHand s st = true → (s.station st).operation = some op →
      ∃ t, exec .stationAbandon s = .next t ∧ answered s f t (.done (.stationState (t.station st).work)) ∧
        abandons s t st op .host ∧ onlyChanges [.link, .stations, .traces, .planner, .history] s t) ∧
    (operationInHand s st = false →
      ∃ t, exec .stationAbandon s = .next t ∧ answered s f t (.refused .wrongState .none) ∧ t.notices = s.notices ∧
        onlyChanges [.link] s t)) ∧
  (∀ (s u : State) (st : StationId) (c : Instr) (n : Notice) (cause : AbandonCause) (rest : List Notice),
    waits s (fun m => m == n) n rest → u = s.setNotices rest →
    ((c = .stationBreakNotice st ∧ n = .stationBreak st ∧ cause = .stopped) ∨
      (c = .liftFaultedNotice st ∧ n = .liftFaulted st ∧ cause = .lift) ∨
      (c = .clampFailedNotice st ∧ n = .clampFailed st ∧ cause = .clamp) ∨
      (c = .headFailedNotice st ∧ n = .headFailed st ∧ cause = .head)) →
    ∃ t, exec c s = .next t ∧ onlyChanges [.stations, .traces, .planner, .history] s t ∧
      (∀ op, operationInHand s st = true → (s.station st).operation = some op → abandons u t st op cause) ∧
      (operationInHand s st = false → t.notices = rest ∧ onlyStation s t st ∧ t.traces = s.traces ∧
        t.station st = { s.station st with
          view := if c = .stationBreakNotice st then { (s.station st).view with stop := s.zone.stop }
            else (s.station st).view }))

/-! ### Tracing and scans (chapters 6 and 7) -/

/-- TRACE with its conditions met records the prior state (TRACED for PLANNED and HELD), discards the station's share, an
idle partner of the same joint plan becoming TRACED with no share and no PLAN-END posted, takes the trace claim, begins two new records beside the trace held, and hands both heads a walk from lateral point 0 (R111 to
R113, R116). SURVEY with its conditions met records the prior state, begins a survey scan with the slot to compare with, and
hands both heads a scan from DATUM; the trace, the plan and the record stay (R144). With a condition failing either is refused
with that condition's reason and detail. That the cursor of DATUM carries index 70 is the model's choice (log entry 17). -/
def Obligations.TraceAndSurveyBegin : Prop :=
  (∀ (s : State) (f : Frame) (b : Byte) (st : StationId) (cs : List (Bool × (Reason × RefusalDetail))), asks s f 21 [b] →
    stationOf b = some st →
    cs = plain ((traceable (s.station st), .wrongState) :: motionConditions s st headParked) ++ [roomFor s 1] →
    (firstFailing cs = none →
      ∃ t, exec .trace s = .next t ∧ answered s f t .started ∧ (t.station st).work = .tracing ∧
        (t.station st).operation = some .trace ∧ (t.station st).claim = true ∧ (t.station st).held = none ∧
        (t.station st).plan = none ∧ (t.station st).results = (s.station st).results ∧ partnerShareLeft s t st ∧
        (∀ src d, .posting .planEnd src d ∈ t.notices → .posting .planEnd src d ∈ s.notices) ∧
        (t.station st).prior = some
          (if (s.station st).work = .planned ∨ (s.station st).work = .held then .traced else (s.station st).work) ∧
        t.traces = s.traces.set st { s.traceUnit st with walk := some (.both newTraceRecord) } ∧
        (∀ d, .task ⟨st, d⟩ (.walk (.point .lateral 0)) ∈ t.notices ∧
          handedTask (t.station st) d (.walk (.point .lateral 0))) ∧
        handsOn s.notices t ∧ onlyChanges [.link, .stations, .traces, .planner] s t) ∧
    (∀ r, firstFailing cs = some r →
      ∃ t, exec .trace s = .next t ∧ answered s f t (.refused r.1 r.2) ∧ t.notices = s.notices ∧ onlyChanges [.link] s t)) ∧
  (∀ (s : State) (f : Frame) (body : Bytes) (st : StationId) (p : Option Nat), asks s f 22 body →
    parseSurvey body = some (st, p) →
    (firstFailing (surveyConditions s st p) = none →
      ∃ t, exec .survey s = .next t ∧ answered s f t .started ∧ onlyStation s t st ∧ (t.station st).work = .scanning ∧
        (t.station st).operation = some .survey ∧ (t.station st).prior = some (s.station st).work ∧
        (t.station st).plan = (s.station st).plan ∧
        t.traces = s.traces.set st { s.traceUnit st with scan := some (newScan .survey (surveySlot s st p)) } ∧
        (∀ d, .task ⟨st, d⟩ (.scan .survey (.point .datum 70)) ∈ t.notices ∧
          handedTask (t.station st) d (.scan .survey (.point .datum 70))) ∧
        handsOn s.notices t ∧ onlyChanges [.link, .stations, .traces] s t) ∧
    (∀ r, firstFailing (surveyConditions s st p) = some r →
      ∃ t, exec .survey s = .next t ∧ answered s f t (.refused r.1 r.2) ∧ t.notices = s.notices ∧ onlyChanges [.link] s t))

/-- The samples of a walk report reach the IN-PROGRESS record of the head's wheel, each at its phase and index, the
newest reading of a point standing, and its back-face offset replaces the record's; another record takes nothing (R116).
The samples of a scan report reach the record of the head's wheel while it is IN-PROGRESS, each at its phase and index,
with the reported cursor, and are judged as far as they allow (R138): a GOOD DATUM sample sets the datum to its radius,
one that is SATURATED or NO-CONTACT, or a cursor past the DATUM phase with none stored, sets it to FAILED, and once set
it stands (R139). With the datum set, the point at the judgment cursor is judged when its sample is stored or the
reported cursor lies beyond it, and so on from point to point: one without a GOOD sample is skipped; a GOOD one's
deviation is its height over the datum less its reference, and outside the band it is LOW or HIGH; in verify mode the
first such point ends the judgment, in survey mode the judgment goes on and counts them (R140, R143). That the DATUM
sample is the one of index 70 is the model's choice (log entry 17). -/
def Obligations.SamplesStoredAndJudged : Prop :=
  (∀ (s : State) (h : HeadId) (xs : List Sample) (b : Option Geometry) (rest : List Notice) (ws : PerSide TraceRecord),
    waits s (isTraceSamples h) (.traceSamples h xs b) rest → (s.traceUnit h.station).walk = some ws →
    ∃ t w, exec (.traceSamples h) s = .next t ∧ t.notices = rest ∧ onlyChanges [.traces] s t ∧
      t.traces = s.traces.set h.station { s.traceUnit h.station with walk := some (ws.set h.side w) } ∧
      w.status = (ws.get h.side).status ∧ w.results = (ws.get h.side).results ∧
      ((ws.get h.side).status ≠ .inProgress → w = ws.get h.side) ∧
      ((ws.get h.side).status = .inProgress →
        w = { xs.foldl storeWalkSample (ws.get h.side) with backFace := b.or (ws.get h.side).backFace })) ∧
  (∀ (w : TraceRecord) (x : Sample) (i : Nat),
    sparseGet (storeWalkSample w x).lateral i =
      (if x.phase = .lateral ∧ x.index < 140 ∧ i = x.index then some { radius := x.radius, status := x.status }
       else sparseGet w.lateral i) ∧
    sparseGet (storeWalkSample w x).circ i =
      (if x.phase = .circumferential ∧ x.index < 64 ∧ i = x.index then some { radius := x.radius, status := x.status }
       else sparseGet w.circ i)) ∧
  (∀ (s : State) (h : HeadId) (xs : List Sample) (c : Option Cursor) (rest : List Notice) (x : Scan),
    waits s (isScanSamples h) (.scanSamples h xs c) rest → (s.traceUnit h.station).scan = some x →
    ∃ t, exec (.scanSamples h) s = .next t ∧ t.notices = rest ∧ onlyChanges [.traces] s t ∧
      t.traces = s.traces.set h.station { s.traceUnit h.station with scan := some { x with
        wheels := x.wheels.set h.side (storeScan x.mode (profileAt s x.slot) (x.wheels.get h.side) xs c) } }) ∧
  (∀ (w : ScanRecord) (x : Sample) (i : Nat), storeScanSample w x = { w with
      datumSample := (storeScanSample w x).datumSample, lateral := (storeScanSample w x).lateral
      circ := (storeScanSample w x).circ } ∧
    (storeScanSample w x).datumSample =
      (if x.phase = .datum ∧ x.index = 70 then some { radius := x.radius, status := x.status } else w.datumSample) ∧
    sparseGet (storeScanSample w x).lateral i =
      (if x.phase = .lateral ∧ x.index < 140 ∧ i = x.index then some { radius := x.radius, status := x.status }
       else sparseGet w.lateral i) ∧
    sparseGet (storeScanSample w x).circ i =
      (if x.phase = .circumferential ∧ x.index < 64 ∧ i = x.index then some { radius := x.radius, status := x.status }
       else sparseGet w.circ i)) ∧
  (∀ w : ScanRecord,
    (w.datum ≠ .none → takeDatum w = w) ∧
    (∀ y, w.datum = .none → w.datumSample = some y → y.status = .good → takeDatum w = { w with datum := .radius y.radius }) ∧
    (∀ y, w.datum = .none → w.datumSample = some y → y.status ≠ .good → takeDatum w = { w with datum := .failed }) ∧
    (w.datum = .none → w.datumSample = none →
      ((∃ i, w.reported = some (.point .lateral i) ∨ w.reported = some (.point .circumferential i)) →
        takeDatum w = { w with datum := .failed }) ∧
      ((∀ i, w.reported ≠ some (.point .lateral i) ∧ w.reported ≠ some (.point .circumferential i)) →
        takeDatum w = w))) ∧
  (∀ (p : Profile) (r70 : Geometry) (w : ScanRecord),
    (∀ mode, (∀ y, sparseGet w.lateral w.judged = some y → y.status ≠ .good) →
      judgePoint mode p r70 w = { w with judged := w.judged + 1, skips := w.skips + 1 }) ∧
    (∀ y dev out, sparseGet w.lateral w.judged = some y → y.status = .good →
      dev = y.radius - r70 - p.heights.getD w.judged p.pad →
      out = { index := w.judged, high := decide (0 < dev), deviation := dev } →
      (-p.band ≤ dev → dev ≤ p.band → judgePoint .verify p r70 w = { w with judged := w.judged + 1 }) ∧
      (dev < -p.band ∨ p.band < dev → judgePoint .verify p r70 w = { w with judged := 140, firstOut := some out }) ∧
      judgePoint .survey p r70 w = { w with
        judged := w.judged + 1
        firstOut := if dev < -p.band ∨ p.band < dev then w.firstOut.or (some out) else w.firstOut
        outCount := if dev < -p.band ∨ p.band < dev then w.outCount + 1 else w.outCount
        largest := some (match w.largest with
          | none => out
          | some z => if z.deviation.natAbs < dev.natAbs then out else z) })) ∧
  (∀ (mode : ScanMode) (p : Profile) (w : ScanRecord) (reached : Prop),
    (reached ↔ ((sparseGet w.lateral w.judged).isSome = true ∨
      (∃ j, w.reported = some (.point .lateral j) ∧ w.judged < j) ∨ ∃ j, w.reported = some (.point .circumferential j))) →
    (∀ r70, (takeDatum w).datum = .radius r70 → w.judged < 140 → reached →
      advanceScan mode (some p) false w = advanceScan mode (some p) false (judgePoint mode p r70 (takeDatum w))) ∧
    ((takeDatum w).datum = .none ∨ (takeDatum w).datum = .failed ∨ 140 ≤ w.judged ∨ ¬ reached →
      advanceScan mode (some p) false w = takeDatum w)) ∧
  (∀ (mode : ScanMode) (p : Option Profile) (w : ScanRecord) (xs : List Sample) (c : Option Cursor),
    (w.result = .inProgress →
      storeScan mode p w xs c = advanceScan mode p false { xs.foldl storeScanSample w with reported := c.or w.reported }) ∧
    (w.result ≠ .inProgress → storeScan mode p w xs c = w) ∧
    (∀ r, w.datum = .radius r → (storeScan mode p w xs c).datum = .radius r) ∧
    (w.judged ≤ (storeScan mode p w xs c).judged) ∧
    ((storeScan mode p w xs c).judged ≤ max w.judged 140) ∧
    (∀ q y, w.firstOut = some q → (storeScan mode p w xs c).firstOut = some y → w.judged = 140 ∨ mode = .survey → y = q))

/-- A head's walk ends: its wheel is extracted on the samples stored, and its part marked. With the other walk still out,
or the station PAUSED, nothing more happens; with both ended at a TRACING station the trace completes: it becomes the
station's trace, the claim is released, the TRACED entry joins the record, a usable trace sets the diameters and clears
RETRACE-DUE, the station is TRACED, and TRACE-END is posted (R117, R127, R128). That the completed operation's cursors and
part marks are cleared then is the model's choice (log entry 16). -/
def Obligations.WalkEndsCompleteTheTrace : Prop :=
  ∀ (s : State) (h : HeadId) (rest : List Notice) (ws : PerSide TraceRecord) (new : PerSide TraceRecord) (x : Station),
    waits s (isTaskDone h .walk) (.taskDone h .walk) rest → (s.traceUnit h.station).walk = some ws →
    new = ws.set h.side (extract s.settings.missingTolerance (ws.get h.side)) →
    x = { s.station h.station with part := (s.station h.station).part.set h.side true } →
    (bothComplete x = false ∨ x.work ≠ .tracing →
      ∃ t, exec (.walkEnd h) s = .next t ∧ t.notices = rest ∧ onlyChanges [.stations, .traces] s t ∧
        t.stations = s.stations.set h.station x ∧
        t.traces = s.traces.set h.station { s.traceUnit h.station with walk := some new }) ∧
    (∀ r, bothComplete x = true → x.work = .tracing → x.occupant = some r.serial →
      findRecord s.history r.serial = some r →
      ∃ t, exec (.walkEnd h) s = .next t ∧ traceCompletes s t h.station x new r ∧ handsOn rest t ∧
        onlyChanges [.stations, .traces, .history] s t)

/-- The extraction of a walk, in its order: a wheel without a GOOD sample at point 70 is UNRESOLVED with nothing derived; one
with more missing points in a phase than tolerated is INCOMPLETE, and one with a SATURATED circumferential sample is
SATURATED, with r70 and the two counts kept; otherwise D is twice the mean of the GOOD circumferential radii, rounded half up,
and F their spread; Sh and the tip are those of the highest of points 0 to 40, Sd is the crossing of level 1000 from the tip
and x_s that of Sh less 200, qR being Sd less x_s; the wheel is UNRESOLVED with what was derived before the step that fails,
and GOOD where none does (R117 to R123). The limit checks of a trace are made in order, each on a value that is present, and
each whose outcome selects NOTE or HOLD yields a finding with value and band; a trace without a limit set has none (R125,
R126). B is the sum of the two back-face offsets, and a trace is usable where both wheels are GOOD (R124). -/
def Obligations.ExtractionDerivesInOrder : Prop :=
  (∀ (tolerance : Nat) (w : TraceRecord),
    extract tolerance w = { w with status := (extract tolerance w).status, results := (extract tolerance w).results } ∧
    (goodRadius (sparseGet w.lateral 70) = none →
      (extract tolerance w).status = .unresolved ∧ (extract tolerance w).results = nothingDerived) ∧
    ((extract tolerance w).status = .good →
      ∃ r70 d f sh tip sd xs, (extract tolerance w).results =
          { missLateral := some (missingCount 140 w.lateral), missCirc := some (missingCount 64 w.circ), r70 := some r70
            d := some d, f := some f, sh := some sh, tip := some tip, sd := some sd, xs := some xs, qr := some (sd - xs) } ∧
        goodRadius (sparseGet w.lateral 70) = some r70 ∧ missingCount 140 w.lateral ≤ tolerance ∧
        missingCount 64 w.circ ≤ tolerance ∧ anySaturated w.circ = false ∧ tip ≤ 40 ∧ 1000 ≤ sh ∧
        heightAt w r70 tip = some sh ∧ (∀ i y, i ≤ 40 → heightAt w r70 i = some y → y ≤ sh ∧ (y = sh → tip ≤ i)) ∧
        ((2 : Int) ∣ d) ∧ 0 ≤ f) ∧
    (∀ x, x ∈ goodRadii w.circ ↔ ∃ i y, i < 64 ∧ sparseGet w.circ i = some y ∧ y.status = .good ∧ y.radius = x) ∧
    (goodRadii w.circ).length + missingCount 64 w.circ = 64 ∧
    (∀ r70 known, goodRadius (sparseGet w.lateral 70) = some r70 →
      known = { nothingDerived with
        r70 := some r70, missLateral := some (missingCount 140 w.lateral), missCirc := some (missingCount 64 w.circ) } →
      (tolerance < missingCount 140 w.lateral ∨ tolerance < missingCount 64 w.circ →
        (extract tolerance w).status = .incomplete ∧ (extract tolerance w).results = known) ∧
      (missingCount 140 w.lateral ≤ tolerance → missingCount 64 w.circ ≤ tolerance → anySaturated w.circ = true →
        (extract tolerance w).status = .saturated ∧ (extract tolerance w).results = known) ∧
      (missingCount 140 w.lateral ≤ tolerance → missingCount 64 w.circ ≤ tolerance → anySaturated w.circ = false →
        goodRadii w.circ ≠ [] →
        ∃ d f, sweepFigures (goodRadii w.circ) d f ∧
          ((∀ i, i ≤ 40 → heightAt w r70 i = none) →
            (extract tolerance w).status = .unresolved ∧
            (extract tolerance w).results = { known with d := some d, f := some f }) ∧
          (∀ sh tip, tipOf (heightAt w r70) sh tip →
            (sh < 1000 ∨ noCrossing (heightAt w r70) 1000 tip →
              (extract tolerance w).status = .unresolved ∧
              (extract tolerance w).results = { known with d := some d, f := some f, sh := some sh, tip := some tip }) ∧
            (∀ sd, 1000 ≤ sh → crossesAt (heightAt w r70) 1000 tip sd →
              (noCrossing (heightAt w r70) (sh - 200) tip →
                (extract tolerance w).status = .unresolved ∧
                (extract tolerance w).results =
                  { known with d := some d, f := some f, sh := some sh, tip := some tip, sd := some sd }) ∧
              (∀ xs, crossesAt (heightAt w r70) (sh - 200) tip xs →
                (extract tolerance w).status = .good ∧
                (extract tolerance w).results =
                  { known with
                    d := some d, f := some f, sh := some sh, tip := some tip, sd := some sd, xs := some xs
                    qr := some (sd - xs) })))))) ∧
  (∀ (p : Param) (wheel : FindingWheel) (x : LimitLine) (v : Geometry) (o : BandOutcome) (a : LimitAction),
    o = (if v < x.lo then .low else if x.hi < v then .high else .inside) →
    a = (match o with | .low => x.low | .inside => x.inside | .high => x.high) →
    checkLimit p wheel x none = [] ∧
    checkLimit p wheel x (some v) = if a = .nothing then [] else
      [{ kind := .param p, wheel := wheel, outcome := some o, hold := decide (a = .hold), v1 := some v, v2 := some x.lo
         v3 := some x.hi }]) ∧
  (∀ (ws : PerSide TraceRecord) (slot : Nat) (p : Profile) (now : Stamp) (b : Option Geometry),
    b = ws.l.backFace.bind (fun x => ws.r.backFace.map (fun y => x + y)) →
    (formTrace ws (some (slot, p)) now).findings =
      checkLimit .sh (.wheel .L) p.limits.sh ws.l.results.sh ++ checkLimit .sd (.wheel .L) p.limits.sd ws.l.results.sd ++
      checkLimit .qr (.wheel .L) p.limits.qr ws.l.results.qr ++ checkLimit .f (.wheel .L) p.limits.f ws.l.results.f ++
      checkLimit .sh (.wheel .R) p.limits.sh ws.r.results.sh ++ checkLimit .sd (.wheel .R) p.limits.sd ws.r.results.sd ++
      checkLimit .qr (.wheel .R) p.limits.qr ws.r.results.qr ++ checkLimit .f (.wheel .R) p.limits.f ws.r.results.f ++
      checkLimit .b .wheelset p.limits.b b ∧
    (formTrace ws (some (slot, p)) now).findings.length ≤ 9 ∧ (formTrace ws none now).findings = [] ∧
    (∀ q, (formTrace ws q now).b = b ∧ (formTrace ws q now).wheels = ws ∧ (formTrace ws q now).time = now ∧
      (formTrace ws q now).profile = q.map (·.1) ∧
      ((formTrace ws q now).usable = true ↔ ws.l.status = .good ∧ ws.r.status = .good)))

/-- A head's scan task ends: its wheel's result is formed and its part marked. A verify wheel's is LOW or HIGH with a first
out-of-band point, otherwise INCONCLUSIVE by NO-DATUM, by SKIPPED above the tolerance, or by a sweep not GOOD, otherwise
CONFORM; the sweep is INCOMPLETE, SATURATED, or GOOD with D and F (R141, R142). With both results formed at a SCANNING
station a survey returns it to its prior state with the results kept and TRACE-END posted, and a verify that does not find
both wheels CONFORM leaves it HELD with reason NONCONFORM, the share, the reservation, the recut count and the progress
kept, and CUT-END verify-held posted; with both wheels CONFORM the cut finishes, its own deferred ceiling applied and each
partner place written, deferred or not needed (R142, R143, R145, R171, R177, R179 to R181). That the completed operation's
cursors and part marks are cleared then is the model's choice (log entry 16). So are a scan without a datum as NO-DATUM,
the partner of a JOINT plan reported as OWN and an EMPTY place as not needed where the cut finishes, and the revision of a
partner's record, raised once by its ceiling (log entries 17, 29 and 19). -/
def Obligations.ScanEndsFormResults : Prop :=
  (∀ (p : Option Profile) (tol : Nat) (w v e : ScanRecord), v = advanceScan .verify p true w →
    e = endScanRecord .verify p tol w →
    e = { v with missCirc := e.missCirc, sweep := e.sweep, d := e.d, f := e.f, result := e.result } ∧
    (∀ r q, v.datum = .radius r → p = some q → 140 ≤ v.judged) ∧
    v.circ = w.circ ∧ v.d = w.d ∧ v.f = w.f ∧ e.missCirc = some (missingCount 64 w.circ) ∧
    (tol < missingCount 64 w.circ → e.sweep = some .incomplete ∧ e.d = w.d ∧ e.f = w.f) ∧
    (missingCount 64 w.circ ≤ tol → anySaturated w.circ = true → e.sweep = some .saturated ∧ e.d = w.d ∧ e.f = w.f) ∧
    (missingCount 64 w.circ ≤ tol → anySaturated w.circ = false → goodRadii w.circ ≠ [] →
      ∃ d f, sweepFigures (goodRadii w.circ) d f ∧ e.sweep = some .good ∧ e.d = some d ∧ e.f = some f) ∧
    (∀ x, v.firstOut = some x → e.result = if x.high then .high else .low) ∧
    (v.firstOut = none →
      ((∀ r, v.datum ≠ .radius r) → e.result = .inconclusive .noDatum) ∧
      (∀ r, v.datum = .radius r →
        (tol < v.skips → e.result = .inconclusive .skipped) ∧
        (v.skips ≤ tol → e.sweep = some .good → e.result = .conform) ∧
        (v.skips ≤ tol → e.sweep ≠ some .good → e.result = .inconclusive .sweep)))) ∧
  (∀ (p : Option Profile) (tol : Nat) (w v : ScanRecord), v = advanceScan .survey p true w →
    ((∀ r, v.datum ≠ .radius r) → endScanRecord .survey p tol w = { v with result := .noDatum }) ∧
    (∀ r, v.datum = .radius r → endScanRecord .survey p tol w = { v with result := .surveyed })) ∧
  ∀ (s : State) (h : HeadId) (rest : List Notice) (x : Station) (u y : Scan),
    waits s (isTaskDone h .scan) (.taskDone h .scan) rest → (s.traceUnit h.station).scan = some u →
    x = { s.station h.station with part := (s.station h.station).part.set h.side true } →
    y = { u with wheels := (u.wheels.set h.side
      (endScanRecord u.mode (profileAt s u.slot) s.settings.missingTolerance (u.wheels.get h.side))) } →
    ∃ t, exec (.scanTaskEnd h) s = .next t ∧ handsOn rest t ∧
      (bothComplete x = false ∨ x.work ≠ .scanning →
        t.notices = rest ∧ t.stations = s.stations.set h.station x ∧ onlyChanges [.stations, .traces] s t ∧
        t.traces = s.traces.set h.station { s.traceUnit h.station with scan := some y }) ∧
      (bothComplete x = true → x.work = .scanning → x.operation = some .survey →
        surveyCompletes s t h.station x y ∧ onlyChanges [.stations, .traces] s t) ∧
      (bothComplete x = true → x.work = .scanning → x.operation ≠ some .survey →
        ¬ (y.wheels.l.result = .conform ∧ y.wheels.r.result = .conform) →
        verifyHolds s t h.station x y ∧ onlyChanges [.stations, .traces] s t) ∧
      (∀ p ys ws r, bothComplete x = true → x.work = .scanning → x.operation ≠ some .survey →
        y.wheels.l.result = .conform → y.wheels.r.result = .conform → shareParts s h.station = some (p, ys, ws) →
        x.occupant = some r.serial → findRecord s.history r.serial = some r →
        (∃ fates, finishes s t h.station { x with results := some y } p ys ws r fates) ∧
        t.traces = s.traces.set h.station { s.traceUnit h.station with scan := none } ∧
        onlyChanges [.stations, .traces, .planner, .history] s t)

/-- PROFILE LOAD by its three requests: a clear empties the slot, a first part of at most 70 heights and a second part
that completes the buffered one fill it whole, and a longer first part is staged; each answers DONE with the slot and
whether it held a profile. A clear of a slot outside 1 to 8 or in use is refused, the load buffer emptied; so is a first part
with a field out of range or of a slot in use; a second part without its first is refused WRONG-STATE; one with a wrong count
or a height out of range is refused BAD-FIELD with the buffer emptied, and one of a slot in use PROFILE-IN-USE with the buffer
kept (R134, R135, R203). Which offset a condition between two fields gives is the model's choice (log entry 26). -/
def Obligations.ProfileLoadsFillSlots : Prop :=
  (∀ (s : State) (f : Frame) (b : Byte), asks s f 33 [b] → 1 ≤ b.toNat → b.toNat ≤ 8 → slotInUse s b.toNat = false →
    ∃ t, exec .profileLoadClear s = .next t ∧
      t.profiles = { buffer := none, slots := sparseErase s.profiles.slots b.toNat } ∧
      answered s f t (.done (.profileLoaded b.toNat (profileAt s b.toNat).isSome)) ∧ t.notices = s.notices ∧
      onlyChanges [.link, .profiles] s t) ∧
  (∀ (s : State) (f : Frame) (b : Byte), asks s f 33 [b] →
    (b.toNat = 0 ∨ 8 < b.toNat →
      ∃ t, exec .profileLoadClear s = .next t ∧ t.profiles = { s.profiles with buffer := none } ∧
        answered s f t (.refused .badField (.offset 0)) ∧ t.notices = s.notices ∧ onlyChanges [.link, .profiles] s t) ∧
    (1 ≤ b.toNat → b.toNat ≤ 8 → slotInUse s b.toNat = true →
      ∃ t, exec .profileLoadClear s = .next t ∧ t.profiles = { s.profiles with buffer := none } ∧
        answered s f t (.refused .profileInUse .none) ∧ t.notices = s.notices ∧ onlyChanges [.link, .profiles] s t)) ∧
  (∀ (s : State) (f : Frame) (body : Bytes) (slot length : Nat) (p : Profile), asks s f 34 body →
    parseFirstPart body = some (slot, p, length) → firstFailing (profileChecks slot p length) = none →
    (length ≤ 70 → slotInUse s slot = false →
      ∃ t, exec .profileLoadFirstPart s = .next t ∧
        t.profiles = { buffer := none, slots := sparseSet s.profiles.slots slot p } ∧
        answered s f t (.done (.profileLoaded slot (profileAt s slot).isSome)) ∧ t.notices = s.notices ∧
        onlyChanges [.link, .profiles] s t) ∧
    (length ≤ 70 → slotInUse s slot = true →
      ∃ t, exec .profileLoadFirstPart s = .next t ∧ t.profiles = { s.profiles with buffer := none } ∧
        answered s f t (.refused .profileInUse .none) ∧ t.notices = s.notices ∧ onlyChanges [.link, .profiles] s t) ∧
    (70 < length →
      ∃ t, exec .profileLoadFirstPart s = .next t ∧
        t.profiles = { s.profiles with buffer := some { slot := slot, partial_ := p, length := length } } ∧
        answered s f t (.done (.profileStaged slot)) ∧ t.notices = s.notices ∧ onlyChanges [.link, .profiles] s t)) ∧
  (∀ (s : State) (f : Frame) (body : Bytes) (slot length o : Nat) (p : Profile), asks s f 34 body →
    parseFirstPart body = some (slot, p, length) → firstFailing (profileChecks slot p length) = some o →
    ∃ t, exec .profileLoadFirstPart s = .next t ∧ t.profiles = { s.profiles with buffer := none } ∧
      answered s f t (.refused .badField (.offset o)) ∧ t.notices = s.notices ∧ onlyChanges [.link, .profiles] s t) ∧
  (∀ (s : State) (f : Frame) (body : Bytes) (slot count : Nat) (hs : List Geometry) (b : LoadBuffer), asks s f 35 body →
    parseSecondPart body = some (slot, count, hs) → s.profiles.buffer = some b → b.slot = slot →
    count + 70 = b.length → (∀ x ∈ hs, -1000 ≤ x ∧ x ≤ 4000) → slotInUse s slot = false →
    ∃ t, exec .profileLoadSecondPart s = .next t ∧
      t.profiles.buffer = none ∧
      t.profiles.slots = sparseSet s.profiles.slots slot { b.partial_ with heights := b.partial_.heights ++ hs } ∧
      answered s f t (.done (.profileLoaded slot (profileAt s slot).isSome)) ∧ t.notices = s.notices ∧
      onlyChanges [.link, .profiles] s t) ∧
  (∀ (s : State) (f : Frame) (body : Bytes) (slot count : Nat) (hs : List Geometry) (b : LoadBuffer), asks s f 35 body →
    parseSecondPart body = some (slot, count, hs) → s.profiles.buffer = some b → b.slot = slot →
    (count + 70 = b.length → (∀ x ∈ hs, -1000 ≤ x ∧ x ≤ 4000) → slotInUse s slot = true →
      ∃ t, exec .profileLoadSecondPart s = .next t ∧ answered s f t (.refused .profileInUse .none) ∧
        t.notices = s.notices ∧ onlyChanges [.link] s t) ∧
    (∀ o, (count + 70 ≠ b.length ∧ o = 1 ∨
        count + 70 = b.length ∧ ∃ before x later, hs = before ++ x :: later ∧ (∀ y ∈ before, -1000 ≤ y ∧ y ≤ 4000) ∧
          (x < -1000 ∨ 4000 < x) ∧ o = 2 + 2 * before.length) →
      ∃ t, exec .profileLoadSecondPart s = .next t ∧ t.profiles = { s.profiles with buffer := none } ∧
        answered s f t (.refused .badField (.offset o)) ∧ t.notices = s.notices ∧ onlyChanges [.link, .profiles] s t)) ∧
  (∀ (s : State) (f : Frame) (body : Bytes) (slot count : Nat) (hs : List Geometry), asks s f 35 body →
    parseSecondPart body = some (slot, count, hs) → (∀ b, s.profiles.buffer = some b → b.slot ≠ slot) →
    ∃ t, exec .profileLoadSecondPart s = .next t ∧ answered s f t (.refused .wrongState .none) ∧ t.notices = s.notices ∧
      onlyChanges [.link] s t)

/-! ### Planning (chapter 8) -/

/-- The arithmetic of one computation: each wheel's requirement is a multiple of 5 that no term exceeds; the target is at
most each wheel's traced diameter less twice its requirement and at most the ceiling; each radial cut is a multiple of 5
and, for either wheel, at least its requirement; and each final lies at or below the target and less than 10 below it, so
that the two finals differ by less than 10 (R153 to R155). Bogie matching brings the two targets of a pair that both survive
to within the bogie tolerance of each other: the smaller target stays, the larger becomes the smaller of itself and the other
plus the tolerance, its share marked where that lowers it; and it changes nothing where either wheelset is condemned (R157). -/
def Obligations.PlanArithmeticBounds : Prop :=
  (∀ (p : Profile) (ceiling : Option Geometry) (rs : PerSide TraceResults) (d : Side) (c : Calc) (w : WheelCalc),
    c = compute p ceiling rs → w = c.wheels.get d →
    ((5 : Int) ∣ w.a) ∧ (∀ x ∈ requirementTerms p (rs.get d), x.2 ≤ w.a) ∧ 0 ≤ w.a ∧ p.cmin ≤ w.a ∧
    w.traced = (rs.get d).d.getD 0 ∧ c.target ≤ w.traced - 2 * w.a ∧ (∀ x, ceiling = some x → c.target ≤ x) ∧
    ((5 : Int) ∣ w.c) ∧ w.a ≤ w.c ∧ w.final = w.traced - 2 * w.c ∧ w.final ≤ c.target ∧ c.target - 10 < w.final ∧
    c.wheels.l.final - c.wheels.r.final < 10 ∧ c.wheels.r.final - c.wheels.l.final < 10) ∧
  (∀ (btol : Geometry) (a b : Planned), 0 ≤ btol →
    (∀ sa pa fa ca la sb pb fb cb lb, a = .adopted sa pa fa ca la → b = .adopted sb pb fb cb lb →
      ∃ da db ma mb, matchBogie btol a b = (.adopted sa pa fa da ma, .adopted sb pb fb db mb) ∧
        da.target = min ca.target (cb.target + btol) ∧ db.target = min cb.target (ca.target + btol) ∧
        (ma = true ↔ la = true ∨ cb.target + btol < ca.target) ∧ (mb = true ↔ lb = true ∨ ca.target + btol < cb.target) ∧
        (ca.target ≤ cb.target + btol → da = ca) ∧ (cb.target ≤ ca.target + btol → db = cb)) ∧
    (a = .flagged ∨ (∃ c f, a = .scrap c f) ∨ b = .flagged ∨ (∃ c f, b = .scrap c f) → matchBogie btol a b = (a, b)))

/-- The passes of a wheel: for a radial cut above 0 that is a multiple of 5 and a pass limit above 0 that is a multiple of
5, the pass list numbers its passes from 1, every depth is a multiple of 5 from 5 to the pass limit, the last is no deeper
than the others, the depths sum to the radial cut, and no list of fewer passes could take it (R160). -/
def Obligations.PassesTakeTheCut : Prop :=
  ∀ (pm : Geometry) (w : WheelCalc) (x : WheelPlan), 0 < pm → ((5 : Int) ∣ pm) → 0 < w.c → ((5 : Int) ∣ w.c) →
    x = dividePasses pm w →
    (passList x).map (·.number) = (List.range x.count).map (· + 1) ∧ ((passList x).map (·.depth)).sum = w.c ∧
    (∀ q ∈ passList x, 5 ≤ q.depth ∧ q.depth ≤ pm ∧ (5 : Int) ∣ q.depth) ∧ x.last ≤ x.depth ∧
    (x.count - 1 : Int) * pm < w.c ∧ w.c ≤ x.count * pm

/-- PLAN of a TRACED station with a usable trace, a profile and room makes the plan that the arithmetic gives: a surviving
wheelset is PLANNED, or HELD by its first HOLD finding, and its station refers to a new single plan with its captures; a
wheelset condemned SCRAP has its record flagged with a CONDEMNED entry, one condemned FLAGGED has none, and its station
takes no plan; PLAN-END is posted and the share answered. A radial cut above 1500 refuses the PLAN, which then has none of
its effects (R149, R151, R152, R156, R158, R161, R162). With an earlier condition failing it is refused with the first reason
and nothing changes (R149). A surviving share's findings are the trace's HOLD findings, then LAST-TURN, EXCESS, FALLBACK and
CEILING where each holds; its held reason is the first of LIMIT, LAST-TURN and EXCESS, and it is PLANNED where none holds; a
CONDEMNED share has no findings (R159). That planning's own findings carry wheel code 0 is the model's choice (log entry
30). -/
def Obligations.PlanMakesSinglePlan : Prop :=
  (∀ (r : WheelsetRecord) (tr : StationTrace) (cvisit : Geometry) (slot : Nat) (p : Profile) (fb low : Bool) (c : Calc)
    (x : Share) (small : Geometry) (beyond : Geometry → Option Geometry),
    x = makeShare r tr cvisit (.adopted slot p fb c low) → small = min c.wheels.l.final c.wheels.r.final →
    beyond = (fun v => if cvisit < v then some v else none) →
    x.findings = tr.findings.filter (·.hold) ++
      (if small < r.dlt then
        [{ kind := .lastTurn, wheel := .none, outcome := none, hold := true, v1 := some small, v2 := some r.dlt, v3 := none }]
       else []) ++
      (if cvisit < c.wheels.l.c ∨ cvisit < c.wheels.r.c then
        [{ kind := .excess, wheel := .none, outcome := none, hold := true, v1 := beyond c.wheels.l.c, v2 := beyond c.wheels.r.c
           v3 := some cvisit }]
       else []) ++
      (if fb = true then
        [{ kind := .fallback, wheel := .none, outcome := none, hold := false, v1 := some (r.profile : Int)
           v2 := some (slot : Int), v3 := none }]
       else []) ++
      (if c.lowered = true then
        [{ kind := .ceiling, wheel := .none, outcome := none, hold := false, v1 := r.ceiling, v2 := some c.stepTwo, v3 := none }]
       else []) ∧
    x.heldReason = (if anyHold tr.findings = true then some .limit else if small < r.dlt then some .lastTurn
      else if cvisit < c.wheels.l.c ∨ cvisit < c.wheels.r.c then some .excess else none) ∧
    x.outcome = (if x.heldReason = none then .planned else .held) ∧ x.profileUsed = some slot ∧ x.fallback = fb ∧
    x.bogieLowered = low ∧ x.approved = false) ∧
  (∀ (r : WheelsetRecord) (tr : StationTrace) (cvisit : Geometry) (w : Planned),
    (w = .flagged ∨ ∃ c f, w = .scrap c f) →
    (makeShare r tr cvisit w).outcome = .condemned ∧ (makeShare r tr cvisit w).findings = [] ∧
    (makeShare r tr cvisit w).heldReason = none ∧ (makeShare r tr cvisit w).profileUsed = none) ∧
  (∀ (s : State) (f : Frame) (b : Byte) (st : StationId) (x : Reason × RefusalDetail), asks s f 23 [b] →
    stationOf b = some st →
    firstFailing [((s.station st).work == .traced, (.wrongState, .none)), (traceUsable s st, (.traceUnusable, .none)),
      (occupantHasProfile s st, (.noProfile, .none)),
      (decide (totalReservation s + 1 ≤ roomCount s), (.historyFull, roomDetail s 1))] = some x →
    ∃ t, exec .plan s = .next t ∧ answered s f t (.refused x.1 x.2) ∧ t.notices = s.notices ∧ onlyChanges [.link] s t) ∧
  ∀ (s : State) (f : Frame) (b : Byte) (st : StationId) (r : WheelsetRecord) (p : Profile) (tr : StationTrace) (w : Planned)
    (x : Share), asks s f 23 [b] → stationOf b = some st → (s.station st).work = .traced → traceUsable s st = true →
    planInputs s st = some (r, p, tr) → totalReservation s + 1 ≤ roomCount s → w = planWheelset s r p tr →
    x = makeShare r tr s.settings.cvisit w →
    (cutOutOfRange st w = none →
      ∃ t, exec .plan s = .next t ∧ answered s f t (.done (.planned [planReply x])) ∧ onlyStation s t st ∧
        (t.station st).work = (match x.outcome with | .planned => .planned | .held => .held | .condemned => .condemned) ∧
        (t.station st).held = x.heldReason ∧ Notice.posting .planEnd (.station st)
          (.planEnd (planEndDetail .single (planEndOutcome x.outcome) none x)) ∈ t.notices ∧
        (x.outcome ≠ .condemned → shareOf t st = some x ∧ t.history = s.history ∧
          ∃ q, planOf t st = some q ∧ q.kind = .single ∧ q.madeAt = s.clock ∧ q.btol = s.settings.btol ∧
            q.vtol = s.settings.vtol ∧ q.cvisit = s.settings.cvisit ∧ q.captures = capturesSingle s st r.serial) ∧
        (x.outcome = .condemned → (t.station st).plan = none ∧ t.planner = s.planner) ∧
        (w = .flagged → t.history = s.history) ∧
        (∀ c fb, w = .scrap c fb → ∃ q, findRecord t.history r.serial = some q ∧ q.condemned = true ∧
          { seq := s.history.counter + 1, stamp := s.clock, body := condemnedBody r c fb } ∈ q.entries) ∧
        handsOn s.notices t ∧ onlyChanges [.link, .stations, .planner, .history] s t) ∧
    (∀ y, cutOutOfRange st w = some y →
      ∃ t, exec .plan s = .next t ∧ answered s f t (.refused .badField (.cut y.1 y.2.1 y.2.2)) ∧ t.notices = s.notices ∧
        onlyChanges [.link] s t)

/-- PLAN naming BOTH, with its conditions met and no cut out of range, plans the two wheelsets of one bogie together: each
share is what the arithmetic with bogie matching gives, each station takes its share's outcome, both refer to one JOINT
plan unless both are condemned, and both PLAN-ENDs are posted (R150, R157, R161, R162). With a condition failing it is refused
with the first reason, and a cut out of range refuses it too, station A's before B's; nothing then changes (R150, R158). -/
def Obligations.PlanBothMakesJointPlan : Prop :=
  (∀ (s : State) (f : Frame) (x : Reason × RefusalDetail), asks s f 23 [3] → firstFailing (planBothConditions s) = some x →
    ∃ t, exec .planBoth s = .next t ∧ answered s f t (.refused x.1 x.2) ∧ t.notices = s.notices ∧
      onlyChanges [.link] s t) ∧
  (∀ (s : State) (f : Frame) (ra rb : WheelsetRecord) (pa pb : Profile) (ta tb : StationTrace) (w : Planned × Planned)
    (x : StationId × Side × Geometry), asks s f 23 [3] → firstFailing (planBothConditions s) = none →
    planInputs s .A = some (ra, pa, ta) → planInputs s .B = some (rb, pb, tb) →
    w = matchBogie s.settings.btol (planWheelset s ra pa ta) (planWheelset s rb pb tb) →
    (cutOutOfRange .A w.1 = some x ∨ (cutOutOfRange .A w.1 = none ∧ cutOutOfRange .B w.2 = some x)) →
    ∃ t, exec .planBoth s = .next t ∧ answered s f t (.refused .badField (.cut x.1 x.2.1 x.2.2)) ∧ t.notices = s.notices ∧
      onlyChanges [.link] s t) ∧
  ∀ (s : State) (f : Frame) (ra rb : WheelsetRecord) (pa pb : Profile) (ta tb : StationTrace) (w : Planned × Planned)
    (xa xb : Share), asks s f 23 [3] → firstFailing (planBothConditions s) = none →
    planInputs s .A = some (ra, pa, ta) → planInputs s .B = some (rb, pb, tb) → ra.serial ≠ rb.serial →
    w = matchBogie s.settings.btol (planWheelset s ra pa ta) (planWheelset s rb pb tb) →
    cutOutOfRange .A w.1 = none → cutOutOfRange .B w.2 = none → xa = makeShare ra ta s.settings.cvisit w.1 →
    xb = makeShare rb tb s.settings.cvisit w.2 →
    ∃ t, exec .planBoth s = .next t ∧ answered s f t (.done (.planned [planReply xa, planReply xb])) ∧
      (t.station .A).work = (match xa.outcome with | .planned => .planned | .held => .held | .condemned => .condemned) ∧
      (t.station .B).work = (match xb.outcome with | .planned => .planned | .held => .held | .condemned => .condemned) ∧
      (xa.outcome ≠ .condemned ∨ xb.outcome ≠ .condemned →
        shareOf t .A = some xa ∧ shareOf t .B = some xb ∧ (t.station .A).plan = (t.station .B).plan ∧
        ∃ q, planOf t .A = some q ∧ q.kind = .joint ∧ q.madeAt = s.clock) ∧
      (xa.outcome = .condemned → xb.outcome = .condemned →
        (t.station .A).plan = none ∧ (t.station .B).plan = none ∧ t.planner = s.planner) ∧
      ((∀ c fb, w.1 ≠ .scrap c fb) → (∀ c fb, w.2 ≠ .scrap c fb) → t.history = s.history) ∧
      (∀ c fb, w.1 = .scrap c fb → condemnedAt t ra.serial = true) ∧
      (∀ c fb, w.2 = .scrap c fb → condemnedAt t rb.serial = true) ∧
      .posting .planEnd (.station .A) (.planEnd (planEndDetail .joint (planEndOutcome xa.outcome) none xa)) ∈ t.notices ∧
      .posting .planEnd (.station .B) (.planEnd (planEndDetail .joint (planEndOutcome xb.outcome) none xb)) ∈ t.notices ∧
      handsOn s.notices t ∧ onlyChanges [.link, .stations, .planner, .history] s t

/-- APPROVE of a station HELD before a cut makes its share PLANNED and approved with its findings kept, the station
PLANNED with no held reason, and answers the findings approved; the other share keeps its outcome; in any other state it
is refused WRONG-STATE (R163). A record-changed notice at a station PLANNED, or HELD before a cut, withdraws the share
that the record now breaks: the station becomes TRACED with no share and PLAN-END STALE posted, with the plan's kind and
naming the field; an idle partner of the same joint plan becomes TRACED too with a PLAN-END STALE of its own, and another
partner keeps its state and share. A share that the record does not break stays, and a station in any other state, HELD after
a cut among them, is left as it is (R164, R184). Which field is named
where one change breaks the share in several ways is the model's choice (log entry 39). So is the moment at which the
record is judged (log entry 21). -/
def Obligations.ApproveAndWithdrawShares : Prop :=
  (∀ (s : State) (f : Frame) (b : Byte) (st : StationId), asks s f 24 [b] → stationOf b = some st →
    (∀ x, (s.station st).work = .held →
      ((s.station st).held = some .limit ∨ (s.station st).held = some .lastTurn ∨ (s.station st).held = some .excess) →
      shareOf s st = some x →
      ∃ t, exec .approve s = .next t ∧ answered s f t (.done (.findings (x.findings.filter (·.hold)))) ∧
        onlyStation s t st ∧ t.station st = { s.station st with work := .planned, held := none } ∧
        shareOf t st = some { x with outcome := .planned, approved := true, heldReason := none } ∧
        ((s.station (otherStation st)).plan = (s.station st).plan →
          shareOf t (otherStation st) = shareOf s (otherStation st)) ∧
        handsOn s.notices t ∧ onlyChanges [.link, .stations, .planner] s t) ∧
    ((s.station st).work ≠ .held ∨ (s.station st).held = some .nonconform ∨ (s.station st).held = some .unverified →
      ∃ t, exec .approve s = .next t ∧ answered s f t (.refused .wrongState .none) ∧ t.notices = s.notices ∧
        onlyChanges [.link] s t)) ∧
  (∀ (s : State) (st : StationId) (r q : WheelsetRecord) (rest : List Notice),
    waits s (isRecordChanged st) (.recordChanged st r) rest →
    (∀ p x field, ((s.station st).work = .planned ∨ ((s.station st).work = .held ∧
        ((s.station st).held = some .limit ∨ (s.station st).held = some .lastTurn ∨ (s.station st).held = some .excess))) →
      (s.station st).occupant = some r.serial → findRecord s.history r.serial = some q →
      planOf s st = some p → shareOf s st = some x →
      field = (if q.condemned = true then some .condemned else if aboveEither q.ds x = true then some .ds
        else if q.ceiling.any (fun c => belowEither c x) = true then some .ceiling else none) →
      (∀ y, field = some y →
        ∃ t, exec (.recordChangedNotice st) s = .next t ∧
          t.station st = { s.station st with work := .traced, held := none, plan := none } ∧ t.history = s.history ∧
          .posting .planEnd (.station st) (.planEnd (planEndDetail p.kind .stale (some y) x)) ∈ t.notices ∧
          partnerShareLeft s t st ∧
          (∀ z, idlePartner s st = true → shareOf s (otherStation st) = some z →
            .posting .planEnd (.station (otherStation st)) (.planEnd (planEndDetail p.kind .stale none z)) ∈ t.notices) ∧
          handsOn rest t ∧ onlyChanges [.stations, .planner] s t) ∧
      (field = none → exec (.recordChangedNotice st) s = .next (s.setNotices rest))) ∧
    ((s.station st).work ≠ .planned → (s.station st).work ≠ .held ∨ (s.station st).held = some .nonconform ∨
        (s.station st).held = some .unverified →
      exec (.recordChangedNotice st) s = .next (s.setNotices rest))) ∧
  (∀ (v : Geometry) (x : Share) (ws : PerSide WheelPlan), x.wheels = some ws →
    (aboveEither v x = true ↔ ws.l.final < v ∨ ws.r.final < v) ∧
    (belowEither v x = true ↔ v < ws.l.final ∨ v < ws.r.final))

/-! ### Cutting and verification (chapter 9) -/

/-- CUT START of one PLANNED station with its conditions met reserves the entries that its cut may write, clears the recut
count, the progress and the deferred ceiling, makes the station CUTTING, and hands each head its wheel's pass list from the
start of pass 1; otherwise it is refused with the first reason, and for any reason but STALE-PLAN the plan and the station
stay, while STALE-PLAN discards the share and makes the station TRACED, posting nothing: an idle partner of the same joint
plan becomes TRACED too, a CONDEMNED share is discarded with its station left CONDEMNED, and the share of a station with a cut
in hand is kept (R166 to R168); a station that is not PLANNED is refused WRONG-STATE. CUT START naming BOTH, at the two stations of one JOINT plan whose surviving shares are PLANNED, with the
conditions of every station cut met, begins the cut of each survivor in one event (R166, R168); without such a plan it is
refused WRONG-STATE, with another condition failing it is refused with the first reason and the plan and the stations stay,
and STALE-PLAN discards the share of each survivor with no cut in hand and makes its station TRACED (R166, R167). The premise
`shareFits`, that a station with a CONDEMNED share is not PLANNED, is an invariant (StoreChangesAreTold). -/
def Obligations.CutStartBeginsCuts : Prop :=
  (∀ (s : State) (f : Frame) (b : Byte) (st : StationId) (slot : PlanSlot) (p : Plan), asks s f 25 [b] →
    stationOf b = some st → (s.station st).plan = some slot → planOf s st = some p → (s.station st).work = .planned →
    (firstFailing (cutConditions s p [st]) = none →
      ∃ t, exec .cutStart s = .next t ∧ answered s f t .started ∧ onlyStation s t st ∧ cutBegins s t st p ∧
        handsOn s.notices t ∧ onlyChanges [.link, .stations] s t) ∧
    (∀ reason detail, firstFailing (cutConditions s p [st]) = some (reason, detail) → reason ≠ .stalePlan →
      ∃ t, exec .cutStart s = .next t ∧ answered s f t (.refused reason detail) ∧ t.notices = s.notices ∧
        onlyChanges [.link] s t) ∧
    (∀ detail, firstFailing (cutConditions s p [st]) = some (.stalePlan, detail) → (s.station st).reservation = 0 →
      (∀ x, shareFits s x) →
      ∃ t, exec .cutStart s = .next t ∧ answered s f t (.refused .stalePlan detail) ∧
        t.station st = { s.station st with work := .traced, held := none, plan := none } ∧ partnerShareLeft s t st ∧
        onlyViews s.notices t ∧ onlyChanges [.link, .stations, .planner] s t)) ∧
  (∀ (s : State) (f : Frame) (slot : PlanSlot) (p : Plan), asks s f 25 [3] → (s.station .A).plan = some slot →
    planOf s .A = some p → jointReady s p = true → firstFailing (cutConditions s p (survivors p)) = none →
    ∃ t, exec .cutStartBoth s = .next t ∧ answered s f t .started ∧
      (∀ st, (st ∈ survivors p → cutBegins s t st p) ∧ (st ∉ survivors p → t.station st = s.station st)) ∧
      handsOn s.notices t ∧ onlyChanges [.link, .stations] s t) ∧
  (∀ (s : State) (f : Frame) (b : Byte) (st : StationId), asks s f 25 [b] → stationOf b = some st →
    (s.station st).work ≠ .planned ∨ planOf s st = none →
    ∃ t, exec .cutStart s = .next t ∧ answered s f t (.refused .wrongState .none) ∧ t.notices = s.notices ∧
      onlyChanges [.link] s t) ∧
  (∀ (s : State) (f : Frame), asks s f 25 [3] → (∀ p, planOf s .A = some p → jointReady s p = false) →
    ∃ t, exec .cutStartBoth s = .next t ∧ answered s f t (.refused .wrongState .none) ∧ t.notices = s.notices ∧
      onlyChanges [.link] s t) ∧
  (∀ (s : State) (f : Frame) (p : Plan) (reason : Reason) (detail : RefusalDetail), asks s f 25 [3] →
    planOf s .A = some p → jointReady s p = true →
    firstFailing (cutConditions s p (survivors p)) = some (reason, detail) →
    (reason ≠ .stalePlan →
      ∃ t, exec .cutStartBoth s = .next t ∧ answered s f t (.refused reason detail) ∧ t.notices = s.notices ∧
        onlyChanges [.link] s t) ∧
    (reason = .stalePlan →
      ∃ t, exec .cutStartBoth s = .next t ∧ answered s f t (.refused .stalePlan detail) ∧
        (∀ st, st ∈ survivors p → (s.station st).reservation = 0 →
          (t.station st).work = .traced ∧ (t.station st).plan = none ∧ (t.station st).held = none ∧
          ((∀ x, shareFits s x) → partnerShareLeft s t st)) ∧
        onlyViews s.notices t ∧ onlyChanges [.link, .stations, .planner] s t))

/-- A pass completion whose number is one more than the passes completed adds one to them and the pass's depth to the
depth completed, in the cut in hand; any other number changes nothing. In a cut in hand a head's part complete marks it,
and with both parts complete at a CUTTING station the verify begins, comparing with the share's profile used; at a PAUSED
one it waits; with no cut in hand the completion changes nothing (R98, R169, R170). That the cursor of DATUM carries index
70 where the verify begins, and that a task end without a cut in hand changes nothing, are the model's choices (log
entries 17 and 14). -/
def Obligations.PassesAdvanceTheCut : Prop :=
  (∀ (s : State) (h : HeadId) (k : Nat) (rest : List Notice) (q : Pass) (n : PassProgress),
    waits s (isPassDone h) (.passDone h k) rest → (s.station h.station).operation = some .cut →
    n = (s.station h.station).progress.get h.side →
    (k = n.passes + 1 → (stationPasses s h.station h.side).find? (fun x => x.number == k) = some q →
      ∃ t, exec (.passCompletion h) s = .next t ∧ t.notices = rest ∧ onlyStation s t h.station ∧
        t.station h.station = { s.station h.station with
          progress := (s.station h.station).progress.set h.side { passes := k, depth := n.depth + q.depth } } ∧
        onlyChanges [.stations] s t) ∧
    (k ≠ n.passes + 1 → exec (.passCompletion h) s = .next (s.setNotices rest))) ∧
  (∀ (s : State) (h : HeadId) (rest : List Notice) (x : Station),
    waits s (isTaskDone h .passes) (.taskDone h .passes) rest → (s.station h.station).operation = some .cut →
    x = { s.station h.station with part := (s.station h.station).part.set h.side true } →
    ∃ t, exec (.cutPartComplete h) s = .next t ∧ handsOn rest t ∧
      (bothComplete x = false ∨ x.work ≠ .cutting →
        t.notices = rest ∧ t.stations = s.stations.set h.station x ∧ onlyChanges [.stations] s t) ∧
      (bothComplete x = true → x.work = .cutting →
        verifyBegins s t h.station x ∧ onlyChanges [.stations, .traces] s t)) ∧
  (∀ (s : State) (h : HeadId) (rest : List Notice), waits s (isTaskDone h .passes) (.taskDone h .passes) rest →
    (s.station h.station).operation ≠ some .cut → exec (.cutPartComplete h) s = .next (s.setNotices rest))

/-- ACCEPT of a station HELD after a cut finishes it with the accepted mark, its own deferred ceiling applied and each
partner place written, deferred or not needed, and answers DONE; in any other state it is refused WRONG-STATE (R174, R177
to R181). That the ceilings written in the reply are the partner ceilings written at once is the model's choice (log entry
41). RECUT with its conditions met adds one pass of the recut depth to each wheel's list, deepens its radial cut by that
depth and lowers its planned final by twice it, raises the recut count, makes the station CUTTING again, and hands each
head its new pass alone; otherwise it is refused with the first reason (R175, R176). RECUT at a station that holds no
share, or is not HELD after a cut, is refused WRONG-STATE (R175). That the partner of a JOINT plan is reported as OWN and
an EMPTY place as not needed, that a partner's ceiling raises its record's revision once, and that RECUT names L before R
where both wheels fail, are the model's choices (log entries 29, 19 and 49). -/
def Obligations.AcceptAndRecut : Prop :=
  (∀ (s : State) (f : Frame) (b : Byte) (st : StationId), asks s f 29 [b] → stationOf b = some st →
    (∀ p y ws r, (s.station st).work = .held →
      ((s.station st).held = some .nonconform ∨ (s.station st).held = some .unverified) → shareParts s st = some (p, y, ws) →
      (s.station st).occupant = some r.serial → findRecord s.history r.serial = some r →
      ∃ t x fates written, exec .accept s = .next t ∧ x = { s.station st with accepted := true } ∧
        finishes s t st x p y ws r fates ∧
        (partnersApart s p st → written = ceilingsWritten s p st r.serial (finishedDf x ws) fates) ∧
        answered s f t (.done (.accepted (finishedDiameters x ws) (finishedDf x ws) written)) ∧
        handsOn s.notices t ∧ onlyChanges [.link, .stations, .planner, .history] s t) ∧
    (heldAfterCut (s.station st) = false →
      ∃ t, exec .accept s = .next t ∧ answered s f t (.refused .wrongState .none) ∧ t.notices = s.notices ∧
        onlyChanges [.link] s t)) ∧
  (∀ (s : State) (f : Frame) (b : Byte) (st : StationId) (p : Plan) (y : Share) (ws : PerSide WheelPlan) (slot : Nat)
    (prof : Profile) (r ds : Geometry), asks s f 30 [b] → stationOf b = some st → shareParts s st = some (p, y, ws) →
    y.profileUsed = some slot → profileAt s slot = some prof → r = min (roundUp5 prof.cmin) (passLimit prof) →
    ds = (((s.station st).occupant.bind (findRecord s.history)).map (·.ds)).getD 0 →
    (firstFailing (recutConditions s st ws r ds) = none →
      ∃ t, exec .recut s = .next t ∧ answered s f t .started ∧ onlyStation s t st ∧ (t.station st).work = .cutting ∧
        (t.station st).operation = some .cut ∧ (t.station st).held = none ∧
        (t.station st).recuts = (s.station st).recuts + 1 ∧ (t.station st).reservation = (s.station st).reservation ∧
        (t.station st).progress = (s.station st).progress ∧ (t.station st).results = (s.station st).results ∧
        (∃ vs, shareOf t st = some { y with wheels := some vs } ∧ ∀ d,
          (vs.get d).c = (ws.get d).c + r ∧ (vs.get d).final = (ws.get d).final - 2 * r ∧
          (vs.get d).count = (ws.get d).count ∧ (vs.get d).recuts = (ws.get d).recuts + 1 ∧
          .task ⟨st, d⟩ (.passes [{ number := (ws.get d).count + (ws.get d).recuts + 1, depth := r }] 0) ∈ t.notices ∧
          handedTask (t.station st) d (.passes [{ number := (ws.get d).count + (ws.get d).recuts + 1, depth := r }] 0)) ∧
        handsOn s.notices t ∧ onlyChanges [.link, .stations, .planner] s t) ∧
    (∀ x, firstFailing (recutConditions s st ws r ds) = some x →
      ∃ t, exec .recut s = .next t ∧ answered s f t (.refused x.1 x.2) ∧ t.notices = s.notices ∧ onlyChanges [.link] s t)) ∧
  (∀ (s : State) (f : Frame) (b : Byte) (st : StationId), asks s f 30 [b] → stationOf b = some st →
    heldAfterCut (s.station st) = false ∨ shareParts s st = none →
    ∃ t, exec .recut s = .next t ∧ answered s f t (.refused .wrongState .none) ∧ t.notices = s.notices ∧
      onlyChanges [.link] s t)

/-! ### Axle histories and power (chapter 10) -/

/-- RECORD ENTER with its conditions met makes a record of revision 1 with the fields carried, no ceiling, all flags clear
and cut count 0, its list holding a FITTED entry where a position was given, and displaces the position's former holder
with an UNFITTED entry that names the new serial (R192, R194). RECORD FIT with its conditions met gives the record the
position carried, or none, with a FITTED or an UNFITTED entry, and displaces another holder first; one that would change
nothing answers DONE unchanged (R193, R194). Otherwise each is refused with the first reason. Which offset a BAD-FIELD
refusal carries where fields are tied, and the revision beside the mark unchanged, are the model's choices (log entries 26
and 47). -/
def Obligations.RecordsEnteredAndFitted : Prop :=
  (∀ (s : State) (f : Frame) (body : Bytes) (e : EnterFields), asks s f 37 body → parseEnter body = some e →
    (firstFailing (enterConditions s e) = none →
      ∃ t q, exec .recordEnter s = .next t ∧
        answered s f t (.done (.recordEntered 1 ((otherHolder s e.serial e.position).map (·.serial)))) ∧
        findRecord t.history e.serial = some q ∧ q.position = e.position ∧ q.profile = e.profile ∧ q.ds = e.ds ∧
        q.dlt = e.dlt ∧ q.diameters = e.diameters ∧ q.ceiling = none ∧ q.condemned = false ∧ q.matchDue = false ∧
        q.retraceDue = false ∧ q.cutCount = 0 ∧ q.revision = 1 ∧
        (e.position = none → q.entries = [] ∧ t.history.counter = s.history.counter) ∧
        (∀ p, e.position = some p →
          q.entries = [{ seq := t.history.counter, stamp := s.clock, body := .fitted p none }]) ∧
        (otherHolder s e.serial e.position = none →
          t.history.records = s.history.records ++ [q] ∧ t.history.exportQueue = s.history.exportQueue) ∧
        (∀ r p, otherHolder s e.serial e.position = some r → findRecord s.history r.serial = some r →
          e.position = some p →
          t.history.counter = s.history.counter + 2 ∧
          ∃ x, findRecord t.history r.serial = some x ∧ x.position = none ∧ x.revision = r.revision + 1 ∧
            { seq := s.history.counter + 1, stamp := s.clock, body := .unfitted p (some e.serial) } ∈ x.entries) ∧
        handsOn s.notices t ∧ onlyChanges [.link, .history] s t) ∧
    (∀ x, firstFailing (enterConditions s e) = some x →
      ∃ t, exec .recordEnter s = .next t ∧ answered s f t (.refused x.1 x.2) ∧ t.notices = s.notices ∧
        onlyChanges [.link] s t)) ∧
  (∀ (s : State) (f : Frame) (body : Bytes) (serial : Serial) (p : Option Position), asks s f 39 body →
    parseFit body = some (serial, p) →
    (∀ r, findRecord s.history serial = some r → firstFailing (fitConditions s r p) = none → r.position = p →
      ∃ t, exec .recordFit s = .next t ∧ answered s f t (.done (.recordFitted true r.revision none)) ∧
        t.notices = s.notices ∧ onlyChanges [.link] s t) ∧
    (∀ r, findRecord s.history serial = some r → firstFailing (fitConditions s r p) = none → r.position ≠ p →
      ∃ t x e, exec .recordFit s = .next t ∧
        answered s f t (.done (.recordFitted false (r.revision + 1) ((otherHolder s serial p).map (·.serial)))) ∧
        findRecord t.history serial = some x ∧ x.position = p ∧ x.revision = r.revision + 1 ∧ x.diameters = r.diameters ∧
        e ∈ x.entries ∧ e.seq = t.history.counter ∧ e.stamp = s.clock ∧
        (∀ q, p = some q → e.body = .fitted q r.position) ∧
        (∀ former, p = none → r.position = some former → e.body = .unfitted former none) ∧
        (otherHolder s serial p = none → t.history.counter = s.history.counter + 1) ∧
        (∀ h q, otherHolder s serial p = some h → findRecord s.history h.serial = some h → p = some q →
          t.history.counter = s.history.counter + 2 ∧
          ∃ y, findRecord t.history h.serial = some y ∧ y.position = none ∧ y.revision = h.revision + 1 ∧
            { seq := s.history.counter + 1, stamp := s.clock, body := .unfitted q (some serial) } ∈ y.entries) ∧
        handsOn s.notices t ∧ onlyChanges [.link, .history] s t) ∧
    (∀ r x, findRecord s.history serial = some r → firstFailing (fitConditions s r p) = some x →
      ∃ t, exec .recordFit s = .next t ∧ answered s f t (.refused x.1 x.2) ∧ t.notices = s.notices ∧
        onlyChanges [.link] s t) ∧
    (findRecord s.history serial = none →
      ∃ t, exec .recordFit s = .next t ∧ answered s f t (.refused .noRecord .none) ∧ t.notices = s.notices ∧
        onlyChanges [.link] s t))

/-- RECORD AMEND with its conditions met sets the fields given, a ceiling given marking MATCH-DUE and a cleared one
unmarking it, with one AMENDED entry for the fields changed; one that changes nothing answers DONE unchanged and writes
nothing; CONDEMNED is set and never cleared; otherwise it is refused with the first reason, NO-RECORD where no record holds
the serial (R195, R196). RECORD RETIRE of
a record that is no station's occupant, with room for its entries, moves them all into the export queue, deletes the
record and answers how many moved; an occupant's record is refused WRONG-STATE, one without room HISTORY-FULL with the room
count, the total reservation and the entries sought, and no such record NO-RECORD (R197, R201). Which
offset a BAD-FIELD refusal carries where fields are tied, and the revision and the empty list of fields beside the mark
unchanged, are the model's choices (log entries 26 and 47). -/
def Obligations.RecordsAmendedAndRetired : Prop :=
  (∀ (s : State) (f : Frame) (body : Bytes) (e : AmendFields) (r : WheelsetRecord), asks s f 40 body →
    parseAmend body = some e → findRecord s.history e.serial = some r →
    (firstFailing (amendConditions s r e) = none → amendChanges r e ≠ [] →
      ∃ t q, exec .recordAmend s = .next t ∧
        answered s f t (.done (.recordAmended false (r.revision + 1) ((amendChanges r e).map (·.1)))) ∧
        findRecord t.history e.serial = some q ∧ q.profile = e.profile.getD r.profile ∧ q.ds = e.ds.getD r.ds ∧
        q.dlt = e.dlt.getD r.dlt ∧ q.diameters = ⟨e.left.getD r.diameters.l, e.right.getD r.diameters.r⟩ ∧
        q.condemned = (r.condemned || e.condemn) ∧ q.position = r.position ∧ q.retraceDue = r.retraceDue ∧
        q.cutCount = r.cutCount ∧ q.revision = r.revision + 1 ∧
        (e.ceiling = .unchanged → q.ceiling = r.ceiling ∧ q.matchDue = r.matchDue) ∧
        (e.ceiling = .clear → q.ceiling = none ∧ (r.ceiling ≠ none → q.matchDue = false)) ∧
        (∀ v, e.ceiling = .value v → q.ceiling = some v ∧ (r.ceiling ≠ some v → q.matchDue = true)) ∧
        { seq := s.history.counter + 1, stamp := s.clock, body := .amended (amendChanges r e) } ∈ q.entries ∧
        t.history.counter = s.history.counter + 1 ∧ handsOn s.notices t ∧ onlyChanges [.link, .history] s t) ∧
    (firstFailing (amendConditions s r e) = none → amendChanges r e = [] →
      ∃ t, exec .recordAmend s = .next t ∧ answered s f t (.done (.recordAmended true r.revision [])) ∧
        t.notices = s.notices ∧ onlyChanges [.link] s t) ∧
    (∀ x, firstFailing (amendConditions s r e) = some x →
      ∃ t, exec .recordAmend s = .next t ∧ answered s f t (.refused x.1 x.2) ∧ t.notices = s.notices ∧
        onlyChanges [.link] s t)) ∧
  (∀ (s : State) (f : Frame) (body : Bytes) (e : AmendFields), asks s f 40 body → parseAmend body = some e →
    findRecord s.history e.serial = none →
    ∃ t, exec .recordAmend s = .next t ∧ answered s f t (.refused .noRecord .none) ∧ t.notices = s.notices ∧
      onlyChanges [.link] s t) ∧
  (∀ (s : State) (f : Frame) (body : Bytes) (serial : Serial), asks s f 41 body → parseSerial body = some serial →
    (∀ r, findRecord s.history serial = some r → stationsOf s serial = [] →
      totalReservation s + r.entries.length ≤ roomCount s →
      ∃ t, exec .recordRetire s = .next t ∧ answered s f t (.done (.recordRetired r.entries.length)) ∧
        t.history.records = s.history.records.filter (fun q => q.serial != serial) ∧
        findRecord t.history serial = none ∧ t.history.counter = s.history.counter ∧
        t.history.exportQueue.length = s.history.exportQueue.length + r.entries.length ∧
        (∀ x, x ∈ t.history.exportQueue ↔
          x ∈ s.history.exportQueue ∨ ∃ e ∈ r.entries, x = { serial := serial, entry := e }) ∧
        handsOn s.notices t ∧ onlyChanges [.link, .history] s t) ∧
    (∀ r, findRecord s.history serial = some r → stationsOf s serial = [] →
      roomCount s < totalReservation s + r.entries.length →
      ∃ t, exec .recordRetire s = .next t ∧
        answered s f t (.refused .historyFull (.room (roomCount s) (totalReservation s) r.entries.length)) ∧
        t.notices = s.notices ∧ onlyChanges [.link] s t) ∧
    (∀ r, findRecord s.history serial = some r → stationsOf s serial ≠ [] →
      ∃ t, exec .recordRetire s = .next t ∧ answered s f t (.refused .wrongState .none) ∧ t.notices = s.notices ∧
        onlyChanges [.link] s t) ∧
    (findRecord s.history serial = none →
      ∃ t, exec .recordRetire s = .next t ∧ answered s f t (.refused .noRecord .none) ∧ t.notices = s.notices ∧
        onlyChanges [.link] s t))

/-- EXPORT TAKE, in every state of the pit, removes the export queue's head, whose sequence number is the lowest waiting
where the History Store's invariant holds, and answers DONE with it and the queue's length after; a loss of power keeps the
removal. An empty queue is refused EMPTY (R191). -/
def Obligations.ExportTakeRemovesLowest : Prop :=
  (∀ (s : State) (f : Frame) (e : ExportEntry) (rest : List ExportEntry), asks s f 42 [] →
    s.history.exportQueue = e :: rest →
    ∃ t u, exec .exportTake s = .next t ∧ answered s f t (.done (.exportTaken rest.length e)) ∧
      t.history = { s.history with exportQueue := rest } ∧ handsOn s.notices t ∧ onlyChanges [.link, .history] s t ∧
      (historyInv s → ∀ x ∈ rest, e.entry.seq < x.entry.seq) ∧
      exec .powerLoss t = .next u ∧ u.history = t.history) ∧
  (∀ (s : State) (f : Frame), asks s f 42 [] → s.history.exportQueue = [] →
    ∃ t, exec .exportTake s = .next t ∧ answered s f t (.refused .empty .none) ∧ t.notices = s.notices ∧
      onlyChanges [.link] s t)

/-- A loss of power keeps every non-volatile piece: the settings, the profile slots, the history, the insert counts and
the stations' stored fields; nothing volatile stands (R199). That every volatile block and the clock then stand at their
starting values is the model's choice (log entry 2). POWER_UP and the coming up of a RESTART start every block afresh
and recover each station to MOUNTED or VACANT, with RECOVERY posted where power interrupted its work; a cut in hand is
interrupted with cause POWER: its record is lowered and flagged, its CUT-INTERRUPTED entry written and its deferred
ceiling applied (R26, R44, R100, R101, R181). Power-up sets the clock to 0 and UNSET, a RESTART keeps it, and the
attention queue holds CLOCK-UNSET exactly where the clock is UNSET (R15, R20, R26). -/
def Obligations.PowerKeepsStoredAndRecovers : Prop :=
  (∀ s : State, ∃ t, exec .powerLoss s = .next t ∧ t.powered = false ∧ t.settings = s.settings ∧
    t.profiles = { s.profiles with buffer := none } ∧ t.history = s.history ∧
    (∀ h, t.head h = startHead (s.head h).insertCount) ∧ t.heads.loopUp = false ∧ t.heads.view = startView ∧
    (∀ st, t.station st = wokenStation (s.station st)) ∧ t.attention = [] ∧ t.notices = [] ∧ t.link = startLink ∧
    t.loop = startLoop ∧ t.zone = startZone ∧ t.timers = startTimers ∧ t.warnings = startWarnings ∧ t.lift = startLift ∧
    t.clamps = startClamps ∧ t.traces = .both emptyTrace ∧ t.planner = { one := none, two := none } ∧
    t.clock = startClock ∧ t.uptime = 0 ∧ t.pending = s.pending) ∧
  (∀ (s : State) (c : Instr),
    (c = .powerUp ∨ (c = .restartComeUp ∧ s.powered = true ∧ s.link.restarting = true ∧ s.link.backlog = [])) →
    ∃ t, exec c s = .next t ∧ t.powered = true ∧ t.link = startLink ∧ t.loop = startLoop ∧ t.lift = startLift ∧
      t.clamps = startClamps ∧ t.zone = startZone ∧ t.timers = startTimers ∧ t.warnings = startWarnings ∧
      t.settings = s.settings ∧ t.profiles = { s.profiles with buffer := none } ∧ t.pending = s.pending ∧
      t.traces = .both emptyTrace ∧ t.planner = { one := none, two := none } ∧
      t.clock = (if c = .powerUp then startClock else s.clock) ∧
      t.uptime = (if c = .powerUp then 0 else s.uptime) ∧
      t.attention = (if t.clock.set = true then [] else
        [{ kind := .clockUnset, source := .pit, detail := .empty, repeats := 1, first := t.clock, last := t.clock }]) ∧
      (∀ h, t.head h = startHead (s.head h).insertCount) ∧ t.heads.loopUp = false ∧ t.heads.view = startView ∧
      (∀ st, (t.station st).occupant = (s.station st).occupant ∧ (t.station st).plan = none ∧
        (t.station st).work = (if (s.station st).occupant.isSome = true then .mounted else .vacant) ∧
        (t.station st).reservation = 0 ∧ (t.station st).operation = none ∧ (t.station st).held = none ∧
        (0 < (s.station st).reservation → (t.station st).deferred = none)) ∧
      (∀ st r, 0 < (s.station st).reservation →
        ((s.station (otherStation st)).reservation = 0 ∨ (s.station (otherStation st)).occupant ≠ some r.serial) →
        (s.station st).occupant = some r.serial → findRecord s.history r.serial = some r →
        ∃ seq, cutInterrupted t (s.station st) .power r seq t.clock ∧ s.history.counter < seq ∧
          ((s.station (otherStation st)).reservation = 0 → seq = s.history.counter + 1)) ∧
      (∀ st, 0 < (s.station st).reservation ∨ interruptedWork (s.station st).work = true →
        Notice.posting .recovery .pit (.recovery st (s.station st).occupant (s.station st).work (s.station st).operation
          (decide (0 < (s.station st).reservation))) ∈ t.notices) ∧
      ((∀ st, (s.station st).reservation = 0) → t.history = s.history))

/-- The export queue keeps its room: no step that keeps the stations' states fitting their operations and shares lets the
queue's length and the total reservation pass 96, so that the free slots are never fewer than the total reservation (R187 to
R189); and every step keeps the stations fitting (R96, R97, R147, R156). Each change that a command makes to the record of a
station's occupant is told to that station: a record-changed notice
that carries the record as it then stands is under way (R184). A command that lengthens the export queue and leaves it at or
above the threshold posts EXPORT-DUE with the queue's figures; the removal of an entry and a SETTING WRITE post none; and the
part coming up posts it where the queue then stands at the threshold or above (R190). -/
def Obligations.StoreChangesAreTold : Prop :=
  (∀ s t : State, stationsFit s → step s = .next t → stationsFit t) ∧
  (∀ s t : State, stationsFit s → roomInv s → step s = .next t → roomInv t) ∧
  (∀ s : State, roomInv s → totalReservation s ≤ freeSlots s) ∧
  (∀ (s t : State) (c : Instr) (st : StationId) (r q : WheelsetRecord), exec c s = .next t →
    (s.station st).occupant = some r.serial → findRecord s.history r.serial = some r →
    findRecord t.history r.serial = some q → q ≠ r → Notice.recordChanged st q ∈ t.notices) ∧
  (∀ (s : State) (c : Instr), s.powered = true → c ≠ .powerUp → c ≠ .restartComeUp → c ≠ .powerLoss →
    ∃ t, exec c s = .next t ∧
      (s.history.exportQueue.length < t.history.exportQueue.length →
        t.settings.exportThreshold ≤ t.history.exportQueue.length →
        .posting .exportDue .pit (.exportDue t.history.exportQueue.length t.settings.exportThreshold (freeSlots t)
          (totalReservation t) ((t.history.exportQueue.head?.map (·.entry.seq)).getD 0)
          ((t.history.exportQueue.getLast?.map (·.entry.seq)).getD 0)) ∈ t.notices) ∧
      (c = .exportTake ∨ c = .settingWrite → ∀ n ∈ t.notices, isExportDue n = true → n ∈ s.notices)) ∧
  (∀ (s : State) (c : Instr),
    (c = .powerUp ∨ (c = .restartComeUp ∧ s.powered = true ∧ s.link.restarting = true ∧ s.link.backlog = [])) →
    ∃ t, exec c s = .next t ∧ (t.settings.exportThreshold ≤ t.history.exportQueue.length →
      ∃ d, .posting .exportDue .pit d ∈ t.notices))
end

