-- ==== Sys2Proof/Laws/State.lean ====
section
/-! SUPPORT. One lemma per field per update of the state, and the read-after-write lemmas of its fixed tables. -/

namespace Sys2Proof.Machine

@[simp] theorem State.setPowered_powered (s : State) (x : Bool) : (s.setPowered x).powered = x := rfl
@[simp] theorem State.setPowered_uptime (s : State) (x : Bool) : (s.setPowered x).uptime = s.uptime := rfl
@[simp] theorem State.setPowered_clock (s : State) (x : Bool) : (s.setPowered x).clock = s.clock := rfl
@[simp] theorem State.setPowered_link (s : State) (x : Bool) : (s.setPowered x).link = s.link := rfl
@[simp] theorem State.setPowered_attention (s : State) (x : Bool) : (s.setPowered x).attention = s.attention := rfl
@[simp] theorem State.setPowered_settings (s : State) (x : Bool) : (s.setPowered x).settings = s.settings := rfl
@[simp] theorem State.setPowered_loop (s : State) (x : Bool) : (s.setPowered x).loop = s.loop := rfl
@[simp] theorem State.setPowered_zone (s : State) (x : Bool) : (s.setPowered x).zone = s.zone := rfl
@[simp] theorem State.setPowered_timers (s : State) (x : Bool) : (s.setPowered x).timers = s.timers := rfl
@[simp] theorem State.setPowered_warnings (s : State) (x : Bool) : (s.setPowered x).warnings = s.warnings := rfl
@[simp] theorem State.setPowered_lift (s : State) (x : Bool) : (s.setPowered x).lift = s.lift := rfl
@[simp] theorem State.setPowered_clamps (s : State) (x : Bool) : (s.setPowered x).clamps = s.clamps := rfl
@[simp] theorem State.setPowered_stations (s : State) (x : Bool) : (s.setPowered x).stations = s.stations := rfl
@[simp] theorem State.setPowered_heads (s : State) (x : Bool) : (s.setPowered x).heads = s.heads := rfl
@[simp] theorem State.setPowered_traces (s : State) (x : Bool) : (s.setPowered x).traces = s.traces := rfl
@[simp] theorem State.setPowered_profiles (s : State) (x : Bool) : (s.setPowered x).profiles = s.profiles := rfl
@[simp] theorem State.setPowered_planner (s : State) (x : Bool) : (s.setPowered x).planner = s.planner := rfl
@[simp] theorem State.setPowered_history (s : State) (x : Bool) : (s.setPowered x).history = s.history := rfl
@[simp] theorem State.setPowered_notices (s : State) (x : Bool) : (s.setPowered x).notices = s.notices := rfl
@[simp] theorem State.setPowered_pending (s : State) (x : Bool) : (s.setPowered x).pending = s.pending := rfl
@[simp] theorem State.setUptime_powered (s : State) (x : Nat) : (s.setUptime x).powered = s.powered := rfl
@[simp] theorem State.setUptime_uptime (s : State) (x : Nat) : (s.setUptime x).uptime = x := rfl
@[simp] theorem State.setUptime_clock (s : State) (x : Nat) : (s.setUptime x).clock = s.clock := rfl
@[simp] theorem State.setUptime_link (s : State) (x : Nat) : (s.setUptime x).link = s.link := rfl
@[simp] theorem State.setUptime_attention (s : State) (x : Nat) : (s.setUptime x).attention = s.attention := rfl
@[simp] theorem State.setUptime_settings (s : State) (x : Nat) : (s.setUptime x).settings = s.settings := rfl
@[simp] theorem State.setUptime_loop (s : State) (x : Nat) : (s.setUptime x).loop = s.loop := rfl
@[simp] theorem State.setUptime_zone (s : State) (x : Nat) : (s.setUptime x).zone = s.zone := rfl
@[simp] theorem State.setUptime_timers (s : State) (x : Nat) : (s.setUptime x).timers = s.timers := rfl
@[simp] theorem State.setUptime_warnings (s : State) (x : Nat) : (s.setUptime x).warnings = s.warnings := rfl
@[simp] theorem State.setUptime_lift (s : State) (x : Nat) : (s.setUptime x).lift = s.lift := rfl
@[simp] theorem State.setUptime_clamps (s : State) (x : Nat) : (s.setUptime x).clamps = s.clamps := rfl
@[simp] theorem State.setUptime_stations (s : State) (x : Nat) : (s.setUptime x).stations = s.stations := rfl
@[simp] theorem State.setUptime_heads (s : State) (x : Nat) : (s.setUptime x).heads = s.heads := rfl
@[simp] theorem State.setUptime_traces (s : State) (x : Nat) : (s.setUptime x).traces = s.traces := rfl
@[simp] theorem State.setUptime_profiles (s : State) (x : Nat) : (s.setUptime x).profiles = s.profiles := rfl
@[simp] theorem State.setUptime_planner (s : State) (x : Nat) : (s.setUptime x).planner = s.planner := rfl
@[simp] theorem State.setUptime_history (s : State) (x : Nat) : (s.setUptime x).history = s.history := rfl
@[simp] theorem State.setUptime_notices (s : State) (x : Nat) : (s.setUptime x).notices = s.notices := rfl
@[simp] theorem State.setUptime_pending (s : State) (x : Nat) : (s.setUptime x).pending = s.pending := rfl
@[simp] theorem State.setClock_powered (s : State) (x : Stamp) : (s.setClock x).powered = s.powered := rfl
@[simp] theorem State.setClock_uptime (s : State) (x : Stamp) : (s.setClock x).uptime = s.uptime := rfl
@[simp] theorem State.setClock_clock (s : State) (x : Stamp) : (s.setClock x).clock = x := rfl
@[simp] theorem State.setClock_link (s : State) (x : Stamp) : (s.setClock x).link = s.link := rfl
@[simp] theorem State.setClock_attention (s : State) (x : Stamp) : (s.setClock x).attention = s.attention := rfl
@[simp] theorem State.setClock_settings (s : State) (x : Stamp) : (s.setClock x).settings = s.settings := rfl
@[simp] theorem State.setClock_loop (s : State) (x : Stamp) : (s.setClock x).loop = s.loop := rfl
@[simp] theorem State.setClock_zone (s : State) (x : Stamp) : (s.setClock x).zone = s.zone := rfl
@[simp] theorem State.setClock_timers (s : State) (x : Stamp) : (s.setClock x).timers = s.timers := rfl
@[simp] theorem State.setClock_warnings (s : State) (x : Stamp) : (s.setClock x).warnings = s.warnings := rfl
@[simp] theorem State.setClock_lift (s : State) (x : Stamp) : (s.setClock x).lift = s.lift := rfl
@[simp] theorem State.setClock_clamps (s : State) (x : Stamp) : (s.setClock x).clamps = s.clamps := rfl
@[simp] theorem State.setClock_stations (s : State) (x : Stamp) : (s.setClock x).stations = s.stations := rfl
@[simp] theorem State.setClock_heads (s : State) (x : Stamp) : (s.setClock x).heads = s.heads := rfl
@[simp] theorem State.setClock_traces (s : State) (x : Stamp) : (s.setClock x).traces = s.traces := rfl
@[simp] theorem State.setClock_profiles (s : State) (x : Stamp) : (s.setClock x).profiles = s.profiles := rfl
@[simp] theorem State.setClock_planner (s : State) (x : Stamp) : (s.setClock x).planner = s.planner := rfl
@[simp] theorem State.setClock_history (s : State) (x : Stamp) : (s.setClock x).history = s.history := rfl
@[simp] theorem State.setClock_notices (s : State) (x : Stamp) : (s.setClock x).notices = s.notices := rfl
@[simp] theorem State.setClock_pending (s : State) (x : Stamp) : (s.setClock x).pending = s.pending := rfl
@[simp] theorem State.setLink_powered (s : State) (x : Link) : (s.setLink x).powered = s.powered := rfl
@[simp] theorem State.setLink_uptime (s : State) (x : Link) : (s.setLink x).uptime = s.uptime := rfl
@[simp] theorem State.setLink_clock (s : State) (x : Link) : (s.setLink x).clock = s.clock := rfl
@[simp] theorem State.setLink_link (s : State) (x : Link) : (s.setLink x).link = x := rfl
@[simp] theorem State.setLink_attention (s : State) (x : Link) : (s.setLink x).attention = s.attention := rfl
@[simp] theorem State.setLink_settings (s : State) (x : Link) : (s.setLink x).settings = s.settings := rfl
@[simp] theorem State.setLink_loop (s : State) (x : Link) : (s.setLink x).loop = s.loop := rfl
@[simp] theorem State.setLink_zone (s : State) (x : Link) : (s.setLink x).zone = s.zone := rfl
@[simp] theorem State.setLink_timers (s : State) (x : Link) : (s.setLink x).timers = s.timers := rfl
@[simp] theorem State.setLink_warnings (s : State) (x : Link) : (s.setLink x).warnings = s.warnings := rfl
@[simp] theorem State.setLink_lift (s : State) (x : Link) : (s.setLink x).lift = s.lift := rfl
@[simp] theorem State.setLink_clamps (s : State) (x : Link) : (s.setLink x).clamps = s.clamps := rfl
@[simp] theorem State.setLink_stations (s : State) (x : Link) : (s.setLink x).stations = s.stations := rfl
@[simp] theorem State.setLink_heads (s : State) (x : Link) : (s.setLink x).heads = s.heads := rfl
@[simp] theorem State.setLink_traces (s : State) (x : Link) : (s.setLink x).traces = s.traces := rfl
@[simp] theorem State.setLink_profiles (s : State) (x : Link) : (s.setLink x).profiles = s.profiles := rfl
@[simp] theorem State.setLink_planner (s : State) (x : Link) : (s.setLink x).planner = s.planner := rfl
@[simp] theorem State.setLink_history (s : State) (x : Link) : (s.setLink x).history = s.history := rfl
@[simp] theorem State.setLink_notices (s : State) (x : Link) : (s.setLink x).notices = s.notices := rfl
@[simp] theorem State.setLink_pending (s : State) (x : Link) : (s.setLink x).pending = s.pending := rfl
@[simp] theorem State.setAttention_powered (s : State) (x : List AttentionItem) : (s.setAttention x).powered = s.powered := rfl
@[simp] theorem State.setAttention_uptime (s : State) (x : List AttentionItem) : (s.setAttention x).uptime = s.uptime := rfl
@[simp] theorem State.setAttention_clock (s : State) (x : List AttentionItem) : (s.setAttention x).clock = s.clock := rfl
@[simp] theorem State.setAttention_link (s : State) (x : List AttentionItem) : (s.setAttention x).link = s.link := rfl
@[simp] theorem State.setAttention_attention (s : State) (x : List AttentionItem) : (s.setAttention x).attention = x := rfl
@[simp] theorem State.setAttention_settings (s : State) (x : List AttentionItem) : (s.setAttention x).settings = s.settings := rfl
@[simp] theorem State.setAttention_loop (s : State) (x : List AttentionItem) : (s.setAttention x).loop = s.loop := rfl
@[simp] theorem State.setAttention_zone (s : State) (x : List AttentionItem) : (s.setAttention x).zone = s.zone := rfl
@[simp] theorem State.setAttention_timers (s : State) (x : List AttentionItem) : (s.setAttention x).timers = s.timers := rfl
@[simp] theorem State.setAttention_warnings (s : State) (x : List AttentionItem) : (s.setAttention x).warnings = s.warnings := rfl
@[simp] theorem State.setAttention_lift (s : State) (x : List AttentionItem) : (s.setAttention x).lift = s.lift := rfl
@[simp] theorem State.setAttention_clamps (s : State) (x : List AttentionItem) : (s.setAttention x).clamps = s.clamps := rfl
@[simp] theorem State.setAttention_stations (s : State) (x : List AttentionItem) : (s.setAttention x).stations = s.stations := rfl
@[simp] theorem State.setAttention_heads (s : State) (x : List AttentionItem) : (s.setAttention x).heads = s.heads := rfl
@[simp] theorem State.setAttention_traces (s : State) (x : List AttentionItem) : (s.setAttention x).traces = s.traces := rfl
@[simp] theorem State.setAttention_profiles (s : State) (x : List AttentionItem) : (s.setAttention x).profiles = s.profiles := rfl
@[simp] theorem State.setAttention_planner (s : State) (x : List AttentionItem) : (s.setAttention x).planner = s.planner := rfl
@[simp] theorem State.setAttention_history (s : State) (x : List AttentionItem) : (s.setAttention x).history = s.history := rfl
@[simp] theorem State.setAttention_notices (s : State) (x : List AttentionItem) : (s.setAttention x).notices = s.notices := rfl
@[simp] theorem State.setAttention_pending (s : State) (x : List AttentionItem) : (s.setAttention x).pending = s.pending := rfl
@[simp] theorem State.setSettings_powered (s : State) (x : Settings) : (s.setSettings x).powered = s.powered := rfl
@[simp] theorem State.setSettings_uptime (s : State) (x : Settings) : (s.setSettings x).uptime = s.uptime := rfl
@[simp] theorem State.setSettings_clock (s : State) (x : Settings) : (s.setSettings x).clock = s.clock := rfl
@[simp] theorem State.setSettings_link (s : State) (x : Settings) : (s.setSettings x).link = s.link := rfl
@[simp] theorem State.setSettings_attention (s : State) (x : Settings) : (s.setSettings x).attention = s.attention := rfl
@[simp] theorem State.setSettings_settings (s : State) (x : Settings) : (s.setSettings x).settings = x := rfl
@[simp] theorem State.setSettings_loop (s : State) (x : Settings) : (s.setSettings x).loop = s.loop := rfl
@[simp] theorem State.setSettings_zone (s : State) (x : Settings) : (s.setSettings x).zone = s.zone := rfl
@[simp] theorem State.setSettings_timers (s : State) (x : Settings) : (s.setSettings x).timers = s.timers := rfl
@[simp] theorem State.setSettings_warnings (s : State) (x : Settings) : (s.setSettings x).warnings = s.warnings := rfl
@[simp] theorem State.setSettings_lift (s : State) (x : Settings) : (s.setSettings x).lift = s.lift := rfl
@[simp] theorem State.setSettings_clamps (s : State) (x : Settings) : (s.setSettings x).clamps = s.clamps := rfl
@[simp] theorem State.setSettings_stations (s : State) (x : Settings) : (s.setSettings x).stations = s.stations := rfl
@[simp] theorem State.setSettings_heads (s : State) (x : Settings) : (s.setSettings x).heads = s.heads := rfl
@[simp] theorem State.setSettings_traces (s : State) (x : Settings) : (s.setSettings x).traces = s.traces := rfl
@[simp] theorem State.setSettings_profiles (s : State) (x : Settings) : (s.setSettings x).profiles = s.profiles := rfl
@[simp] theorem State.setSettings_planner (s : State) (x : Settings) : (s.setSettings x).planner = s.planner := rfl
@[simp] theorem State.setSettings_history (s : State) (x : Settings) : (s.setSettings x).history = s.history := rfl
@[simp] theorem State.setSettings_notices (s : State) (x : Settings) : (s.setSettings x).notices = s.notices := rfl
@[simp] theorem State.setSettings_pending (s : State) (x : Settings) : (s.setSettings x).pending = s.pending := rfl
@[simp] theorem State.setLoop_powered (s : State) (x : LoopControl) : (s.setLoop x).powered = s.powered := rfl
@[simp] theorem State.setLoop_uptime (s : State) (x : LoopControl) : (s.setLoop x).uptime = s.uptime := rfl
@[simp] theorem State.setLoop_clock (s : State) (x : LoopControl) : (s.setLoop x).clock = s.clock := rfl
@[simp] theorem State.setLoop_link (s : State) (x : LoopControl) : (s.setLoop x).link = s.link := rfl
@[simp] theorem State.setLoop_attention (s : State) (x : LoopControl) : (s.setLoop x).attention = s.attention := rfl
@[simp] theorem State.setLoop_settings (s : State) (x : LoopControl) : (s.setLoop x).settings = s.settings := rfl
@[simp] theorem State.setLoop_loop (s : State) (x : LoopControl) : (s.setLoop x).loop = x := rfl
@[simp] theorem State.setLoop_zone (s : State) (x : LoopControl) : (s.setLoop x).zone = s.zone := rfl
@[simp] theorem State.setLoop_timers (s : State) (x : LoopControl) : (s.setLoop x).timers = s.timers := rfl
@[simp] theorem State.setLoop_warnings (s : State) (x : LoopControl) : (s.setLoop x).warnings = s.warnings := rfl
@[simp] theorem State.setLoop_lift (s : State) (x : LoopControl) : (s.setLoop x).lift = s.lift := rfl
@[simp] theorem State.setLoop_clamps (s : State) (x : LoopControl) : (s.setLoop x).clamps = s.clamps := rfl
@[simp] theorem State.setLoop_stations (s : State) (x : LoopControl) : (s.setLoop x).stations = s.stations := rfl
@[simp] theorem State.setLoop_heads (s : State) (x : LoopControl) : (s.setLoop x).heads = s.heads := rfl
@[simp] theorem State.setLoop_traces (s : State) (x : LoopControl) : (s.setLoop x).traces = s.traces := rfl
@[simp] theorem State.setLoop_profiles (s : State) (x : LoopControl) : (s.setLoop x).profiles = s.profiles := rfl
@[simp] theorem State.setLoop_planner (s : State) (x : LoopControl) : (s.setLoop x).planner = s.planner := rfl
@[simp] theorem State.setLoop_history (s : State) (x : LoopControl) : (s.setLoop x).history = s.history := rfl
@[simp] theorem State.setLoop_notices (s : State) (x : LoopControl) : (s.setLoop x).notices = s.notices := rfl
@[simp] theorem State.setLoop_pending (s : State) (x : LoopControl) : (s.setLoop x).pending = s.pending := rfl
@[simp] theorem State.setZone_powered (s : State) (x : ZoneMonitor) : (s.setZone x).powered = s.powered := rfl
@[simp] theorem State.setZone_uptime (s : State) (x : ZoneMonitor) : (s.setZone x).uptime = s.uptime := rfl
@[simp] theorem State.setZone_clock (s : State) (x : ZoneMonitor) : (s.setZone x).clock = s.clock := rfl
@[simp] theorem State.setZone_link (s : State) (x : ZoneMonitor) : (s.setZone x).link = s.link := rfl
@[simp] theorem State.setZone_attention (s : State) (x : ZoneMonitor) : (s.setZone x).attention = s.attention := rfl
@[simp] theorem State.setZone_settings (s : State) (x : ZoneMonitor) : (s.setZone x).settings = s.settings := rfl
@[simp] theorem State.setZone_loop (s : State) (x : ZoneMonitor) : (s.setZone x).loop = s.loop := rfl
@[simp] theorem State.setZone_zone (s : State) (x : ZoneMonitor) : (s.setZone x).zone = x := rfl
@[simp] theorem State.setZone_timers (s : State) (x : ZoneMonitor) : (s.setZone x).timers = s.timers := rfl
@[simp] theorem State.setZone_warnings (s : State) (x : ZoneMonitor) : (s.setZone x).warnings = s.warnings := rfl
@[simp] theorem State.setZone_lift (s : State) (x : ZoneMonitor) : (s.setZone x).lift = s.lift := rfl
@[simp] theorem State.setZone_clamps (s : State) (x : ZoneMonitor) : (s.setZone x).clamps = s.clamps := rfl
@[simp] theorem State.setZone_stations (s : State) (x : ZoneMonitor) : (s.setZone x).stations = s.stations := rfl
@[simp] theorem State.setZone_heads (s : State) (x : ZoneMonitor) : (s.setZone x).heads = s.heads := rfl
@[simp] theorem State.setZone_traces (s : State) (x : ZoneMonitor) : (s.setZone x).traces = s.traces := rfl
@[simp] theorem State.setZone_profiles (s : State) (x : ZoneMonitor) : (s.setZone x).profiles = s.profiles := rfl
@[simp] theorem State.setZone_planner (s : State) (x : ZoneMonitor) : (s.setZone x).planner = s.planner := rfl
@[simp] theorem State.setZone_history (s : State) (x : ZoneMonitor) : (s.setZone x).history = s.history := rfl
@[simp] theorem State.setZone_notices (s : State) (x : ZoneMonitor) : (s.setZone x).notices = s.notices := rfl
@[simp] theorem State.setZone_pending (s : State) (x : ZoneMonitor) : (s.setZone x).pending = s.pending := rfl
@[simp] theorem State.setTimers_powered (s : State) (x : TimerBank) : (s.setTimers x).powered = s.powered := rfl
@[simp] theorem State.setTimers_uptime (s : State) (x : TimerBank) : (s.setTimers x).uptime = s.uptime := rfl
@[simp] theorem State.setTimers_clock (s : State) (x : TimerBank) : (s.setTimers x).clock = s.clock := rfl
@[simp] theorem State.setTimers_link (s : State) (x : TimerBank) : (s.setTimers x).link = s.link := rfl
@[simp] theorem State.setTimers_attention (s : State) (x : TimerBank) : (s.setTimers x).attention = s.attention := rfl
@[simp] theorem State.setTimers_settings (s : State) (x : TimerBank) : (s.setTimers x).settings = s.settings := rfl
@[simp] theorem State.setTimers_loop (s : State) (x : TimerBank) : (s.setTimers x).loop = s.loop := rfl
@[simp] theorem State.setTimers_zone (s : State) (x : TimerBank) : (s.setTimers x).zone = s.zone := rfl
@[simp] theorem State.setTimers_timers (s : State) (x : TimerBank) : (s.setTimers x).timers = x := rfl
@[simp] theorem State.setTimers_warnings (s : State) (x : TimerBank) : (s.setTimers x).warnings = s.warnings := rfl
@[simp] theorem State.setTimers_lift (s : State) (x : TimerBank) : (s.setTimers x).lift = s.lift := rfl
@[simp] theorem State.setTimers_clamps (s : State) (x : TimerBank) : (s.setTimers x).clamps = s.clamps := rfl
@[simp] theorem State.setTimers_stations (s : State) (x : TimerBank) : (s.setTimers x).stations = s.stations := rfl
@[simp] theorem State.setTimers_heads (s : State) (x : TimerBank) : (s.setTimers x).heads = s.heads := rfl
@[simp] theorem State.setTimers_traces (s : State) (x : TimerBank) : (s.setTimers x).traces = s.traces := rfl
@[simp] theorem State.setTimers_profiles (s : State) (x : TimerBank) : (s.setTimers x).profiles = s.profiles := rfl
@[simp] theorem State.setTimers_planner (s : State) (x : TimerBank) : (s.setTimers x).planner = s.planner := rfl
@[simp] theorem State.setTimers_history (s : State) (x : TimerBank) : (s.setTimers x).history = s.history := rfl
@[simp] theorem State.setTimers_notices (s : State) (x : TimerBank) : (s.setTimers x).notices = s.notices := rfl
@[simp] theorem State.setTimers_pending (s : State) (x : TimerBank) : (s.setTimers x).pending = s.pending := rfl
@[simp] theorem State.setWarnings_powered (s : State) (x : Warnings) : (s.setWarnings x).powered = s.powered := rfl
@[simp] theorem State.setWarnings_uptime (s : State) (x : Warnings) : (s.setWarnings x).uptime = s.uptime := rfl
@[simp] theorem State.setWarnings_clock (s : State) (x : Warnings) : (s.setWarnings x).clock = s.clock := rfl
@[simp] theorem State.setWarnings_link (s : State) (x : Warnings) : (s.setWarnings x).link = s.link := rfl
@[simp] theorem State.setWarnings_attention (s : State) (x : Warnings) : (s.setWarnings x).attention = s.attention := rfl
@[simp] theorem State.setWarnings_settings (s : State) (x : Warnings) : (s.setWarnings x).settings = s.settings := rfl
@[simp] theorem State.setWarnings_loop (s : State) (x : Warnings) : (s.setWarnings x).loop = s.loop := rfl
@[simp] theorem State.setWarnings_zone (s : State) (x : Warnings) : (s.setWarnings x).zone = s.zone := rfl
@[simp] theorem State.setWarnings_timers (s : State) (x : Warnings) : (s.setWarnings x).timers = s.timers := rfl
@[simp] theorem State.setWarnings_warnings (s : State) (x : Warnings) : (s.setWarnings x).warnings = x := rfl
@[simp] theorem State.setWarnings_lift (s : State) (x : Warnings) : (s.setWarnings x).lift = s.lift := rfl
@[simp] theorem State.setWarnings_clamps (s : State) (x : Warnings) : (s.setWarnings x).clamps = s.clamps := rfl
@[simp] theorem State.setWarnings_stations (s : State) (x : Warnings) : (s.setWarnings x).stations = s.stations := rfl
@[simp] theorem State.setWarnings_heads (s : State) (x : Warnings) : (s.setWarnings x).heads = s.heads := rfl
@[simp] theorem State.setWarnings_traces (s : State) (x : Warnings) : (s.setWarnings x).traces = s.traces := rfl
@[simp] theorem State.setWarnings_profiles (s : State) (x : Warnings) : (s.setWarnings x).profiles = s.profiles := rfl
@[simp] theorem State.setWarnings_planner (s : State) (x : Warnings) : (s.setWarnings x).planner = s.planner := rfl
@[simp] theorem State.setWarnings_history (s : State) (x : Warnings) : (s.setWarnings x).history = s.history := rfl
@[simp] theorem State.setWarnings_notices (s : State) (x : Warnings) : (s.setWarnings x).notices = s.notices := rfl
@[simp] theorem State.setWarnings_pending (s : State) (x : Warnings) : (s.setWarnings x).pending = s.pending := rfl
@[simp] theorem State.setLift_powered (s : State) (x : Lift) : (s.setLift x).powered = s.powered := rfl
@[simp] theorem State.setLift_uptime (s : State) (x : Lift) : (s.setLift x).uptime = s.uptime := rfl
@[simp] theorem State.setLift_clock (s : State) (x : Lift) : (s.setLift x).clock = s.clock := rfl
@[simp] theorem State.setLift_link (s : State) (x : Lift) : (s.setLift x).link = s.link := rfl
@[simp] theorem State.setLift_attention (s : State) (x : Lift) : (s.setLift x).attention = s.attention := rfl
@[simp] theorem State.setLift_settings (s : State) (x : Lift) : (s.setLift x).settings = s.settings := rfl
@[simp] theorem State.setLift_loop (s : State) (x : Lift) : (s.setLift x).loop = s.loop := rfl
@[simp] theorem State.setLift_zone (s : State) (x : Lift) : (s.setLift x).zone = s.zone := rfl
@[simp] theorem State.setLift_timers (s : State) (x : Lift) : (s.setLift x).timers = s.timers := rfl
@[simp] theorem State.setLift_warnings (s : State) (x : Lift) : (s.setLift x).warnings = s.warnings := rfl
@[simp] theorem State.setLift_lift (s : State) (x : Lift) : (s.setLift x).lift = x := rfl
@[simp] theorem State.setLift_clamps (s : State) (x : Lift) : (s.setLift x).clamps = s.clamps := rfl
@[simp] theorem State.setLift_stations (s : State) (x : Lift) : (s.setLift x).stations = s.stations := rfl
@[simp] theorem State.setLift_heads (s : State) (x : Lift) : (s.setLift x).heads = s.heads := rfl
@[simp] theorem State.setLift_traces (s : State) (x : Lift) : (s.setLift x).traces = s.traces := rfl
@[simp] theorem State.setLift_profiles (s : State) (x : Lift) : (s.setLift x).profiles = s.profiles := rfl
@[simp] theorem State.setLift_planner (s : State) (x : Lift) : (s.setLift x).planner = s.planner := rfl
@[simp] theorem State.setLift_history (s : State) (x : Lift) : (s.setLift x).history = s.history := rfl
@[simp] theorem State.setLift_notices (s : State) (x : Lift) : (s.setLift x).notices = s.notices := rfl
@[simp] theorem State.setLift_pending (s : State) (x : Lift) : (s.setLift x).pending = s.pending := rfl
@[simp] theorem State.setClamps_powered (s : State) (x : ClampControl) : (s.setClamps x).powered = s.powered := rfl
@[simp] theorem State.setClamps_uptime (s : State) (x : ClampControl) : (s.setClamps x).uptime = s.uptime := rfl
@[simp] theorem State.setClamps_clock (s : State) (x : ClampControl) : (s.setClamps x).clock = s.clock := rfl
@[simp] theorem State.setClamps_link (s : State) (x : ClampControl) : (s.setClamps x).link = s.link := rfl
@[simp] theorem State.setClamps_attention (s : State) (x : ClampControl) : (s.setClamps x).attention = s.attention := rfl
@[simp] theorem State.setClamps_settings (s : State) (x : ClampControl) : (s.setClamps x).settings = s.settings := rfl
@[simp] theorem State.setClamps_loop (s : State) (x : ClampControl) : (s.setClamps x).loop = s.loop := rfl
@[simp] theorem State.setClamps_zone (s : State) (x : ClampControl) : (s.setClamps x).zone = s.zone := rfl
@[simp] theorem State.setClamps_timers (s : State) (x : ClampControl) : (s.setClamps x).timers = s.timers := rfl
@[simp] theorem State.setClamps_warnings (s : State) (x : ClampControl) : (s.setClamps x).warnings = s.warnings := rfl
@[simp] theorem State.setClamps_lift (s : State) (x : ClampControl) : (s.setClamps x).lift = s.lift := rfl
@[simp] theorem State.setClamps_clamps (s : State) (x : ClampControl) : (s.setClamps x).clamps = x := rfl
@[simp] theorem State.setClamps_stations (s : State) (x : ClampControl) : (s.setClamps x).stations = s.stations := rfl
@[simp] theorem State.setClamps_heads (s : State) (x : ClampControl) : (s.setClamps x).heads = s.heads := rfl
@[simp] theorem State.setClamps_traces (s : State) (x : ClampControl) : (s.setClamps x).traces = s.traces := rfl
@[simp] theorem State.setClamps_profiles (s : State) (x : ClampControl) : (s.setClamps x).profiles = s.profiles := rfl
@[simp] theorem State.setClamps_planner (s : State) (x : ClampControl) : (s.setClamps x).planner = s.planner := rfl
@[simp] theorem State.setClamps_history (s : State) (x : ClampControl) : (s.setClamps x).history = s.history := rfl
@[simp] theorem State.setClamps_notices (s : State) (x : ClampControl) : (s.setClamps x).notices = s.notices := rfl
@[simp] theorem State.setClamps_pending (s : State) (x : ClampControl) : (s.setClamps x).pending = s.pending := rfl
@[simp] theorem State.setStations_powered (s : State) (x : PerStation Station) : (s.setStations x).powered = s.powered := rfl
@[simp] theorem State.setStations_uptime (s : State) (x : PerStation Station) : (s.setStations x).uptime = s.uptime := rfl
@[simp] theorem State.setStations_clock (s : State) (x : PerStation Station) : (s.setStations x).clock = s.clock := rfl
@[simp] theorem State.setStations_link (s : State) (x : PerStation Station) : (s.setStations x).link = s.link := rfl
@[simp] theorem State.setStations_attention (s : State) (x : PerStation Station) : (s.setStations x).attention = s.attention := rfl
@[simp] theorem State.setStations_settings (s : State) (x : PerStation Station) : (s.setStations x).settings = s.settings := rfl
@[simp] theorem State.setStations_loop (s : State) (x : PerStation Station) : (s.setStations x).loop = s.loop := rfl
@[simp] theorem State.setStations_zone (s : State) (x : PerStation Station) : (s.setStations x).zone = s.zone := rfl
@[simp] theorem State.setStations_timers (s : State) (x : PerStation Station) : (s.setStations x).timers = s.timers := rfl
@[simp] theorem State.setStations_warnings (s : State) (x : PerStation Station) : (s.setStations x).warnings = s.warnings := rfl
@[simp] theorem State.setStations_lift (s : State) (x : PerStation Station) : (s.setStations x).lift = s.lift := rfl
@[simp] theorem State.setStations_clamps (s : State) (x : PerStation Station) : (s.setStations x).clamps = s.clamps := rfl
@[simp] theorem State.setStations_stations (s : State) (x : PerStation Station) : (s.setStations x).stations = x := rfl
@[simp] theorem State.setStations_heads (s : State) (x : PerStation Station) : (s.setStations x).heads = s.heads := rfl
@[simp] theorem State.setStations_traces (s : State) (x : PerStation Station) : (s.setStations x).traces = s.traces := rfl
@[simp] theorem State.setStations_profiles (s : State) (x : PerStation Station) : (s.setStations x).profiles = s.profiles := rfl
@[simp] theorem State.setStations_planner (s : State) (x : PerStation Station) : (s.setStations x).planner = s.planner := rfl
@[simp] theorem State.setStations_history (s : State) (x : PerStation Station) : (s.setStations x).history = s.history := rfl
@[simp] theorem State.setStations_notices (s : State) (x : PerStation Station) : (s.setStations x).notices = s.notices := rfl
@[simp] theorem State.setStations_pending (s : State) (x : PerStation Station) : (s.setStations x).pending = s.pending := rfl
@[simp] theorem State.setHeads_powered (s : State) (x : HeadControl) : (s.setHeads x).powered = s.powered := rfl
@[simp] theorem State.setHeads_uptime (s : State) (x : HeadControl) : (s.setHeads x).uptime = s.uptime := rfl
@[simp] theorem State.setHeads_clock (s : State) (x : HeadControl) : (s.setHeads x).clock = s.clock := rfl
@[simp] theorem State.setHeads_link (s : State) (x : HeadControl) : (s.setHeads x).link = s.link := rfl
@[simp] theorem State.setHeads_attention (s : State) (x : HeadControl) : (s.setHeads x).attention = s.attention := rfl
@[simp] theorem State.setHeads_settings (s : State) (x : HeadControl) : (s.setHeads x).settings = s.settings := rfl
@[simp] theorem State.setHeads_loop (s : State) (x : HeadControl) : (s.setHeads x).loop = s.loop := rfl
@[simp] theorem State.setHeads_zone (s : State) (x : HeadControl) : (s.setHeads x).zone = s.zone := rfl
@[simp] theorem State.setHeads_timers (s : State) (x : HeadControl) : (s.setHeads x).timers = s.timers := rfl
@[simp] theorem State.setHeads_warnings (s : State) (x : HeadControl) : (s.setHeads x).warnings = s.warnings := rfl
@[simp] theorem State.setHeads_lift (s : State) (x : HeadControl) : (s.setHeads x).lift = s.lift := rfl
@[simp] theorem State.setHeads_clamps (s : State) (x : HeadControl) : (s.setHeads x).clamps = s.clamps := rfl
@[simp] theorem State.setHeads_stations (s : State) (x : HeadControl) : (s.setHeads x).stations = s.stations := rfl
@[simp] theorem State.setHeads_heads (s : State) (x : HeadControl) : (s.setHeads x).heads = x := rfl
@[simp] theorem State.setHeads_traces (s : State) (x : HeadControl) : (s.setHeads x).traces = s.traces := rfl
@[simp] theorem State.setHeads_profiles (s : State) (x : HeadControl) : (s.setHeads x).profiles = s.profiles := rfl
@[simp] theorem State.setHeads_planner (s : State) (x : HeadControl) : (s.setHeads x).planner = s.planner := rfl
@[simp] theorem State.setHeads_history (s : State) (x : HeadControl) : (s.setHeads x).history = s.history := rfl
@[simp] theorem State.setHeads_notices (s : State) (x : HeadControl) : (s.setHeads x).notices = s.notices := rfl
@[simp] theorem State.setHeads_pending (s : State) (x : HeadControl) : (s.setHeads x).pending = s.pending := rfl
@[simp] theorem State.setTraces_powered (s : State) (x : PerStation TraceUnit) : (s.setTraces x).powered = s.powered := rfl
@[simp] theorem State.setTraces_uptime (s : State) (x : PerStation TraceUnit) : (s.setTraces x).uptime = s.uptime := rfl
@[simp] theorem State.setTraces_clock (s : State) (x : PerStation TraceUnit) : (s.setTraces x).clock = s.clock := rfl
@[simp] theorem State.setTraces_link (s : State) (x : PerStation TraceUnit) : (s.setTraces x).link = s.link := rfl
@[simp] theorem State.setTraces_attention (s : State) (x : PerStation TraceUnit) : (s.setTraces x).attention = s.attention := rfl
@[simp] theorem State.setTraces_settings (s : State) (x : PerStation TraceUnit) : (s.setTraces x).settings = s.settings := rfl
@[simp] theorem State.setTraces_loop (s : State) (x : PerStation TraceUnit) : (s.setTraces x).loop = s.loop := rfl
@[simp] theorem State.setTraces_zone (s : State) (x : PerStation TraceUnit) : (s.setTraces x).zone = s.zone := rfl
@[simp] theorem State.setTraces_timers (s : State) (x : PerStation TraceUnit) : (s.setTraces x).timers = s.timers := rfl
@[simp] theorem State.setTraces_warnings (s : State) (x : PerStation TraceUnit) : (s.setTraces x).warnings = s.warnings := rfl
@[simp] theorem State.setTraces_lift (s : State) (x : PerStation TraceUnit) : (s.setTraces x).lift = s.lift := rfl
@[simp] theorem State.setTraces_clamps (s : State) (x : PerStation TraceUnit) : (s.setTraces x).clamps = s.clamps := rfl
@[simp] theorem State.setTraces_stations (s : State) (x : PerStation TraceUnit) : (s.setTraces x).stations = s.stations := rfl
@[simp] theorem State.setTraces_heads (s : State) (x : PerStation TraceUnit) : (s.setTraces x).heads = s.heads := rfl
@[simp] theorem State.setTraces_traces (s : State) (x : PerStation TraceUnit) : (s.setTraces x).traces = x := rfl
@[simp] theorem State.setTraces_profiles (s : State) (x : PerStation TraceUnit) : (s.setTraces x).profiles = s.profiles := rfl
@[simp] theorem State.setTraces_planner (s : State) (x : PerStation TraceUnit) : (s.setTraces x).planner = s.planner := rfl
@[simp] theorem State.setTraces_history (s : State) (x : PerStation TraceUnit) : (s.setTraces x).history = s.history := rfl
@[simp] theorem State.setTraces_notices (s : State) (x : PerStation TraceUnit) : (s.setTraces x).notices = s.notices := rfl
@[simp] theorem State.setTraces_pending (s : State) (x : PerStation TraceUnit) : (s.setTraces x).pending = s.pending := rfl
@[simp] theorem State.setProfiles_powered (s : State) (x : ProfileTable) : (s.setProfiles x).powered = s.powered := rfl
@[simp] theorem State.setProfiles_uptime (s : State) (x : ProfileTable) : (s.setProfiles x).uptime = s.uptime := rfl
@[simp] theorem State.setProfiles_clock (s : State) (x : ProfileTable) : (s.setProfiles x).clock = s.clock := rfl
@[simp] theorem State.setProfiles_link (s : State) (x : ProfileTable) : (s.setProfiles x).link = s.link := rfl
@[simp] theorem State.setProfiles_attention (s : State) (x : ProfileTable) : (s.setProfiles x).attention = s.attention := rfl
@[simp] theorem State.setProfiles_settings (s : State) (x : ProfileTable) : (s.setProfiles x).settings = s.settings := rfl
@[simp] theorem State.setProfiles_loop (s : State) (x : ProfileTable) : (s.setProfiles x).loop = s.loop := rfl
@[simp] theorem State.setProfiles_zone (s : State) (x : ProfileTable) : (s.setProfiles x).zone = s.zone := rfl
@[simp] theorem State.setProfiles_timers (s : State) (x : ProfileTable) : (s.setProfiles x).timers = s.timers := rfl
@[simp] theorem State.setProfiles_warnings (s : State) (x : ProfileTable) : (s.setProfiles x).warnings = s.warnings := rfl
@[simp] theorem State.setProfiles_lift (s : State) (x : ProfileTable) : (s.setProfiles x).lift = s.lift := rfl
@[simp] theorem State.setProfiles_clamps (s : State) (x : ProfileTable) : (s.setProfiles x).clamps = s.clamps := rfl
@[simp] theorem State.setProfiles_stations (s : State) (x : ProfileTable) : (s.setProfiles x).stations = s.stations := rfl
@[simp] theorem State.setProfiles_heads (s : State) (x : ProfileTable) : (s.setProfiles x).heads = s.heads := rfl
@[simp] theorem State.setProfiles_traces (s : State) (x : ProfileTable) : (s.setProfiles x).traces = s.traces := rfl
@[simp] theorem State.setProfiles_profiles (s : State) (x : ProfileTable) : (s.setProfiles x).profiles = x := rfl
@[simp] theorem State.setProfiles_planner (s : State) (x : ProfileTable) : (s.setProfiles x).planner = s.planner := rfl
@[simp] theorem State.setProfiles_history (s : State) (x : ProfileTable) : (s.setProfiles x).history = s.history := rfl
@[simp] theorem State.setProfiles_notices (s : State) (x : ProfileTable) : (s.setProfiles x).notices = s.notices := rfl
@[simp] theorem State.setProfiles_pending (s : State) (x : ProfileTable) : (s.setProfiles x).pending = s.pending := rfl
@[simp] theorem State.setPlanner_powered (s : State) (x : Planner) : (s.setPlanner x).powered = s.powered := rfl
@[simp] theorem State.setPlanner_uptime (s : State) (x : Planner) : (s.setPlanner x).uptime = s.uptime := rfl
@[simp] theorem State.setPlanner_clock (s : State) (x : Planner) : (s.setPlanner x).clock = s.clock := rfl
@[simp] theorem State.setPlanner_link (s : State) (x : Planner) : (s.setPlanner x).link = s.link := rfl
@[simp] theorem State.setPlanner_attention (s : State) (x : Planner) : (s.setPlanner x).attention = s.attention := rfl
@[simp] theorem State.setPlanner_settings (s : State) (x : Planner) : (s.setPlanner x).settings = s.settings := rfl
@[simp] theorem State.setPlanner_loop (s : State) (x : Planner) : (s.setPlanner x).loop = s.loop := rfl
@[simp] theorem State.setPlanner_zone (s : State) (x : Planner) : (s.setPlanner x).zone = s.zone := rfl
@[simp] theorem State.setPlanner_timers (s : State) (x : Planner) : (s.setPlanner x).timers = s.timers := rfl
@[simp] theorem State.setPlanner_warnings (s : State) (x : Planner) : (s.setPlanner x).warnings = s.warnings := rfl
@[simp] theorem State.setPlanner_lift (s : State) (x : Planner) : (s.setPlanner x).lift = s.lift := rfl
@[simp] theorem State.setPlanner_clamps (s : State) (x : Planner) : (s.setPlanner x).clamps = s.clamps := rfl
@[simp] theorem State.setPlanner_stations (s : State) (x : Planner) : (s.setPlanner x).stations = s.stations := rfl
@[simp] theorem State.setPlanner_heads (s : State) (x : Planner) : (s.setPlanner x).heads = s.heads := rfl
@[simp] theorem State.setPlanner_traces (s : State) (x : Planner) : (s.setPlanner x).traces = s.traces := rfl
@[simp] theorem State.setPlanner_profiles (s : State) (x : Planner) : (s.setPlanner x).profiles = s.profiles := rfl
@[simp] theorem State.setPlanner_planner (s : State) (x : Planner) : (s.setPlanner x).planner = x := rfl
@[simp] theorem State.setPlanner_history (s : State) (x : Planner) : (s.setPlanner x).history = s.history := rfl
@[simp] theorem State.setPlanner_notices (s : State) (x : Planner) : (s.setPlanner x).notices = s.notices := rfl
@[simp] theorem State.setPlanner_pending (s : State) (x : Planner) : (s.setPlanner x).pending = s.pending := rfl
@[simp] theorem State.setHistory_powered (s : State) (x : History) : (s.setHistory x).powered = s.powered := rfl
@[simp] theorem State.setHistory_uptime (s : State) (x : History) : (s.setHistory x).uptime = s.uptime := rfl
@[simp] theorem State.setHistory_clock (s : State) (x : History) : (s.setHistory x).clock = s.clock := rfl
@[simp] theorem State.setHistory_link (s : State) (x : History) : (s.setHistory x).link = s.link := rfl
@[simp] theorem State.setHistory_attention (s : State) (x : History) : (s.setHistory x).attention = s.attention := rfl
@[simp] theorem State.setHistory_settings (s : State) (x : History) : (s.setHistory x).settings = s.settings := rfl
@[simp] theorem State.setHistory_loop (s : State) (x : History) : (s.setHistory x).loop = s.loop := rfl
@[simp] theorem State.setHistory_zone (s : State) (x : History) : (s.setHistory x).zone = s.zone := rfl
@[simp] theorem State.setHistory_timers (s : State) (x : History) : (s.setHistory x).timers = s.timers := rfl
@[simp] theorem State.setHistory_warnings (s : State) (x : History) : (s.setHistory x).warnings = s.warnings := rfl
@[simp] theorem State.setHistory_lift (s : State) (x : History) : (s.setHistory x).lift = s.lift := rfl
@[simp] theorem State.setHistory_clamps (s : State) (x : History) : (s.setHistory x).clamps = s.clamps := rfl
@[simp] theorem State.setHistory_stations (s : State) (x : History) : (s.setHistory x).stations = s.stations := rfl
@[simp] theorem State.setHistory_heads (s : State) (x : History) : (s.setHistory x).heads = s.heads := rfl
@[simp] theorem State.setHistory_traces (s : State) (x : History) : (s.setHistory x).traces = s.traces := rfl
@[simp] theorem State.setHistory_profiles (s : State) (x : History) : (s.setHistory x).profiles = s.profiles := rfl
@[simp] theorem State.setHistory_planner (s : State) (x : History) : (s.setHistory x).planner = s.planner := rfl
@[simp] theorem State.setHistory_history (s : State) (x : History) : (s.setHistory x).history = x := rfl
@[simp] theorem State.setHistory_notices (s : State) (x : History) : (s.setHistory x).notices = s.notices := rfl
@[simp] theorem State.setHistory_pending (s : State) (x : History) : (s.setHistory x).pending = s.pending := rfl
@[simp] theorem State.setNotices_powered (s : State) (x : List Notice) : (s.setNotices x).powered = s.powered := rfl
@[simp] theorem State.setNotices_uptime (s : State) (x : List Notice) : (s.setNotices x).uptime = s.uptime := rfl
@[simp] theorem State.setNotices_clock (s : State) (x : List Notice) : (s.setNotices x).clock = s.clock := rfl
@[simp] theorem State.setNotices_link (s : State) (x : List Notice) : (s.setNotices x).link = s.link := rfl
@[simp] theorem State.setNotices_attention (s : State) (x : List Notice) : (s.setNotices x).attention = s.attention := rfl
@[simp] theorem State.setNotices_settings (s : State) (x : List Notice) : (s.setNotices x).settings = s.settings := rfl
@[simp] theorem State.setNotices_loop (s : State) (x : List Notice) : (s.setNotices x).loop = s.loop := rfl
@[simp] theorem State.setNotices_zone (s : State) (x : List Notice) : (s.setNotices x).zone = s.zone := rfl
@[simp] theorem State.setNotices_timers (s : State) (x : List Notice) : (s.setNotices x).timers = s.timers := rfl
@[simp] theorem State.setNotices_warnings (s : State) (x : List Notice) : (s.setNotices x).warnings = s.warnings := rfl
@[simp] theorem State.setNotices_lift (s : State) (x : List Notice) : (s.setNotices x).lift = s.lift := rfl
@[simp] theorem State.setNotices_clamps (s : State) (x : List Notice) : (s.setNotices x).clamps = s.clamps := rfl
@[simp] theorem State.setNotices_stations (s : State) (x : List Notice) : (s.setNotices x).stations = s.stations := rfl
@[simp] theorem State.setNotices_heads (s : State) (x : List Notice) : (s.setNotices x).heads = s.heads := rfl
@[simp] theorem State.setNotices_traces (s : State) (x : List Notice) : (s.setNotices x).traces = s.traces := rfl
@[simp] theorem State.setNotices_profiles (s : State) (x : List Notice) : (s.setNotices x).profiles = s.profiles := rfl
@[simp] theorem State.setNotices_planner (s : State) (x : List Notice) : (s.setNotices x).planner = s.planner := rfl
@[simp] theorem State.setNotices_history (s : State) (x : List Notice) : (s.setNotices x).history = s.history := rfl
@[simp] theorem State.setNotices_notices (s : State) (x : List Notice) : (s.setNotices x).notices = x := rfl
@[simp] theorem State.setNotices_pending (s : State) (x : List Notice) : (s.setNotices x).pending = s.pending := rfl
@[simp] theorem State.setPending_powered (s : State) (x : List Instr) : (s.setPending x).powered = s.powered := rfl
@[simp] theorem State.setPending_uptime (s : State) (x : List Instr) : (s.setPending x).uptime = s.uptime := rfl
@[simp] theorem State.setPending_clock (s : State) (x : List Instr) : (s.setPending x).clock = s.clock := rfl
@[simp] theorem State.setPending_link (s : State) (x : List Instr) : (s.setPending x).link = s.link := rfl
@[simp] theorem State.setPending_attention (s : State) (x : List Instr) : (s.setPending x).attention = s.attention := rfl
@[simp] theorem State.setPending_settings (s : State) (x : List Instr) : (s.setPending x).settings = s.settings := rfl
@[simp] theorem State.setPending_loop (s : State) (x : List Instr) : (s.setPending x).loop = s.loop := rfl
@[simp] theorem State.setPending_zone (s : State) (x : List Instr) : (s.setPending x).zone = s.zone := rfl
@[simp] theorem State.setPending_timers (s : State) (x : List Instr) : (s.setPending x).timers = s.timers := rfl
@[simp] theorem State.setPending_warnings (s : State) (x : List Instr) : (s.setPending x).warnings = s.warnings := rfl
@[simp] theorem State.setPending_lift (s : State) (x : List Instr) : (s.setPending x).lift = s.lift := rfl
@[simp] theorem State.setPending_clamps (s : State) (x : List Instr) : (s.setPending x).clamps = s.clamps := rfl
@[simp] theorem State.setPending_stations (s : State) (x : List Instr) : (s.setPending x).stations = s.stations := rfl
@[simp] theorem State.setPending_heads (s : State) (x : List Instr) : (s.setPending x).heads = s.heads := rfl
@[simp] theorem State.setPending_traces (s : State) (x : List Instr) : (s.setPending x).traces = s.traces := rfl
@[simp] theorem State.setPending_profiles (s : State) (x : List Instr) : (s.setPending x).profiles = s.profiles := rfl
@[simp] theorem State.setPending_planner (s : State) (x : List Instr) : (s.setPending x).planner = s.planner := rfl
@[simp] theorem State.setPending_history (s : State) (x : List Instr) : (s.setPending x).history = s.history := rfl
@[simp] theorem State.setPending_notices (s : State) (x : List Instr) : (s.setPending x).notices = s.notices := rfl
@[simp] theorem State.setPending_pending (s : State) (x : List Instr) : (s.setPending x).pending = x := rfl

@[simp] theorem PerStation.get_set_same {α : Type} (p : PerStation α) (i : StationId) (x : α) : (p.set i x).get i = x := by
  cases i <;> rfl

theorem PerStation.get_set_ne {α : Type} (p : PerStation α) {i j : StationId} (h : j ≠ i) (x : α) :
    (p.set i x).get j = p.get j := by
  cases i <;> cases j <;> first | rfl | exact absurd rfl h

@[simp] theorem PerSide.get_set_same {α : Type} (p : PerSide α) (i : Side) (x : α) : (p.set i x).get i = x := by
  cases i <;> rfl

theorem PerSide.get_set_ne {α : Type} (p : PerSide α) {i j : Side} (h : j ≠ i) (x : α) :
    (p.set i x).get j = p.get j := by
  cases i <;> cases j <;> first | rfl | exact absurd rfl h

@[simp] theorem PerColumn.get_set_same {α : Type} (p : PerColumn α) (i : Column) (x : α) : (p.set i x).get i = x := by
  cases i <;> rfl

theorem PerColumn.get_set_ne {α : Type} (p : PerColumn α) {i j : Column} (h : j ≠ i) (x : α) :
    (p.set i x).get j = p.get j := by
  cases i <;> cases j <;> first | rfl | exact absurd rfl h

@[simp] theorem headGet_headSet_same {α : Type} (p : PerHead α) (h : HeadId) (x : α) : headGet (headSet p h x) h = x := by
  simp [headGet, headSet]

theorem headGet_headSet_ne {α : Type} (p : PerHead α) {h k : HeadId} (hk : k ≠ h) (x : α) :
    headGet (headSet p h x) k = headGet p k := by
  obtain ⟨hs, hw⟩ := h
  obtain ⟨ks, kw⟩ := k
  cases hs <;> cases hw <;> cases ks <;> cases kw <;> first | rfl | exact absurd rfl hk

@[simp] theorem TimerBank.get_set_same (b : TimerBank) (ch : Channel) (x : TimerRec) : (b.set ch x).get ch = x := by
  cases ch <;> simp [TimerBank.get, TimerBank.set]

end Sys2Proof.Machine
end

