-- ==== Sys2Proof/Laws/Ops.lean ====
section
/-! SUPPORT. What the shared operations leave as it was: one lemma for each operation and each field it does not touch. -/

namespace Sys2Proof.Machine

@[simp] theorem setStation_powered (s : State) (st : StationId) (x : Station) : (s.setStation st x).powered = s.powered := rfl
@[simp] theorem setStation_uptime (s : State) (st : StationId) (x : Station) : (s.setStation st x).uptime = s.uptime := rfl
@[simp] theorem setStation_clock (s : State) (st : StationId) (x : Station) : (s.setStation st x).clock = s.clock := rfl
@[simp] theorem setStation_link (s : State) (st : StationId) (x : Station) : (s.setStation st x).link = s.link := rfl
@[simp] theorem setStation_attention (s : State) (st : StationId) (x : Station) : (s.setStation st x).attention = s.attention := rfl
@[simp] theorem setStation_settings (s : State) (st : StationId) (x : Station) : (s.setStation st x).settings = s.settings := rfl
@[simp] theorem setStation_loop (s : State) (st : StationId) (x : Station) : (s.setStation st x).loop = s.loop := rfl
@[simp] theorem setStation_zone (s : State) (st : StationId) (x : Station) : (s.setStation st x).zone = s.zone := rfl
@[simp] theorem setStation_timers (s : State) (st : StationId) (x : Station) : (s.setStation st x).timers = s.timers := rfl
@[simp] theorem setStation_warnings (s : State) (st : StationId) (x : Station) : (s.setStation st x).warnings = s.warnings := rfl
@[simp] theorem setStation_lift (s : State) (st : StationId) (x : Station) : (s.setStation st x).lift = s.lift := rfl
@[simp] theorem setStation_clamps (s : State) (st : StationId) (x : Station) : (s.setStation st x).clamps = s.clamps := rfl
@[simp] theorem setStation_heads (s : State) (st : StationId) (x : Station) : (s.setStation st x).heads = s.heads := rfl
@[simp] theorem setStation_traces (s : State) (st : StationId) (x : Station) : (s.setStation st x).traces = s.traces := rfl
@[simp] theorem setStation_profiles (s : State) (st : StationId) (x : Station) : (s.setStation st x).profiles = s.profiles := rfl
@[simp] theorem setStation_planner (s : State) (st : StationId) (x : Station) : (s.setStation st x).planner = s.planner := rfl
@[simp] theorem setStation_history (s : State) (st : StationId) (x : Station) : (s.setStation st x).history = s.history := rfl
@[simp] theorem setStation_notices (s : State) (st : StationId) (x : Station) : (s.setStation st x).notices = s.notices := rfl
@[simp] theorem setStation_pending (s : State) (st : StationId) (x : Station) : (s.setStation st x).pending = s.pending := rfl

@[simp] theorem setClamp_powered (s : State) (st : StationId) (x : Clamp) : (s.setClamp st x).powered = s.powered := rfl
@[simp] theorem setClamp_uptime (s : State) (st : StationId) (x : Clamp) : (s.setClamp st x).uptime = s.uptime := rfl
@[simp] theorem setClamp_clock (s : State) (st : StationId) (x : Clamp) : (s.setClamp st x).clock = s.clock := rfl
@[simp] theorem setClamp_link (s : State) (st : StationId) (x : Clamp) : (s.setClamp st x).link = s.link := rfl
@[simp] theorem setClamp_attention (s : State) (st : StationId) (x : Clamp) : (s.setClamp st x).attention = s.attention := rfl
@[simp] theorem setClamp_settings (s : State) (st : StationId) (x : Clamp) : (s.setClamp st x).settings = s.settings := rfl
@[simp] theorem setClamp_loop (s : State) (st : StationId) (x : Clamp) : (s.setClamp st x).loop = s.loop := rfl
@[simp] theorem setClamp_zone (s : State) (st : StationId) (x : Clamp) : (s.setClamp st x).zone = s.zone := rfl
@[simp] theorem setClamp_timers (s : State) (st : StationId) (x : Clamp) : (s.setClamp st x).timers = s.timers := rfl
@[simp] theorem setClamp_warnings (s : State) (st : StationId) (x : Clamp) : (s.setClamp st x).warnings = s.warnings := rfl
@[simp] theorem setClamp_lift (s : State) (st : StationId) (x : Clamp) : (s.setClamp st x).lift = s.lift := rfl
@[simp] theorem setClamp_stations (s : State) (st : StationId) (x : Clamp) : (s.setClamp st x).stations = s.stations := rfl
@[simp] theorem setClamp_heads (s : State) (st : StationId) (x : Clamp) : (s.setClamp st x).heads = s.heads := rfl
@[simp] theorem setClamp_traces (s : State) (st : StationId) (x : Clamp) : (s.setClamp st x).traces = s.traces := rfl
@[simp] theorem setClamp_profiles (s : State) (st : StationId) (x : Clamp) : (s.setClamp st x).profiles = s.profiles := rfl
@[simp] theorem setClamp_planner (s : State) (st : StationId) (x : Clamp) : (s.setClamp st x).planner = s.planner := rfl
@[simp] theorem setClamp_history (s : State) (st : StationId) (x : Clamp) : (s.setClamp st x).history = s.history := rfl
@[simp] theorem setClamp_notices (s : State) (st : StationId) (x : Clamp) : (s.setClamp st x).notices = s.notices := rfl
@[simp] theorem setClamp_pending (s : State) (st : StationId) (x : Clamp) : (s.setClamp st x).pending = s.pending := rfl

@[simp] theorem setHead_powered (s : State) (h : HeadId) (x : Head) : (s.setHead h x).powered = s.powered := rfl
@[simp] theorem setHead_uptime (s : State) (h : HeadId) (x : Head) : (s.setHead h x).uptime = s.uptime := rfl
@[simp] theorem setHead_clock (s : State) (h : HeadId) (x : Head) : (s.setHead h x).clock = s.clock := rfl
@[simp] theorem setHead_link (s : State) (h : HeadId) (x : Head) : (s.setHead h x).link = s.link := rfl
@[simp] theorem setHead_attention (s : State) (h : HeadId) (x : Head) : (s.setHead h x).attention = s.attention := rfl
@[simp] theorem setHead_settings (s : State) (h : HeadId) (x : Head) : (s.setHead h x).settings = s.settings := rfl
@[simp] theorem setHead_loop (s : State) (h : HeadId) (x : Head) : (s.setHead h x).loop = s.loop := rfl
@[simp] theorem setHead_zone (s : State) (h : HeadId) (x : Head) : (s.setHead h x).zone = s.zone := rfl
@[simp] theorem setHead_timers (s : State) (h : HeadId) (x : Head) : (s.setHead h x).timers = s.timers := rfl
@[simp] theorem setHead_warnings (s : State) (h : HeadId) (x : Head) : (s.setHead h x).warnings = s.warnings := rfl
@[simp] theorem setHead_lift (s : State) (h : HeadId) (x : Head) : (s.setHead h x).lift = s.lift := rfl
@[simp] theorem setHead_clamps (s : State) (h : HeadId) (x : Head) : (s.setHead h x).clamps = s.clamps := rfl
@[simp] theorem setHead_stations (s : State) (h : HeadId) (x : Head) : (s.setHead h x).stations = s.stations := rfl
@[simp] theorem setHead_traces (s : State) (h : HeadId) (x : Head) : (s.setHead h x).traces = s.traces := rfl
@[simp] theorem setHead_profiles (s : State) (h : HeadId) (x : Head) : (s.setHead h x).profiles = s.profiles := rfl
@[simp] theorem setHead_planner (s : State) (h : HeadId) (x : Head) : (s.setHead h x).planner = s.planner := rfl
@[simp] theorem setHead_history (s : State) (h : HeadId) (x : Head) : (s.setHead h x).history = s.history := rfl
@[simp] theorem setHead_notices (s : State) (h : HeadId) (x : Head) : (s.setHead h x).notices = s.notices := rfl
@[simp] theorem setHead_pending (s : State) (h : HeadId) (x : Head) : (s.setHead h x).pending = s.pending := rfl

@[simp] theorem setTraceUnit_powered (s : State) (st : StationId) (x : TraceUnit) : (s.setTraceUnit st x).powered = s.powered := rfl
@[simp] theorem setTraceUnit_uptime (s : State) (st : StationId) (x : TraceUnit) : (s.setTraceUnit st x).uptime = s.uptime := rfl
@[simp] theorem setTraceUnit_clock (s : State) (st : StationId) (x : TraceUnit) : (s.setTraceUnit st x).clock = s.clock := rfl
@[simp] theorem setTraceUnit_link (s : State) (st : StationId) (x : TraceUnit) : (s.setTraceUnit st x).link = s.link := rfl
@[simp] theorem setTraceUnit_attention (s : State) (st : StationId) (x : TraceUnit) : (s.setTraceUnit st x).attention = s.attention := rfl
@[simp] theorem setTraceUnit_settings (s : State) (st : StationId) (x : TraceUnit) : (s.setTraceUnit st x).settings = s.settings := rfl
@[simp] theorem setTraceUnit_loop (s : State) (st : StationId) (x : TraceUnit) : (s.setTraceUnit st x).loop = s.loop := rfl
@[simp] theorem setTraceUnit_zone (s : State) (st : StationId) (x : TraceUnit) : (s.setTraceUnit st x).zone = s.zone := rfl
@[simp] theorem setTraceUnit_timers (s : State) (st : StationId) (x : TraceUnit) : (s.setTraceUnit st x).timers = s.timers := rfl
@[simp] theorem setTraceUnit_warnings (s : State) (st : StationId) (x : TraceUnit) : (s.setTraceUnit st x).warnings = s.warnings := rfl
@[simp] theorem setTraceUnit_lift (s : State) (st : StationId) (x : TraceUnit) : (s.setTraceUnit st x).lift = s.lift := rfl
@[simp] theorem setTraceUnit_clamps (s : State) (st : StationId) (x : TraceUnit) : (s.setTraceUnit st x).clamps = s.clamps := rfl
@[simp] theorem setTraceUnit_stations (s : State) (st : StationId) (x : TraceUnit) : (s.setTraceUnit st x).stations = s.stations := rfl
@[simp] theorem setTraceUnit_heads (s : State) (st : StationId) (x : TraceUnit) : (s.setTraceUnit st x).heads = s.heads := rfl
@[simp] theorem setTraceUnit_profiles (s : State) (st : StationId) (x : TraceUnit) : (s.setTraceUnit st x).profiles = s.profiles := rfl
@[simp] theorem setTraceUnit_planner (s : State) (st : StationId) (x : TraceUnit) : (s.setTraceUnit st x).planner = s.planner := rfl
@[simp] theorem setTraceUnit_history (s : State) (st : StationId) (x : TraceUnit) : (s.setTraceUnit st x).history = s.history := rfl
@[simp] theorem setTraceUnit_notices (s : State) (st : StationId) (x : TraceUnit) : (s.setTraceUnit st x).notices = s.notices := rfl
@[simp] theorem setTraceUnit_pending (s : State) (st : StationId) (x : TraceUnit) : (s.setTraceUnit st x).pending = s.pending := rfl

@[simp] theorem send_powered (s : State) (ns : List Notice) : (send s ns).powered = s.powered := rfl
@[simp] theorem send_uptime (s : State) (ns : List Notice) : (send s ns).uptime = s.uptime := rfl
@[simp] theorem send_clock (s : State) (ns : List Notice) : (send s ns).clock = s.clock := rfl
@[simp] theorem send_link (s : State) (ns : List Notice) : (send s ns).link = s.link := rfl
@[simp] theorem send_attention (s : State) (ns : List Notice) : (send s ns).attention = s.attention := rfl
@[simp] theorem send_settings (s : State) (ns : List Notice) : (send s ns).settings = s.settings := rfl
@[simp] theorem send_loop (s : State) (ns : List Notice) : (send s ns).loop = s.loop := rfl
@[simp] theorem send_zone (s : State) (ns : List Notice) : (send s ns).zone = s.zone := rfl
@[simp] theorem send_timers (s : State) (ns : List Notice) : (send s ns).timers = s.timers := rfl
@[simp] theorem send_warnings (s : State) (ns : List Notice) : (send s ns).warnings = s.warnings := rfl
@[simp] theorem send_lift (s : State) (ns : List Notice) : (send s ns).lift = s.lift := rfl
@[simp] theorem send_clamps (s : State) (ns : List Notice) : (send s ns).clamps = s.clamps := rfl
@[simp] theorem send_stations (s : State) (ns : List Notice) : (send s ns).stations = s.stations := rfl
@[simp] theorem send_heads (s : State) (ns : List Notice) : (send s ns).heads = s.heads := rfl
@[simp] theorem send_traces (s : State) (ns : List Notice) : (send s ns).traces = s.traces := rfl
@[simp] theorem send_profiles (s : State) (ns : List Notice) : (send s ns).profiles = s.profiles := rfl
@[simp] theorem send_planner (s : State) (ns : List Notice) : (send s ns).planner = s.planner := rfl
@[simp] theorem send_history (s : State) (ns : List Notice) : (send s ns).history = s.history := rfl
@[simp] theorem send_pending (s : State) (ns : List Notice) : (send s ns).pending = s.pending := rfl

@[simp] theorem post_powered (s : State) (k : AttentionKind) (src : Source) (d : Detail) : (post s k src d).powered = s.powered := rfl
@[simp] theorem post_uptime (s : State) (k : AttentionKind) (src : Source) (d : Detail) : (post s k src d).uptime = s.uptime := rfl
@[simp] theorem post_clock (s : State) (k : AttentionKind) (src : Source) (d : Detail) : (post s k src d).clock = s.clock := rfl
@[simp] theorem post_link (s : State) (k : AttentionKind) (src : Source) (d : Detail) : (post s k src d).link = s.link := rfl
@[simp] theorem post_attention (s : State) (k : AttentionKind) (src : Source) (d : Detail) : (post s k src d).attention = s.attention := rfl
@[simp] theorem post_settings (s : State) (k : AttentionKind) (src : Source) (d : Detail) : (post s k src d).settings = s.settings := rfl
@[simp] theorem post_loop (s : State) (k : AttentionKind) (src : Source) (d : Detail) : (post s k src d).loop = s.loop := rfl
@[simp] theorem post_zone (s : State) (k : AttentionKind) (src : Source) (d : Detail) : (post s k src d).zone = s.zone := rfl
@[simp] theorem post_timers (s : State) (k : AttentionKind) (src : Source) (d : Detail) : (post s k src d).timers = s.timers := rfl
@[simp] theorem post_warnings (s : State) (k : AttentionKind) (src : Source) (d : Detail) : (post s k src d).warnings = s.warnings := rfl
@[simp] theorem post_lift (s : State) (k : AttentionKind) (src : Source) (d : Detail) : (post s k src d).lift = s.lift := rfl
@[simp] theorem post_clamps (s : State) (k : AttentionKind) (src : Source) (d : Detail) : (post s k src d).clamps = s.clamps := rfl
@[simp] theorem post_stations (s : State) (k : AttentionKind) (src : Source) (d : Detail) : (post s k src d).stations = s.stations := rfl
@[simp] theorem post_heads (s : State) (k : AttentionKind) (src : Source) (d : Detail) : (post s k src d).heads = s.heads := rfl
@[simp] theorem post_traces (s : State) (k : AttentionKind) (src : Source) (d : Detail) : (post s k src d).traces = s.traces := rfl
@[simp] theorem post_profiles (s : State) (k : AttentionKind) (src : Source) (d : Detail) : (post s k src d).profiles = s.profiles := rfl
@[simp] theorem post_planner (s : State) (k : AttentionKind) (src : Source) (d : Detail) : (post s k src d).planner = s.planner := rfl
@[simp] theorem post_history (s : State) (k : AttentionKind) (src : Source) (d : Detail) : (post s k src d).history = s.history := rfl
@[simp] theorem post_pending (s : State) (k : AttentionKind) (src : Source) (d : Detail) : (post s k src d).pending = s.pending := rfl

@[simp] theorem startChannel_powered (s : State) (ch : Channel) (ms : Nat) : (startChannel s ch ms).powered = s.powered := rfl
@[simp] theorem startChannel_uptime (s : State) (ch : Channel) (ms : Nat) : (startChannel s ch ms).uptime = s.uptime := rfl
@[simp] theorem startChannel_clock (s : State) (ch : Channel) (ms : Nat) : (startChannel s ch ms).clock = s.clock := rfl
@[simp] theorem startChannel_link (s : State) (ch : Channel) (ms : Nat) : (startChannel s ch ms).link = s.link := rfl
@[simp] theorem startChannel_attention (s : State) (ch : Channel) (ms : Nat) : (startChannel s ch ms).attention = s.attention := rfl
@[simp] theorem startChannel_settings (s : State) (ch : Channel) (ms : Nat) : (startChannel s ch ms).settings = s.settings := rfl
@[simp] theorem startChannel_loop (s : State) (ch : Channel) (ms : Nat) : (startChannel s ch ms).loop = s.loop := rfl
@[simp] theorem startChannel_zone (s : State) (ch : Channel) (ms : Nat) : (startChannel s ch ms).zone = s.zone := rfl
@[simp] theorem startChannel_warnings (s : State) (ch : Channel) (ms : Nat) : (startChannel s ch ms).warnings = s.warnings := rfl
@[simp] theorem startChannel_lift (s : State) (ch : Channel) (ms : Nat) : (startChannel s ch ms).lift = s.lift := rfl
@[simp] theorem startChannel_clamps (s : State) (ch : Channel) (ms : Nat) : (startChannel s ch ms).clamps = s.clamps := rfl
@[simp] theorem startChannel_stations (s : State) (ch : Channel) (ms : Nat) : (startChannel s ch ms).stations = s.stations := rfl
@[simp] theorem startChannel_heads (s : State) (ch : Channel) (ms : Nat) : (startChannel s ch ms).heads = s.heads := rfl
@[simp] theorem startChannel_traces (s : State) (ch : Channel) (ms : Nat) : (startChannel s ch ms).traces = s.traces := rfl
@[simp] theorem startChannel_profiles (s : State) (ch : Channel) (ms : Nat) : (startChannel s ch ms).profiles = s.profiles := rfl
@[simp] theorem startChannel_planner (s : State) (ch : Channel) (ms : Nat) : (startChannel s ch ms).planner = s.planner := rfl
@[simp] theorem startChannel_history (s : State) (ch : Channel) (ms : Nat) : (startChannel s ch ms).history = s.history := rfl
@[simp] theorem startChannel_notices (s : State) (ch : Channel) (ms : Nat) : (startChannel s ch ms).notices = s.notices := rfl
@[simp] theorem startChannel_pending (s : State) (ch : Channel) (ms : Nat) : (startChannel s ch ms).pending = s.pending := rfl

@[simp] theorem startTimer_powered (s : State) (ch : Channel) : (startTimer s ch).powered = s.powered := rfl
@[simp] theorem startTimer_uptime (s : State) (ch : Channel) : (startTimer s ch).uptime = s.uptime := rfl
@[simp] theorem startTimer_clock (s : State) (ch : Channel) : (startTimer s ch).clock = s.clock := rfl
@[simp] theorem startTimer_link (s : State) (ch : Channel) : (startTimer s ch).link = s.link := rfl
@[simp] theorem startTimer_attention (s : State) (ch : Channel) : (startTimer s ch).attention = s.attention := rfl
@[simp] theorem startTimer_settings (s : State) (ch : Channel) : (startTimer s ch).settings = s.settings := rfl
@[simp] theorem startTimer_loop (s : State) (ch : Channel) : (startTimer s ch).loop = s.loop := rfl
@[simp] theorem startTimer_zone (s : State) (ch : Channel) : (startTimer s ch).zone = s.zone := rfl
@[simp] theorem startTimer_warnings (s : State) (ch : Channel) : (startTimer s ch).warnings = s.warnings := rfl
@[simp] theorem startTimer_lift (s : State) (ch : Channel) : (startTimer s ch).lift = s.lift := rfl
@[simp] theorem startTimer_clamps (s : State) (ch : Channel) : (startTimer s ch).clamps = s.clamps := rfl
@[simp] theorem startTimer_stations (s : State) (ch : Channel) : (startTimer s ch).stations = s.stations := rfl
@[simp] theorem startTimer_heads (s : State) (ch : Channel) : (startTimer s ch).heads = s.heads := rfl
@[simp] theorem startTimer_traces (s : State) (ch : Channel) : (startTimer s ch).traces = s.traces := rfl
@[simp] theorem startTimer_profiles (s : State) (ch : Channel) : (startTimer s ch).profiles = s.profiles := rfl
@[simp] theorem startTimer_planner (s : State) (ch : Channel) : (startTimer s ch).planner = s.planner := rfl
@[simp] theorem startTimer_history (s : State) (ch : Channel) : (startTimer s ch).history = s.history := rfl
@[simp] theorem startTimer_notices (s : State) (ch : Channel) : (startTimer s ch).notices = s.notices := rfl
@[simp] theorem startTimer_pending (s : State) (ch : Channel) : (startTimer s ch).pending = s.pending := rfl

@[simp] theorem cancelTimer_powered (s : State) (ch : Channel) : (cancelTimer s ch).powered = s.powered := rfl
@[simp] theorem cancelTimer_uptime (s : State) (ch : Channel) : (cancelTimer s ch).uptime = s.uptime := rfl
@[simp] theorem cancelTimer_clock (s : State) (ch : Channel) : (cancelTimer s ch).clock = s.clock := rfl
@[simp] theorem cancelTimer_link (s : State) (ch : Channel) : (cancelTimer s ch).link = s.link := rfl
@[simp] theorem cancelTimer_attention (s : State) (ch : Channel) : (cancelTimer s ch).attention = s.attention := rfl
@[simp] theorem cancelTimer_settings (s : State) (ch : Channel) : (cancelTimer s ch).settings = s.settings := rfl
@[simp] theorem cancelTimer_loop (s : State) (ch : Channel) : (cancelTimer s ch).loop = s.loop := rfl
@[simp] theorem cancelTimer_zone (s : State) (ch : Channel) : (cancelTimer s ch).zone = s.zone := rfl
@[simp] theorem cancelTimer_warnings (s : State) (ch : Channel) : (cancelTimer s ch).warnings = s.warnings := rfl
@[simp] theorem cancelTimer_lift (s : State) (ch : Channel) : (cancelTimer s ch).lift = s.lift := rfl
@[simp] theorem cancelTimer_clamps (s : State) (ch : Channel) : (cancelTimer s ch).clamps = s.clamps := rfl
@[simp] theorem cancelTimer_stations (s : State) (ch : Channel) : (cancelTimer s ch).stations = s.stations := rfl
@[simp] theorem cancelTimer_heads (s : State) (ch : Channel) : (cancelTimer s ch).heads = s.heads := rfl
@[simp] theorem cancelTimer_traces (s : State) (ch : Channel) : (cancelTimer s ch).traces = s.traces := rfl
@[simp] theorem cancelTimer_profiles (s : State) (ch : Channel) : (cancelTimer s ch).profiles = s.profiles := rfl
@[simp] theorem cancelTimer_planner (s : State) (ch : Channel) : (cancelTimer s ch).planner = s.planner := rfl
@[simp] theorem cancelTimer_history (s : State) (ch : Channel) : (cancelTimer s ch).history = s.history := rfl
@[simp] theorem cancelTimer_notices (s : State) (ch : Channel) : (cancelTimer s ch).notices = s.notices := rfl
@[simp] theorem cancelTimer_pending (s : State) (ch : Channel) : (cancelTimer s ch).pending = s.pending := rfl

@[simp] theorem cancelRunning_powered (s : State) (ch : Channel) : (cancelRunning s ch).powered = s.powered := by unfold cancelRunning; split <;> rfl
@[simp] theorem cancelRunning_uptime (s : State) (ch : Channel) : (cancelRunning s ch).uptime = s.uptime := by unfold cancelRunning; split <;> rfl
@[simp] theorem cancelRunning_clock (s : State) (ch : Channel) : (cancelRunning s ch).clock = s.clock := by unfold cancelRunning; split <;> rfl
@[simp] theorem cancelRunning_link (s : State) (ch : Channel) : (cancelRunning s ch).link = s.link := by unfold cancelRunning; split <;> rfl
@[simp] theorem cancelRunning_attention (s : State) (ch : Channel) : (cancelRunning s ch).attention = s.attention := by unfold cancelRunning; split <;> rfl
@[simp] theorem cancelRunning_settings (s : State) (ch : Channel) : (cancelRunning s ch).settings = s.settings := by unfold cancelRunning; split <;> rfl
@[simp] theorem cancelRunning_loop (s : State) (ch : Channel) : (cancelRunning s ch).loop = s.loop := by unfold cancelRunning; split <;> rfl
@[simp] theorem cancelRunning_zone (s : State) (ch : Channel) : (cancelRunning s ch).zone = s.zone := by unfold cancelRunning; split <;> rfl
@[simp] theorem cancelRunning_warnings (s : State) (ch : Channel) : (cancelRunning s ch).warnings = s.warnings := by unfold cancelRunning; split <;> rfl
@[simp] theorem cancelRunning_lift (s : State) (ch : Channel) : (cancelRunning s ch).lift = s.lift := by unfold cancelRunning; split <;> rfl
@[simp] theorem cancelRunning_clamps (s : State) (ch : Channel) : (cancelRunning s ch).clamps = s.clamps := by unfold cancelRunning; split <;> rfl
@[simp] theorem cancelRunning_stations (s : State) (ch : Channel) : (cancelRunning s ch).stations = s.stations := by unfold cancelRunning; split <;> rfl
@[simp] theorem cancelRunning_heads (s : State) (ch : Channel) : (cancelRunning s ch).heads = s.heads := by unfold cancelRunning; split <;> rfl
@[simp] theorem cancelRunning_traces (s : State) (ch : Channel) : (cancelRunning s ch).traces = s.traces := by unfold cancelRunning; split <;> rfl
@[simp] theorem cancelRunning_profiles (s : State) (ch : Channel) : (cancelRunning s ch).profiles = s.profiles := by unfold cancelRunning; split <;> rfl
@[simp] theorem cancelRunning_planner (s : State) (ch : Channel) : (cancelRunning s ch).planner = s.planner := by unfold cancelRunning; split <;> rfl
@[simp] theorem cancelRunning_history (s : State) (ch : Channel) : (cancelRunning s ch).history = s.history := by unfold cancelRunning; split <;> rfl
@[simp] theorem cancelRunning_notices (s : State) (ch : Channel) : (cancelRunning s ch).notices = s.notices := by unfold cancelRunning; split <;> rfl
@[simp] theorem cancelRunning_pending (s : State) (ch : Channel) : (cancelRunning s ch).pending = s.pending := by unfold cancelRunning; split <;> rfl

@[simp] theorem cancelLift_powered (s : State) : (cancelLift s).powered = s.powered := by simp [cancelLift]
@[simp] theorem cancelLift_uptime (s : State) : (cancelLift s).uptime = s.uptime := by simp [cancelLift]
@[simp] theorem cancelLift_clock (s : State) : (cancelLift s).clock = s.clock := by simp [cancelLift]
@[simp] theorem cancelLift_link (s : State) : (cancelLift s).link = s.link := by simp [cancelLift]
@[simp] theorem cancelLift_attention (s : State) : (cancelLift s).attention = s.attention := by simp [cancelLift]
@[simp] theorem cancelLift_settings (s : State) : (cancelLift s).settings = s.settings := by simp [cancelLift]
@[simp] theorem cancelLift_loop (s : State) : (cancelLift s).loop = s.loop := by simp [cancelLift]
@[simp] theorem cancelLift_zone (s : State) : (cancelLift s).zone = s.zone := by simp [cancelLift]
@[simp] theorem cancelLift_warnings (s : State) : (cancelLift s).warnings = s.warnings := by simp [cancelLift]
@[simp] theorem cancelLift_lift (s : State) : (cancelLift s).lift = s.lift := by simp [cancelLift]
@[simp] theorem cancelLift_clamps (s : State) : (cancelLift s).clamps = s.clamps := by simp [cancelLift]
@[simp] theorem cancelLift_stations (s : State) : (cancelLift s).stations = s.stations := by simp [cancelLift]
@[simp] theorem cancelLift_heads (s : State) : (cancelLift s).heads = s.heads := by simp [cancelLift]
@[simp] theorem cancelLift_traces (s : State) : (cancelLift s).traces = s.traces := by simp [cancelLift]
@[simp] theorem cancelLift_profiles (s : State) : (cancelLift s).profiles = s.profiles := by simp [cancelLift]
@[simp] theorem cancelLift_planner (s : State) : (cancelLift s).planner = s.planner := by simp [cancelLift]
@[simp] theorem cancelLift_history (s : State) : (cancelLift s).history = s.history := by simp [cancelLift]
@[simp] theorem cancelLift_notices (s : State) : (cancelLift s).notices = s.notices := by simp [cancelLift]
@[simp] theorem cancelLift_pending (s : State) : (cancelLift s).pending = s.pending := by simp [cancelLift]

@[simp] theorem changeRecord_powered (s : State) (serial : Serial) (upd : WheelsetRecord → WheelsetRecord) : (changeRecord s serial upd).powered = s.powered := by unfold changeRecord; split <;> rfl
@[simp] theorem changeRecord_uptime (s : State) (serial : Serial) (upd : WheelsetRecord → WheelsetRecord) : (changeRecord s serial upd).uptime = s.uptime := by unfold changeRecord; split <;> rfl
@[simp] theorem changeRecord_clock (s : State) (serial : Serial) (upd : WheelsetRecord → WheelsetRecord) : (changeRecord s serial upd).clock = s.clock := by unfold changeRecord; split <;> rfl
@[simp] theorem changeRecord_link (s : State) (serial : Serial) (upd : WheelsetRecord → WheelsetRecord) : (changeRecord s serial upd).link = s.link := by unfold changeRecord; split <;> rfl
@[simp] theorem changeRecord_attention (s : State) (serial : Serial) (upd : WheelsetRecord → WheelsetRecord) : (changeRecord s serial upd).attention = s.attention := by unfold changeRecord; split <;> rfl
@[simp] theorem changeRecord_settings (s : State) (serial : Serial) (upd : WheelsetRecord → WheelsetRecord) : (changeRecord s serial upd).settings = s.settings := by unfold changeRecord; split <;> rfl
@[simp] theorem changeRecord_loop (s : State) (serial : Serial) (upd : WheelsetRecord → WheelsetRecord) : (changeRecord s serial upd).loop = s.loop := by unfold changeRecord; split <;> rfl
@[simp] theorem changeRecord_zone (s : State) (serial : Serial) (upd : WheelsetRecord → WheelsetRecord) : (changeRecord s serial upd).zone = s.zone := by unfold changeRecord; split <;> rfl
@[simp] theorem changeRecord_timers (s : State) (serial : Serial) (upd : WheelsetRecord → WheelsetRecord) : (changeRecord s serial upd).timers = s.timers := by unfold changeRecord; split <;> rfl
@[simp] theorem changeRecord_warnings (s : State) (serial : Serial) (upd : WheelsetRecord → WheelsetRecord) : (changeRecord s serial upd).warnings = s.warnings := by unfold changeRecord; split <;> rfl
@[simp] theorem changeRecord_lift (s : State) (serial : Serial) (upd : WheelsetRecord → WheelsetRecord) : (changeRecord s serial upd).lift = s.lift := by unfold changeRecord; split <;> rfl
@[simp] theorem changeRecord_clamps (s : State) (serial : Serial) (upd : WheelsetRecord → WheelsetRecord) : (changeRecord s serial upd).clamps = s.clamps := by unfold changeRecord; split <;> rfl
@[simp] theorem changeRecord_stations (s : State) (serial : Serial) (upd : WheelsetRecord → WheelsetRecord) : (changeRecord s serial upd).stations = s.stations := by unfold changeRecord; split <;> rfl
@[simp] theorem changeRecord_heads (s : State) (serial : Serial) (upd : WheelsetRecord → WheelsetRecord) : (changeRecord s serial upd).heads = s.heads := by unfold changeRecord; split <;> rfl
@[simp] theorem changeRecord_traces (s : State) (serial : Serial) (upd : WheelsetRecord → WheelsetRecord) : (changeRecord s serial upd).traces = s.traces := by unfold changeRecord; split <;> rfl
@[simp] theorem changeRecord_profiles (s : State) (serial : Serial) (upd : WheelsetRecord → WheelsetRecord) : (changeRecord s serial upd).profiles = s.profiles := by unfold changeRecord; split <;> rfl
@[simp] theorem changeRecord_planner (s : State) (serial : Serial) (upd : WheelsetRecord → WheelsetRecord) : (changeRecord s serial upd).planner = s.planner := by unfold changeRecord; split <;> rfl
@[simp] theorem changeRecord_pending (s : State) (serial : Serial) (upd : WheelsetRecord → WheelsetRecord) : (changeRecord s serial upd).pending = s.pending := by unfold changeRecord; split <;> rfl

@[simp] theorem append_powered (s : State) (serial : Serial) (body : EntryBody) (upd : WheelsetRecord → WheelsetRecord) : (append s serial body upd).powered = s.powered := by unfold append; split <;> rfl
@[simp] theorem append_uptime (s : State) (serial : Serial) (body : EntryBody) (upd : WheelsetRecord → WheelsetRecord) : (append s serial body upd).uptime = s.uptime := by unfold append; split <;> rfl
@[simp] theorem append_clock (s : State) (serial : Serial) (body : EntryBody) (upd : WheelsetRecord → WheelsetRecord) : (append s serial body upd).clock = s.clock := by unfold append; split <;> rfl
@[simp] theorem append_link (s : State) (serial : Serial) (body : EntryBody) (upd : WheelsetRecord → WheelsetRecord) : (append s serial body upd).link = s.link := by unfold append; split <;> rfl
@[simp] theorem append_attention (s : State) (serial : Serial) (body : EntryBody) (upd : WheelsetRecord → WheelsetRecord) : (append s serial body upd).attention = s.attention := by unfold append; split <;> rfl
@[simp] theorem append_settings (s : State) (serial : Serial) (body : EntryBody) (upd : WheelsetRecord → WheelsetRecord) : (append s serial body upd).settings = s.settings := by unfold append; split <;> rfl
@[simp] theorem append_loop (s : State) (serial : Serial) (body : EntryBody) (upd : WheelsetRecord → WheelsetRecord) : (append s serial body upd).loop = s.loop := by unfold append; split <;> rfl
@[simp] theorem append_zone (s : State) (serial : Serial) (body : EntryBody) (upd : WheelsetRecord → WheelsetRecord) : (append s serial body upd).zone = s.zone := by unfold append; split <;> rfl
@[simp] theorem append_timers (s : State) (serial : Serial) (body : EntryBody) (upd : WheelsetRecord → WheelsetRecord) : (append s serial body upd).timers = s.timers := by unfold append; split <;> rfl
@[simp] theorem append_warnings (s : State) (serial : Serial) (body : EntryBody) (upd : WheelsetRecord → WheelsetRecord) : (append s serial body upd).warnings = s.warnings := by unfold append; split <;> rfl
@[simp] theorem append_lift (s : State) (serial : Serial) (body : EntryBody) (upd : WheelsetRecord → WheelsetRecord) : (append s serial body upd).lift = s.lift := by unfold append; split <;> rfl
@[simp] theorem append_clamps (s : State) (serial : Serial) (body : EntryBody) (upd : WheelsetRecord → WheelsetRecord) : (append s serial body upd).clamps = s.clamps := by unfold append; split <;> rfl
@[simp] theorem append_stations (s : State) (serial : Serial) (body : EntryBody) (upd : WheelsetRecord → WheelsetRecord) : (append s serial body upd).stations = s.stations := by unfold append; split <;> rfl
@[simp] theorem append_heads (s : State) (serial : Serial) (body : EntryBody) (upd : WheelsetRecord → WheelsetRecord) : (append s serial body upd).heads = s.heads := by unfold append; split <;> rfl
@[simp] theorem append_traces (s : State) (serial : Serial) (body : EntryBody) (upd : WheelsetRecord → WheelsetRecord) : (append s serial body upd).traces = s.traces := by unfold append; split <;> rfl
@[simp] theorem append_profiles (s : State) (serial : Serial) (body : EntryBody) (upd : WheelsetRecord → WheelsetRecord) : (append s serial body upd).profiles = s.profiles := by unfold append; split <;> rfl
@[simp] theorem append_planner (s : State) (serial : Serial) (body : EntryBody) (upd : WheelsetRecord → WheelsetRecord) : (append s serial body upd).planner = s.planner := by unfold append; split <;> rfl
@[simp] theorem append_pending (s : State) (serial : Serial) (body : EntryBody) (upd : WheelsetRecord → WheelsetRecord) : (append s serial body upd).pending = s.pending := by unfold append; split <;> rfl

@[simp] theorem settle_powered (s : State) (o : State) : (settle o s).powered = s.powered := rfl
@[simp] theorem settle_uptime (s : State) (o : State) : (settle o s).uptime = s.uptime := rfl
@[simp] theorem settle_clock (s : State) (o : State) : (settle o s).clock = s.clock := rfl
@[simp] theorem settle_link (s : State) (o : State) : (settle o s).link = s.link := rfl
@[simp] theorem settle_attention (s : State) (o : State) : (settle o s).attention = s.attention := rfl
@[simp] theorem settle_settings (s : State) (o : State) : (settle o s).settings = s.settings := rfl
@[simp] theorem settle_loop (s : State) (o : State) : (settle o s).loop = s.loop := rfl
@[simp] theorem settle_zone (s : State) (o : State) : (settle o s).zone = s.zone := rfl
@[simp] theorem settle_timers (s : State) (o : State) : (settle o s).timers = s.timers := rfl
@[simp] theorem settle_warnings (s : State) (o : State) : (settle o s).warnings = s.warnings := rfl
@[simp] theorem settle_lift (s : State) (o : State) : (settle o s).lift = s.lift := rfl
@[simp] theorem settle_clamps (s : State) (o : State) : (settle o s).clamps = s.clamps := rfl
@[simp] theorem settle_stations (s : State) (o : State) : (settle o s).stations = s.stations := rfl
@[simp] theorem settle_heads (s : State) (o : State) : (settle o s).heads = s.heads := rfl
@[simp] theorem settle_traces (s : State) (o : State) : (settle o s).traces = s.traces := rfl
@[simp] theorem settle_profiles (s : State) (o : State) : (settle o s).profiles = s.profiles := rfl
@[simp] theorem settle_planner (s : State) (o : State) : (settle o s).planner = s.planner := rfl
@[simp] theorem settle_history (s : State) (o : State) : (settle o s).history = s.history := rfl
@[simp] theorem settle_pending (s : State) (o : State) : (settle o s).pending = s.pending := rfl

@[simp] theorem formReply_powered (s : State) (f : Frame) (b : ReplyBody) : (formReply s f b).powered = s.powered := rfl
@[simp] theorem formReply_uptime (s : State) (f : Frame) (b : ReplyBody) : (formReply s f b).uptime = s.uptime := rfl
@[simp] theorem formReply_clock (s : State) (f : Frame) (b : ReplyBody) : (formReply s f b).clock = s.clock := rfl
@[simp] theorem formReply_attention (s : State) (f : Frame) (b : ReplyBody) : (formReply s f b).attention = s.attention := rfl
@[simp] theorem formReply_settings (s : State) (f : Frame) (b : ReplyBody) : (formReply s f b).settings = s.settings := rfl
@[simp] theorem formReply_loop (s : State) (f : Frame) (b : ReplyBody) : (formReply s f b).loop = s.loop := rfl
@[simp] theorem formReply_zone (s : State) (f : Frame) (b : ReplyBody) : (formReply s f b).zone = s.zone := rfl
@[simp] theorem formReply_timers (s : State) (f : Frame) (b : ReplyBody) : (formReply s f b).timers = s.timers := rfl
@[simp] theorem formReply_warnings (s : State) (f : Frame) (b : ReplyBody) : (formReply s f b).warnings = s.warnings := rfl
@[simp] theorem formReply_lift (s : State) (f : Frame) (b : ReplyBody) : (formReply s f b).lift = s.lift := rfl
@[simp] theorem formReply_clamps (s : State) (f : Frame) (b : ReplyBody) : (formReply s f b).clamps = s.clamps := rfl
@[simp] theorem formReply_stations (s : State) (f : Frame) (b : ReplyBody) : (formReply s f b).stations = s.stations := rfl
@[simp] theorem formReply_heads (s : State) (f : Frame) (b : ReplyBody) : (formReply s f b).heads = s.heads := rfl
@[simp] theorem formReply_traces (s : State) (f : Frame) (b : ReplyBody) : (formReply s f b).traces = s.traces := rfl
@[simp] theorem formReply_profiles (s : State) (f : Frame) (b : ReplyBody) : (formReply s f b).profiles = s.profiles := rfl
@[simp] theorem formReply_planner (s : State) (f : Frame) (b : ReplyBody) : (formReply s f b).planner = s.planner := rfl
@[simp] theorem formReply_history (s : State) (f : Frame) (b : ReplyBody) : (formReply s f b).history = s.history := rfl
@[simp] theorem formReply_notices (s : State) (f : Frame) (b : ReplyBody) : (formReply s f b).notices = s.notices := rfl
@[simp] theorem formReply_pending (s : State) (f : Frame) (b : ReplyBody) : (formReply s f b).pending = s.pending := rfl

@[simp] theorem answer_powered (s : State) (f : Frame) (b : ReplyBody) : (answer s f b).powered = s.powered := rfl
@[simp] theorem answer_uptime (s : State) (f : Frame) (b : ReplyBody) : (answer s f b).uptime = s.uptime := rfl
@[simp] theorem answer_clock (s : State) (f : Frame) (b : ReplyBody) : (answer s f b).clock = s.clock := rfl
@[simp] theorem answer_attention (s : State) (f : Frame) (b : ReplyBody) : (answer s f b).attention = s.attention := rfl
@[simp] theorem answer_settings (s : State) (f : Frame) (b : ReplyBody) : (answer s f b).settings = s.settings := rfl
@[simp] theorem answer_loop (s : State) (f : Frame) (b : ReplyBody) : (answer s f b).loop = s.loop := rfl
@[simp] theorem answer_zone (s : State) (f : Frame) (b : ReplyBody) : (answer s f b).zone = s.zone := rfl
@[simp] theorem answer_timers (s : State) (f : Frame) (b : ReplyBody) : (answer s f b).timers = s.timers := rfl
@[simp] theorem answer_warnings (s : State) (f : Frame) (b : ReplyBody) : (answer s f b).warnings = s.warnings := rfl
@[simp] theorem answer_lift (s : State) (f : Frame) (b : ReplyBody) : (answer s f b).lift = s.lift := rfl
@[simp] theorem answer_clamps (s : State) (f : Frame) (b : ReplyBody) : (answer s f b).clamps = s.clamps := rfl
@[simp] theorem answer_stations (s : State) (f : Frame) (b : ReplyBody) : (answer s f b).stations = s.stations := rfl
@[simp] theorem answer_heads (s : State) (f : Frame) (b : ReplyBody) : (answer s f b).heads = s.heads := rfl
@[simp] theorem answer_traces (s : State) (f : Frame) (b : ReplyBody) : (answer s f b).traces = s.traces := rfl
@[simp] theorem answer_profiles (s : State) (f : Frame) (b : ReplyBody) : (answer s f b).profiles = s.profiles := rfl
@[simp] theorem answer_planner (s : State) (f : Frame) (b : ReplyBody) : (answer s f b).planner = s.planner := rfl
@[simp] theorem answer_history (s : State) (f : Frame) (b : ReplyBody) : (answer s f b).history = s.history := rfl
@[simp] theorem answer_notices (s : State) (f : Frame) (b : ReplyBody) : (answer s f b).notices = s.notices := rfl
@[simp] theorem answer_pending (s : State) (f : Frame) (b : ReplyBody) : (answer s f b).pending = s.pending := rfl

end Sys2Proof.Machine
end

