-- ==== Sys2Proof/Laws/Spec.lean ====
section
/-! SUPPORT. What each shared operation can do, said once: the frame of an event, the handling of a request, the taking
of a notice and of an expiry, the sparse tables, the timers and the records. -/

namespace Sys2Proof.Machine

/-! ### Events -/

/-- An event of a powered part ends in the next state that its effect and its settling give. -/
theorem event_powered (s : State) (f : State → State) (h : s.powered = true) : event s f = .next (settle s (f s)) := by
  simp [event, h]

/-- A part without power takes no event. -/
theorem event_unpowered (s : State) (f : State → State) (h : s.powered = false) : event s f = .next s := by
  simp [event, h]

/-- The settling of an event keeps every notice and joins others after them. -/
theorem settle_handsOn (o n : State) : handsOn n.notices (settle o n) := List.prefix_append _ _

/-- A node table that stays hands the Warning Outputs nothing. -/
@[simp] theorem nodeChanges_self (table : List NodeEntry) : nodeChanges table table = [] := by
  have h : ∀ e ∈ table, showsCondition table e = true := fun e he =>
    List.any_eq_true.mpr ⟨e, he, by simp⟩
  simp only [nodeChanges, List.append_eq_nil_iff, List.map_eq_nil_iff]
  refine ⟨by cases table <;> rfl, List.filter_eq_nil_iff.mpr fun e he => by simp [h e he]⟩

/-- An event that changes nothing that the Warning Outputs are shown hands them nothing. -/
theorem settle_quiet (o n : State) (hl : n.lift = o.lift) (hc : n.clamps.recs = o.clamps.recs) (ht : n.loop.table = o.loop.table)
    (hs : n.loop.state = o.loop.state) (hw : n.stations = o.stations) (hz : n.zone = o.zone)
    (ha : n.attention = o.attention) (hh : n.history = o.history)
    (he : n.settings.exportThreshold = o.settings.exportThreshold) : settle o n = n := by
  have h : exportDueChange o n ++ viewChanges o n = [] := by
    simp [exportDueChange, viewChanges, State.clamp, State.station, hl, hc, ht, hs, hw, hz, ha, hh, he, zoneView, stopView,
      attentionView, totalReservation, noticeIf]
  simp [settle, h, send, State.setNotices]

theorem send_handsOn (s : State) (ns : List Notice) : handsOn s.notices (send s ns) := List.prefix_append _ _

/-! ### Requests -/

/-- A request whose frame is the oldest, whose kind is known and whose body is read, is acted on and answered (R5). -/
theorem serve_taken {α : Type} (mine : Frame → Bool) (parse : Bytes → Option α) (own : State → α → State × ReplyBody)
    (s : State) (f : Frame) (a : α) (hq : s.link.queue.head? = some f) (hk : knownKind f.kind = true)
    (hm : mine f = true) (hp : parse f.body = some a) :
    serve mine parse own s = answer (own s a).1 f (own s a).2 := by
  cases hl : s.link.queue with
  | nil => simp [hl] at hq
  | cons g rest =>
    have : g = f := by simpa [hl] using hq
    subst this
    simp [serve, hl, hk, hm, hp]

/-- A request whose body is not read is answered MALFORMED and has none of its effects (R7). -/
theorem serve_malformed {α : Type} (mine : Frame → Bool) (parse : Bytes → Option α) (own : State → α → State × ReplyBody)
    (s : State) (f : Frame) (hq : s.link.queue.head? = some f) (hm : mine f = true) (hp : parse f.body = none) :
    serve mine parse own s = answer s f .malformed := by
  cases hl : s.link.queue with
  | nil => simp [hl] at hq
  | cons g rest =>
    have : g = f := by simpa [hl] using hq
    subst this
    simp [serve, hl, hm, hp]

/-- An answer takes the oldest request out of the queue and puts its reply in transmit order (R5, R6). -/
theorem answer_answered (s t : State) (f : Frame) (b : ReplyBody) (h : t.link = s.link) :
    answered s f (answer t f b) b := by
  simp [answered, answer, h]

/-! ### Notices -/

/-- The notice taken is one under way, of the sort asked for, and the rest are under way too. -/
theorem takeNotice_spec (p : Notice → Bool) (ns : List Notice) (n : Notice) (rest : List Notice)
    (h : takeNotice p ns = some (n, rest)) : p n = true ∧ n ∈ ns ∧ ∀ m ∈ rest, m ∈ ns := by
  induction ns generalizing n rest with
  | nil => simp [takeNotice] at h
  | cons a as ih =>
    unfold takeNotice at h
    split at h
    · rename_i hp
      simp only [Option.some.injEq, Prod.mk.injEq] at h
      obtain ⟨rfl, rfl⟩ := h
      exact ⟨hp, by simp, fun m hm => by simp [hm]⟩
    · split at h
      · simp at h
      · rename_i m r hm
        split at h
        · simp at h
        · simp only [Option.some.injEq, Prod.mk.injEq] at h
          obtain ⟨rfl, rfl⟩ := h
          obtain ⟨h1, h2, h3⟩ := ih _ _ hm
          refine ⟨h1, by simp [h2], fun x hx => ?_⟩
          rcases List.mem_cons.mp hx with rfl | hx
          · simp
          · simp [h3 x hx]

theorem onNotice_taken (s : State) (p : Notice → Bool) (act : Notice → State → State) (n : Notice) (rest : List Notice)
    (h : takeNotice p s.notices = some (n, rest)) : onNotice s p act = act n (s.setNotices rest) := by
  simp [onNotice, h]

theorem onNotice_none (s : State) (p : Notice → Bool) (act : Notice → State → State) (h : takeNotice p s.notices = none) :
    onNotice s p act = s := by
  simp [onNotice, h]

/-- A current expiry is acted on (R57). -/
theorem onExpiry_current (s : State) (ch : Channel) (act : State → State) (count : Word16) (rest : List Notice)
    (h : takeNotice (isExpiry ch) s.notices = some (.expiry ch count, rest)) (hc : count = (s.timers.get ch).count) :
    onExpiry s ch act = act (s.setNotices rest) := by
  simp [onExpiry, onNotice, h, hc]

/-- A stale expiry is disregarded (R57). -/
theorem onExpiry_stale (s : State) (ch : Channel) (act : State → State) (count : Word16) (rest : List Notice)
    (h : takeNotice (isExpiry ch) s.notices = some (.expiry ch count, rest)) (hc : count ≠ (s.timers.get ch).count) :
    onExpiry s ch act = s.setNotices rest := by
  simp [onExpiry, onNotice, h, hc]

/-! ### The empty queue, the views and the head's reports -/

/-- With no notice that changes a view alone under way, an empty queue lets a powered part's millisecond pass. -/
theorem idle_quiet (s : State) (hp : s.powered = true) (h : takeNotice isOwnView s.notices = none) : idle s = tick s := by
  simp [idle, hp, h]

/-- The oldest notice that changes a view alone is what an empty queue takes (R51, R53). -/
theorem idle_view (s : State) (o : PitOwner) (input : PitInput) (rest : List Notice) (hp : s.powered = true)
    (h : takeNotice isOwnView s.notices = some (.ownView o input, rest)) :
    idle s = refreshOwner (s.setNotices rest) o input := by
  simp [idle, hp, h]

/-- A part without power does not idle. -/
theorem idle_unpowered (s : State) (hp : s.powered = false) : idle s = s := by
  simp [idle, hp]

/-- An owner that takes such a notice changes nothing but its own view. -/
@[simp] theorem refreshOwner_zone (s : State) (o : PitOwner) (input : PitInput) : (refreshOwner s o input).zone = s.zone := by
  cases o <;> rfl

@[simp] theorem refreshOwner_timers (s : State) (o : PitOwner) (input : PitInput) :
    (refreshOwner s o input).timers = s.timers := by
  cases o <;> rfl

@[simp] theorem refreshOwner_notices (s : State) (o : PitOwner) (input : PitInput) :
    (refreshOwner s o input).notices = s.notices := by
  cases o <;> rfl

@[simp] theorem refreshOwner_history (s : State) (o : PitOwner) (input : PitInput) :
    (refreshOwner s o input).history = s.history := by
  cases o <;> rfl

@[simp] theorem refreshOwner_pending (s : State) (o : PitOwner) (input : PitInput) :
    (refreshOwner s o input).pending = s.pending := by
  cases o <;> rfl

/-- The receiver is deaf exactly while a taken RESTART has nothing left to send (R25). -/
theorem receiving_false_iff (s : State) : receiving s = false ↔ s.link.restarting = true ∧ s.link.backlog = [] := by
  simp [receiving]

/-- A head's report is handed on at a station with an operation in hand, and nothing of it at another (R98, R106). -/
theorem handOn_inHand (s : State) (h : HeadId) (ns : List Notice) (hi : operationInHand s h.station = true) :
    handOn s h ns = send s ns := by
  simp [handOn, hi]

theorem handOn_abandoned (s : State) (h : HeadId) (ns : List Notice) (hi : operationInHand s h.station = false) :
    handOn s h ns = s := by
  simp [handOn, hi]

/-! ### Sparse tables -/

theorem sparseGet_set_same {α : Type} (m : List (Nat × α)) (k : Nat) (x : α) : sparseGet (sparseSet m k x) k = some x := by
  induction m with
  | nil => simp [sparseSet, sparseGet]
  | cons e rest ih =>
    obtain ⟨j, v⟩ := e
    unfold sparseSet
    split
    · simp [sparseGet]
    · split
      · simp [sparseGet]
      · rename_i h1 h2
        simp [sparseGet, h2, ih]

theorem sparseGet_set_other {α : Type} (m : List (Nat × α)) (k j : Nat) (x : α) (h : j ≠ k) :
    sparseGet (sparseSet m k x) j = sparseGet m j := by
  induction m with
  | nil => simp [sparseSet, sparseGet, Ne.symm h]
  | cons e rest ih =>
    obtain ⟨i, v⟩ := e
    unfold sparseSet
    split
    · simp [sparseGet, Ne.symm h]
    · split
      · rename_i h2
        subst h2
        simp [sparseGet, Ne.symm h]
      · simp [sparseGet, ih]

/-- The head of a table whose keys rise lies below every later key. -/
theorem sparseWf_cons {α : Type} (k : Nat) (x : α) (m : List (Nat × α)) :
    sparseWf ((k, x) :: m) = true ↔ (∀ e, m.head? = some e → k < e.1) ∧ sparseWf m = true := by
  cases m with
  | nil => simp [sparseWf]
  | cons e rest => obtain ⟨j, v⟩ := e; simp [sparseWf]

/-- A write keeps the canonical form of a sparse table. -/
theorem sparseWf_set {α : Type} (m : List (Nat × α)) (k : Nat) (x : α) (h : sparseWf m = true) :
    sparseWf (sparseSet m k x) = true := by
  induction m with
  | nil => rfl
  | cons e rest ih =>
    obtain ⟨j, v⟩ := e
    have hr := (sparseWf_cons j v rest).mp h
    unfold sparseSet
    split
    · rename_i h1
      exact (sparseWf_cons _ _ _).mpr ⟨by simpa using h1, h⟩
    · split
      · rename_i h2
        subst h2
        exact (sparseWf_cons _ _ _).mpr hr
      · rename_i h1 h2
        refine (sparseWf_cons _ _ _).mpr ⟨?_, ih hr.2⟩
        intro e he
        cases rest with
        | nil =>
          simp [sparseSet] at he
          subst he
          simp
          omega
        | cons e' rest' =>
          obtain ⟨i, w⟩ := e'
          have hj := hr.1 (i, w) rfl
          simp at hj
          unfold sparseSet at he
          split at he
          · simp at he; subst he; simp; omega
          · split at he
            · simp at he; subst he; simp; omega
            · simp at he; subst he; simp; omega

/-! ### Timers -/

theorem TimerBank.get_set_other (b : TimerBank) (c ch : Channel) (x : TimerRec) (h : c ≠ ch) :
    (b.set ch x).get c = b.get c := by
  cases ch with
  | clamp st => cases c <;> cases st <;> first | rfl | (rename_i s2; cases s2 <;> first | rfl | exact absurd rfl h)
  | head g =>
    obtain ⟨st, d⟩ := g
    cases c with
    | head g2 =>
      obtain ⟨st2, d2⟩ := g2
      cases st <;> cases d <;> cases st2 <;> cases d2 <;> first | rfl | exact absurd rfl h
    | _ => cases st <;> cases d <;> rfl
  | _ => cases c <;> first | rfl | exact absurd rfl h

/-- A start loads the channel's record; every other channel and the gate stay (R55). -/
theorem startTimer_get (s : State) (ch : Channel) :
    (startTimer s ch).timers.get ch = startedRec s.timers.gateOpen ch (s.timers.get ch) (channelMs s.settings ch) := by
  simp [startTimer, startChannel]

theorem cancelTimer_get (s : State) (ch : Channel) : (cancelTimer s ch).timers.get ch = cancelledRec (s.timers.get ch) := by
  simp [cancelTimer]

/-! ### Records -/

/-- The record of a serial after one record is replaced: it is the replacement where the serial is its own. -/
theorem find_replaceRecord (rs : List WheelsetRecord) (r : WheelsetRecord) (serial : Serial) :
    (replaceRecord rs r).find? (fun q => q.serial == serial) =
      (rs.find? (fun q => q.serial == serial)).map (fun q => if q.serial = r.serial then r else q) := by
  induction rs with
  | nil => rfl
  | cons a as ih =>
    by_cases h : a.serial = r.serial
    · by_cases h2 : r.serial = serial
      · simp [replaceRecord, h, h2]
      · simp only [replaceRecord, List.map_cons, h, if_true]
        rw [List.find?_cons_of_neg (by simpa using h2), List.find?_cons_of_neg (by simpa [h] using h2)]
        exact ih
    · by_cases h2 : a.serial = serial
      · have h3 : serial ≠ r.serial := fun x => h (h2.trans x)
        simp [replaceRecord, h2, h3]
      · simp only [replaceRecord, List.map_cons, h, if_false]
        rw [List.find?_cons_of_neg (by simpa using h2), List.find?_cons_of_neg (by simpa using h2)]
        exact ih

/-- An entry placed in the export queue is there, and nothing else has joined (R187). -/
theorem mem_insertExport (q : List ExportEntry) (e x : ExportEntry) : x ∈ insertExport q e ↔ x = e ∨ x ∈ q := by
  induction q with
  | nil => simp [insertExport]
  | cons a as ih =>
    unfold insertExport
    split
    · simp
    · simp [ih]; tauto

/-! ### The room of the export queue -/

theorem insertExport_length (q : List ExportEntry) (e : ExportEntry) : (insertExport q e).length = q.length + 1 := by
  induction q with
  | nil => rfl
  | cons a as ih => unfold insertExport; split <;> simp [*]

/-- An entry that joins a record's list makes the export queue longer by one where the list is full, and not otherwise
(R186, R187). -/
theorem pushEntry_queue_length (serial : Serial) (es : List Entry) (q : List ExportEntry) (e : Entry) :
    (pushEntry serial es q e).2.length = q.length + (if 12 ≤ es.length then 1 else 0) := by
  unfold pushEntry
  split
  · split <;> simp_all [insertExport_length]
  · simp

/-- An append makes the export queue longer by at most one entry (R186). -/
theorem append_queue_length (s : State) (serial : Serial) (body : EntryBody) (upd : WheelsetRecord → WheelsetRecord) :
    (append s serial body upd).history.exportQueue.length ≤ s.history.exportQueue.length + 1 := by
  unfold append
  split
  · exact Nat.le_succ _
  · simp only [send, State.setNotices_history, State.setHistory_history, pushEntry_queue_length]
    split <;> omega

/-- A change that appends nothing leaves the export queue, the counter and the stations (R183). -/
theorem changeRecord_room (s : State) (serial : Serial) (upd : WheelsetRecord → WheelsetRecord) :
    (changeRecord s serial upd).history.exportQueue = s.history.exportQueue ∧
    (changeRecord s serial upd).history.counter = s.history.counter ∧ (changeRecord s serial upd).stations = s.stations := by
  unfold changeRecord
  split <;> exact ⟨rfl, rfl, rfl⟩

end Sys2Proof.Machine
end

