-- ==== Sys2Proof/WellFormed.lean ====
section
/-! DEFINITION. The well-formed commands: those whose operands lie in the ranges that the spec gives what arrives from
outside the part. `exec` answers for every command, well formed or not. -/

namespace Sys2Proof

open Sys2Proof.Machine

/-- The characters between a start mark and the end of a frame: at least the length byte, and at most length, tag, kind,
250 body bytes and two check bytes (section 1.1). -/
def frameCharsWf (chars : List RxChar) : Bool := decide (1 ≤ chars.length) && decide (chars.length ≤ 255)

/-- The number of points of a phase, above its greatest index (R114, R137). -/
def phasePoints : Phase → Nat
  | .datum => 71
  | .lateral => 140
  | .circumferential => 64

/-- A sample's index lies within its phase, and a sample that touched the wheel has a radius in the span (R114, R115). -/
def sampleWf (x : Sample) : Bool :=
  decide (x.index < phasePoints x.phase) &&
    (match x.status with
     | .good => decide (30001 ≤ x.radius) && decide (x.radius ≤ 54999)
     | .saturated => x.radius == 30000 || x.radius == 55000
     | .noContact => true)

/-- A cursor names a point of its phase, or the end of it, or a pass number from 1 and a lateral position to 13 900
(section 5.6, R169). -/
def cursorWf : Cursor → Bool
  | .point ph i => decide (i ≤ phasePoints ph)
  | .pass n x => decide (1 ≤ n) && decide (n ≤ 255) && decide (x ≤ 13900)

/-- An absent value is well formed. -/
def optionWf {α : Type} (ok : α → Bool) : Option α → Bool
  | none => true
  | some x => ok x

/-- A head's report (R115, R169). -/
def headReadingsWf (r : HeadReadings) : Bool :=
  optionWf cursorWf r.cursor && optionWf (fun n => decide (1 ≤ n) && decide (n ≤ 255)) r.passDone &&
    r.samples.all sampleWf && optionWf (fun b => decide ((60000 : Int) ≤ b) && decide (b ≤ (72000 : Int))) r.backFace

/-- The readings of a report: heights to 4500, loads and forces to 5000, a step index to 255 (sections 4.1 and 4.9). -/
def readingsWf : Readings → Bool
  | .column height load _ ack => decide (height ≤ 4500) && decide (load ≤ 5000) && decide (ack ≤ 255)
  | .clamp _ force holding => decide (force ≤ 5000) && decide (holding ≤ 5000)
  | .head r => headReadingsWf r

/-- The report slots of a cycle: positions 1 to 12, strictly rising, each report within its ranges. -/
def slotsWf (slots : List (Nat × SlotReport)) : Bool :=
  sparseWf slots && slots.all (fun e => decide (1 ≤ e.1) && decide (e.1 ≤ 12) && readingsWf e.2.readings)

/-- The well-formed commands. -/
def Instr.wf : Instr → Bool
  | .goodFrameArrival chars => frameCharsWf chars
  | .frameDiscard chars => frameCharsWf chars
  | .loopCycle slots => slotsWf slots
  | .powerUp => true
  | .interByteTimeout => true
  | .identify => true
  | .status => true
  | .setClock => true
  | .settingWrite => true
  | .loopErrorKindsWrite => true
  | .pitMapWrite => true
  | .settingRead => true
  | .takeAttention => true
  | .restart => true
  | .restartComeUp => true
  | .hornMute => true
  | .panelSet => true
  | .loopStart => true
  | .mapAdopt => true
  | .nodeList => true
  | .liftRaise => true
  | .liftLower => true
  | .liftStop => true
  | .liftResume => true
  | .clampClose => true
  | .clampOpen => true
  | .mount => true
  | .dismount => true
  | .stationPause => true
  | .stationResume => true
  | .stationAbandon => true
  | .stationReport => true
  | .insertChanged => true
  | .trace => true
  | .survey => true
  | .profileLoadClear => true
  | .profileLoadFirstPart => true
  | .profileLoadSecondPart => true
  | .profileRead => true
  | .plan => true
  | .planBoth => true
  | .approve => true
  | .cutStart => true
  | .cutStartBoth => true
  | .accept => true
  | .recut => true
  | .recordEnter => true
  | .recordRead => true
  | .recordFit => true
  | .recordAmend => true
  | .recordRetire => true
  | .exportTake => true
  | .clockWrap => true
  | .attentionPosting _ => true
  | .returnPending _ _ => true
  | .breach => true
  | .clear => true
  | .chainBreak => true
  | .healthy => true
  | .zoneGateClose => true
  | .zoneGateOpen => true
  | .timerExpiry _ => true
  | .warnExpiry => true
  | .stepExpiry => true
  | .settleExpiry => true
  | .paceExpiry => true
  | .clampTimerExpiry _ => true
  | .headTimerExpiry _ => true
  | .darkHoldExpiry => true
  | .segmentDiagnosis _ _ => true
  | .diagnosisTimeout => true
  | .identityAnswer _ _ _ => true
  | .identityQueryTimeout => true
  | .loopDownNotice _ => true
  | .liftLoopUp => true
  | .clampLoopUp => true
  | .headLoopUp => true
  | .columnReport _ => true
  | .liftBreachNotice => true
  | .liftBreakNotice => true
  | .columnLost _ => true
  | .columnRegained _ => true
  | .clampReport _ => true
  | .clampBreakNotice => true
  | .clampLost _ => true
  | .clampRegained _ => true
  | .headReport _ => true
  | .taskHanded _ => true
  | .headBreachNotice => true
  | .haltNotice _ => true
  | .headBreakNotice => true
  | .withdrawNotice _ => true
  | .headLost _ => true
  | .headRegained _ => true
  | .traceSamples _ => true
  | .scanSamples _ => true
  | .walkEnd _ => true
  | .passCompletion _ => true
  | .cutPartComplete _ => true
  | .scanTaskEnd _ => true
  | .stationBreachNotice _ => true
  | .stationBreakNotice _ => true
  | .liftFaultedNotice _ => true
  | .clampFailedNotice _ => true
  | .headFailedNotice _ => true
  | .recordChangedNotice _ => true
  | .warningViewNotice _ => true
  | .panelRefresh => true
  | .startMark _ => true
  | .replySent => true
  | .clockAdvance => true
  | .powerLoss => true

end Sys2Proof
end

