-- ==== Sys2Proof/Tests/Slice0.lean ====
section
/-! SUPPORT. Tests of the model: the well-formedness checks, the worked examples of the spec, and for each obligation with
hypotheses a state and operands that meet them, clause by clause. -/

namespace Sys2Proof.Tests

open Sys2Proof Sys2Proof.Machine

set_option Elab.async false

/-! ### Helpers -/

/-- A request frame of kind `k`. -/
def frame (k : Nat) (body : Bytes) : Frame := { tag := 7, kind := BitVec.ofNat 8 k, body := body }

/-- The state with one request waiting. -/
def ask (s : State) (k : Nat) (body : Bytes) : State := s.setLink { s.link with queue := [frame k body] }

/-- The state with one notice under way. -/
def told (s : State) (n : Notice) : State := s.setNotices [n]

/-- The state after a command. -/
def after (c : Instr) (s : State) : State :=
  match exec c s with
  | .next t => t
  | .fault r => nomatch r
  | .refused _ => s

/-- The reply that a command forms last. -/
def reply (c : Instr) (s : State) : Option ReplyBody := ((after c s).link.backlog.getLast?).map (·.body)

/-- The part fresh from reset, with no notice under way. -/
def fresh : State := State.reset.setNotices []

def serialA : Serial := [65, 49]
def serialB : Serial := [66, 50]
def positionA : Position := { unit := 4471, vehicle := 2, bogie := 1, axle := 1 }
def positionB : Position := { unit := 4471, vehicle := 2, bogie := 1, axle := 2 }

/-- A wheelset record at a position. -/
def wheelset (serial : Serial) (p : Option Position) : WheelsetRecord :=
  { serial := serial, position := p, profile := 1, ds := 79000, dlt := 80000, diameters := ⟨84000, 84010⟩, ceiling := none
    condemned := false, matchDue := false, retraceDue := false, cutCount := 0, revision := 1, entries := [] }

/-- A limit line that never makes a finding. -/
def openLine : LimitLine := { lo := 0, hi := 100000, low := .nothing, inside := .nothing, high := .nothing }

/-- A profile of `n` heights. -/
def profileOf (n : Nat) : Profile :=
  { name := [80, 49], sht := 2800, sdt := 3200, kf := 100, cmin := 20, pmax := 300, band := 20, pad := 0, fallback := none
    heights := List.replicate n 0
    limits := { sh := openLine, sd := openLine, qr := openLine, f := openLine, b := openLine } }

/-- A column at 1200 mm. -/
def upColumn : ColumnRec :=
  { condition := .active, height := some 1200, load := some 600, status := some .atSetpoint, current := some 1200
    next := none, lastAck := 0 }

/-- The node table that the pit map names. -/
def nodeTable : List NodeEntry :=
  roles.map (fun r => { position := mapPosition defaultSettings.pitMap r, kind := kindOf r, serial := 5, role := some r
                        condition := .active, count := 0, failures := [], latest := none })

/-- A pit that runs, the lift RAISED, the clamps CLOSED, the heads PARKED, the zone CLEAR, and two wheelsets of one bogie
mounted. -/
def pit : State :=
  { fresh with
    attention := []
    zone := { zone := .clear, zonePending := none, stop := .healthy, stopPending := none, curtainClear := true
              chainHealthy := true }
    timers := { startTimers with gateOpen := true, discover := idleTimer }
    loop := { startLoop with state := .running, table := nodeTable, chainEnd := 10, wait := .none, powered := 11 }
    lift := { startLift with state := .raised, loopUp := true, columns := .all upColumn }
    clamps := { startClamps with
      loopUp := true
      recs := .both { startClamp with
        state := .closed, jaw := some .atClosed, force := some 200, holding := some 160, order := .close } }
    heads := { startHeads (.both (.both 3)) with loopUp := true }
    stations := ⟨{ vacantStation with occupant := some serialA, work := .mounted },
      { vacantStation with occupant := some serialB, work := .mounted }⟩
    profiles := { slots := [(1, profileOf 100)], buffer := none }
    history := { records := [wheelset serialA (some positionA), wheelset serialB (some positionB)], exportQueue := []
                 counter := 20 } }

/-- The lift in a state, its columns as they stand. -/
def lifting (x : LiftState) (s : State) : State := s.setLift { s.lift with state := x }

/-- The lift LOWERED, its columns at 0. -/
def lowered : State :=
  pit.setLift { pit.lift with state := .lowered, columns := .all { upColumn with height := some 0, current := some 0 } }

/-- A clamp in a state. -/
def clamping (st : StationId) (x : ClampState) (s : State) : State := s.setClamp st { s.clamp st with state := x }

/-- A head in a state with a task. -/
def heading (h : HeadId) (x : HeadState) (t : Option HeadTask) (s : State) : State :=
  s.setHead h { s.head h with state := x, task := t }

/-- A station in a work state with an operation in hand. -/
def working (st : StationId) (w : WorkState) (op : Option Operation) (s : State) : State :=
  s.setStation st { s.station st with work := w, operation := op }

/-- A channel that counts with a remaining time and start count 1. -/
def counting (ch : Channel) (ms : Nat) (s : State) : State :=
  s.setTimers (s.timers.set ch { condition := .counting, remaining := ms, loaded := 500, count := 1 })

/-- The zone in a state. -/
def zoned (z : ZoneState) (p : StopState) (s : State) : State := s.setZone { s.zone with zone := z, stop := p }

def hAL : HeadId := ⟨.A, .L⟩
def hAR : HeadId := ⟨.A, .R⟩

/-! ### Well-formedness -/

theorem test_wf_frame_empty : (Instr.goodFrameArrival []).wf = false := by decide
theorem test_wf_frame_long : (Instr.frameDiscard (List.replicate 256 { data := 0, stop := true })).wf = false := by
  decide +kernel
theorem test_wf_slot_position : (Instr.loopCycle [(13, { checkOk := true, cycle := 0, readings := .clamp .atOpen 0 0 })]).wf = false := by
  decide
theorem test_wf_slot_order : (Instr.loopCycle [(2, { checkOk := true, cycle := 0, readings := .clamp .atOpen 0 0 }),
    (1, { checkOk := true, cycle := 0, readings := .clamp .atOpen 0 0 })]).wf = false := by decide
theorem test_wf_column_height : readingsWf (.column 4501 0 .moving 0) = false := by decide
theorem test_wf_column_load : readingsWf (.column 0 5001 .moving 0) = false := by decide
theorem test_wf_column_ack : readingsWf (.column 0 0 .moving 256) = false := by decide
theorem test_wf_clamp_force : readingsWf (.clamp .between 5001 0) = false := by decide
theorem test_wf_clamp_holding : readingsWf (.clamp .between 0 5001) = false := by decide
theorem test_wf_cursor_pass : cursorWf (.pass 0 0) = false := by decide
theorem test_wf_cursor_lateral : cursorWf (.pass 1 13901) = false := by decide
theorem test_wf_cursor_point : cursorWf (.point .circumferential 65) = false := by decide
theorem test_wf_pass_mark : headReadingsWf ⟨.working, none, some 0, false, [], none⟩ = false := by decide
theorem test_wf_sample_index : sampleWf ⟨.lateral, 140, 42000, .good⟩ = false := by decide
theorem test_wf_sample_radius : sampleWf ⟨.lateral, 0, 55000, .good⟩ = false := by decide
theorem test_wf_sample_saturated : sampleWf ⟨.lateral, 0, 42000, .saturated⟩ = false := by decide
theorem test_wf_back_face : headReadingsWf ⟨.working, none, none, false, [], some 72001⟩ = false := by decide

/-! ### Reset -/

theorem test_reset_invariants_of_fields :
    State.reset.pending = [] ∧ State.reset.loop.state = .dark ∧ State.reset.lift.state = .unknown ∧
    State.reset.settings.raiseHeight = 1200 ∧ State.reset.settings.insertLife = 24 := by decide

/-- Power-up of a part fresh from manufacture leaves it as reset says. -/
theorem test_power_up_is_reset : after .powerUp State.reset = State.reset := by decide +kernel

/-! ### Worked examples of the spec -/

/-- The results of a traced wheel, as far as planning reads them. -/
def results (d sh sd f : Geometry) : TraceResults :=
  { nothingDerived with d := some d, sh := some sh, sd := some sd, f := some f }

/-- Slot 3 of the joint plan in chapter 8. -/
def slotThree : Profile := { profileOf 120 with sdt := 2950, kf := 40, cmin := 50 }

def calcA : Calc := compute slotThree none ⟨results 84238 3120 2710 40, results 84190 3060 2790 0⟩
def calcB : Calc := compute slotThree none ⟨results 83820 2900 2990 20, results 83806 2880 3010 20⟩
def joint : Planned × Planned := matchBogie 100 (.adopted 3 slotThree false calcA false) (.adopted 3 slotThree false calcB false)

/-- Section 8, joint plan: the requirements, the targets and wheelset A's finals. -/
theorem test_joint_plan_targets :
    (calcA.wheels.l.a, calcA.wheels.r.a, calcA.target, calcA.wheels.l.final, calcA.wheels.r.final) =
      (600, 400, 83038, 83038, 83030) ∧
    (calcB.wheels.l.a, calcB.wheels.r.a, calcB.target) = (100, 80, 83620) := by decide +kernel

/-- Section 8, joint plan: bogie matching lowers share B to 83138. -/
theorem test_joint_plan_matching :
    (match joint.2 with
     | .adopted _ _ _ c low => (low, c.target, c.wheels.l.c, c.wheels.l.final, c.wheels.r.c, c.wheels.r.final)
     | .flagged => (false, 0, 0, 0, 0, 0)
     | .scrap _ _ => (false, 0, 0, 0, 0, 0)) = (true, 83138, 345, 83130, 335, 83136) := by decide +kernel

/-- Section 8, joint plan: the passes of A-R and B-L. -/
theorem test_joint_plan_passes :
    (passList (dividePasses 300 calcA.wheels.r)).map (·.depth) = [290, 290] ∧
    (passList (dividePasses 300 { calcB.wheels.l with c := 345 })).map (·.depth) = [175, 170] := by decide +kernel

/-- Section 8, the held plan of 5102-A1: requirements 180 and 155, cuts 180 and 185. -/
theorem test_held_plan_cuts :
    ((compute { profileOf 120 with kf := 32, cmin := 50 } none ⟨results 84298 2980 3217 35, results 84306 2955 3188 20⟩).wheels.map
      (fun w => (w.a, w.c, w.final))) = ⟨(180, 180, 83938), (155, 185, 83936)⟩ := by decide +kernel

/-- The heights at points 18 to 34 of the worked extraction (section 6.3); every other point stands at -100. -/
def flangeHeights : List Geometry :=
  [2890, 2930, 2962, 2976, 2980, 2971, 2940, 2868, 2745, 2570, 2340, 2060, 1740, 1390, 1050, 760, 520]

def exampleLateral : List (Nat × Reading) :=
  (List.range 140).map (fun i =>
    (i, { radius := 42150 + (if i = 70 then 0 else if i < 18 then -100 else flangeHeights.getD (i - 18) (-100))
          status := if i = 12 then .saturated else if i = 131 ∨ i = 132 then .noContact else .good }))

/-- Sixty-two GOOD radii that sum to 2 613 213, the greatest 42171 and the least 42136. -/
def exampleCirc : List (Nat × Reading) :=
  (List.range 64).map (fun i =>
    (i, { radius := if i = 0 then 42171 else if i = 1 then 42136 else if i ≤ 28 then 42149 else 42148
          status := if i = 17 ∨ i = 44 then .noContact else .good }))

def exampleWheel : TraceRecord := { newTraceRecord with lateral := exampleLateral, circ := exampleCirc }

/-- Section 6.3: the flange of the worked extraction: Sh 2980 at point 22, Sd 3217, x_s 2572, qR 645, with D 84298 and
F 35; 3 and 2 points missing. -/
theorem test_extraction_flange :
    let r := (extract 4 exampleWheel).results
    (extract 4 exampleWheel).status = .good ∧ (r.sh, r.tip, r.sd, r.xs, r.qr) = (some 2980, some 22, some 3217, some 2572, some 645) ∧
    (r.missLateral, r.missCirc, r.d, r.f) = (some 3, some 2, some 84298, some 35) := by decide +kernel

/-- Section 6.3: with point 33 out of contact the wheel is UNRESOLVED. -/
theorem test_extraction_unresolved :
    (extract 4 { exampleWheel with lateral := sparseSet exampleLateral 33 { radius := 0, status := .noContact } }).status =
      .unresolved := by decide +kernel

/-- Section 10.3: a RECORD RETIRE one slot short is refused HISTORY-FULL, with room 13, reservation 2 and 12 sought. -/
theorem test_retire_one_slot_short :
    let e : Entry := { seq := 1, stamp := startClock, body := .fitted positionA none }
    let s := { pit with
      history := { pit.history with
        records := [{ wheelset [67] none with entries := List.replicate 12 e }]
        exportQueue := List.replicate 83 { serial := serialA, entry := e } } }
    reply .recordRetire (ask (s.setStation .A { s.station .A with reservation := 2 }) 41 (padded 12 [67])) =
      some (.refused .historyFull (.room 13 2 12)) := by decide +kernel

/-- The check of section 1.1 over the nine digits 1 to 9: the generator with every bit set at the start gives 0x29B1. -/
theorem test_crc_digits : crc16 [49, 50, 51, 52, 53, 54, 55, 56, 57] = 0x29B1#16 := by decide +kernel

/-! ### Witnesses: the queue, the invariants and the link -/

/-- StepRunsFrontCommand. -/
theorem test_step_front : ((pit.setPending [.status, .replySent]).pending = .status :: [.replySent]) := by decide +kernel

/-- IdleStepPassesOneMillisecond. -/
theorem test_idle : pit.powered = true ∧ pit.pending = [] := by decide +kernel

/-- BoundsAndPairingsKept and HistoryStoreKept: the invariants hold of a pit at work. -/
theorem test_invariants : linkInv pit ∧ attentionInv pit ∧ occupantInv pit ∧ panelInv pit ∧ historyInv pit := by
  refine ⟨?_, ?_, ?_, ?_, ?_, ?_⟩
  · unfold linkInv; decide +kernel
  · unfold attentionInv; decide +kernel
  · unfold occupantInv; decide +kernel
  · unfold panelInv; decide +kernel
  · unfold recordsInv; decide +kernel
  · unfold numbersInv storedNumbers; decide +kernel

theorem test_insert_invariant : insertInv pit := by
  refine ⟨by decide +kernel, fun h => ?_⟩
  obtain ⟨st, d⟩ := h
  cases st <;> cases d <;> decide +kernel

/-- CondemnedAndCounterNeverFallBack. -/
theorem test_condemned :
    condemnedAt (pit.setHistory { pit.history with records := [{ wheelset serialA none with condemned := true }] }) serialA =
      true := by decide +kernel

/-- The characters of a frame after its start mark. -/
def chars (tag kind : Byte) (body : Bytes) : List RxChar :=
  (frameBytes tag kind body).tail.map (fun b => { data := b, stop := true })

/-- FrameReceivedAsSent: the shortest and the longest body; two wrong check bytes. -/
theorem test_frame_lengths : ([] : Bytes).length ≤ 250 ∧ (List.replicate 250 (0 : Byte)).length ≤ 250 ∧
    ([0, 0] : Bytes) ≠ u16 (crc16 (checkedBytes 7 2 [])).toNat := by decide +kernel

theorem test_frame_received : received (chars 7 2 []) = .good { tag := 7, kind := 2, body := [] } := by decide +kernel

def inFrame : State := pit.setLink { pit.link with inFrame := true }

/-- LinkTakesFramesAndSendsReplies. -/
theorem test_link_start : pit.powered = true ∧ pit.link.inFrame = false := by decide +kernel
theorem test_link_discard : inFrame.powered = true ∧ inFrame.link.inFrame = true ∧
    received [{ data := 251, stop := true }] = .discarded := by decide +kernel
theorem test_link_good : inFrame.link.inFrame = true ∧ received (chars 7 2 []) = .good (frame 2 []) := by decide +kernel
theorem test_link_reply :
    (pit.setLink { pit.link with backlog := [{ tag := 7, kind := 2, body := .busy }] }).link.backlog =
      { tag := 7, kind := 2, body := .busy } :: [] := by decide +kernel

/-- ReadingRequestsAnswer. -/
theorem test_reading : asks (ask pit 1 []) (frame 1 []) 1 [] ∧ asks (ask pit 2 []) (frame 2 []) 2 [] ∧
    asks (ask pit 5 [1]) (frame 5 [1]) 5 [1] ∧ asks (ask pit 5 [19]) (frame 5 [19]) 5 [19] ∧
    asks (ask pit 12 []) (frame 12 []) 12 [] := by decide +kernel
theorem test_reading_station : asks (ask pit 31 [1, 0]) (frame 31 [1, 0]) 31 [1, 0] ∧
    asks (ask pit 31 [2, 4]) (frame 31 [2, 4]) 31 [2, 4] ∧ stationOf 1 = some .A ∧ stationOf 2 = some .B := by decide +kernel
theorem test_reading_profile : asks (ask pit 36 [1, 2]) (frame 36 [1, 2]) 36 [1, 2] ∧ profileAt pit 1 = some (profileOf 100) ∧
    asks (ask pit 36 [8, 1]) (frame 36 [8, 1]) 36 [8, 1] ∧ profileAt pit 8 = none := by decide +kernel

def bodyA (n : Byte) : Bytes := padded 12 serialA ++ [n]
def entryOne : Entry := { seq := 4, stamp := startClock, body := .fitted positionA none }
def listed : State :=
  pit.setHistory { pit.history with records := [{ wheelset serialA (some positionA) with entries := [entryOne] }] }

theorem test_reading_record : asks (ask listed 38 (bodyA 0)) (frame 38 (bodyA 0)) 38 (bodyA 0) ∧
    parseRecordRead (bodyA 0) = some (serialA, 0) ∧ parseRecordRead (bodyA 1) = some (serialA, 1) ∧
    parseRecordRead (bodyA 12) = some (serialA, 12) ∧
    findRecord listed.history serialA = some { wheelset serialA (some positionA) with entries := [entryOne] } := by
  decide +kernel

/-- MalformedRequestsAnswered. -/
theorem test_malformed : (ask pit 0 []).link.queue.head? = some (frame 0 []) ∧ (frame 0 []).kind.toNat = 0 ∧
    42 < (frame 43 []).kind.toNat ∧ asks (ask pit 2 [1]) (frame 2 [1]) 2 [1] ∧
    asks (ask pit 3 [0, 0, 0]) (frame 3 [0, 0, 0]) 3 [0, 0, 0] ∧ asks (ask pit 42 [1]) (frame 42 [1]) 42 [1] := by
  decide +kernel

/-- SetClockStoresTime. -/
theorem test_set_clock : asks (ask pit 3 (u32 4294967295)) (frame 3 (u32 4294967295)) 3 (u32 (4294967295#32).toNat) := by
  decide +kernel

/-- ClockAdvancesAndWraps. -/
theorem test_clock_fraction : pit.clock.frac < 63 := by decide +kernel
theorem test_clock_second : (pit.setClock { secs := 4294967294, frac := 63, set := true }).clock.frac = 63 ∧
    (pit.setClock { secs := 4294967294, frac := 63, set := true }).clock.secs ≠ 4294967295#32 := by decide +kernel
theorem test_clock_wrap : (pit.setClock { secs := 4294967295, frac := 63, set := true }).clock.frac = 63 ∧
    (pit.setClock { secs := 4294967295, frac := 63, set := true }).clock.secs = 4294967295#32 := by decide +kernel

/-- SettingsWritten. -/
theorem test_setting_write : asks (ask pit 4 [1, 0, 0]) (frame 4 [1, 0, 0]) 4 [1, 0, 0] ∧
    asks (ask pit 4 [17, 255, 255]) (frame 4 [17, 255, 255]) 4 [17, 255, 255] ∧
    asks (ask pit 4 [14, 0, 2]) (frame 4 [14, 0, 2]) 4 [14, 0, 2] := by decide +kernel
theorem test_kinds_write : asks (ask pit 4 [18, 7]) (frame 4 [18, 7]) 4 [18, 7] ∧ asks (ask pit 4 [18, 0]) (frame 4 [18, 0]) 4 [18, 0] := by
  decide +kernel

def mapBody : Bytes := [12, 2, 3, 4, 5, 6, 7, 8, 9, 1]
def badMapBody : Bytes := [13, 2, 3, 4, 5, 6, 7, 8, 9, 1]
def writtenMap (n : Nat) : PitMap := { columns := ⟨n, 2, 3, 4⟩, heads := ⟨⟨5, 6⟩, ⟨7, 8⟩⟩, clamps := ⟨9, 1⟩ }

theorem test_map_write : asks (ask pit 4 (19 :: mapBody)) (frame 4 (19 :: mapBody)) 4 (19 :: mapBody) ∧
    mapPositions (writtenMap 12) = mapBody.map (·.toNat) ∧
    ((mapPositions (writtenMap 12)).Nodup ∧ ∀ p ∈ mapPositions (writtenMap 12), 1 ≤ p ∧ p ≤ 12) := by decide +kernel
theorem test_map_write_bad : asks (ask pit 4 (19 :: badMapBody)) (frame 4 (19 :: badMapBody)) 4 (19 :: badMapBody) ∧
    mapPositions (writtenMap 13) = badMapBody.map (·.toNat) ∧
    ¬ ((mapPositions (writtenMap 13)).Nodup ∧ ∀ p ∈ mapPositions (writtenMap 13), 1 ≤ p ∧ p ≤ 12) := by decide +kernel

def itemOf (k : AttentionKind) (n : Nat) : AttentionItem :=
  { kind := k, source := .pit, detail := .empty, repeats := n, first := startClock, last := startClock }
def posted (items : List AttentionItem) : State := (told pit (.posting .zone .pit (.zone true))).setAttention items

/-- AttentionQueueCoalescesAndRanks: a new pairing, and a pairing at the greatest repeat count. -/
theorem test_posting :
    nthPosting 0 (posted []).notices = some (.zone, .pit, .zone true, []) ∧
    (∀ j ∈ (posted [itemOf .estop 1]).attention, ¬ (j.kind = .zone ∧ j.source = .pit)) ∧
    ∃ j ∈ (posted [itemOf .zone 255]).attention, j.kind = .zone ∧ j.source = .pit := by decide +kernel
theorem test_take_attention :
    asks (ask (pit.setAttention [itemOf .insertDue 1, itemOf .zone 2]) 6 []) (frame 6 []) 6 [] ∧
    attentionInv (ask (pit.setAttention [itemOf .insertDue 1, itemOf .zone 2]) 6 []) ∧
    asks (ask pit 6 []) (frame 6 []) 6 [] ∧ (ask pit 6 []).attention = [] := by
  unfold attentionInv
  decide +kernel

/-- TAKE ATTENTION prefers class SAFETY to an insert due. -/
theorem test_take_attention_order :
    reply .takeAttention (ask (pit.setAttention [itemOf .insertDue 1, itemOf .zone 2]) 6 []) =
      some (.done (.item (itemOf .zone 2))) := by decide +kernel

def atRest : State := clamping .B .opened (clamping .A .opened lowered)

/-- RestartNeedsPitAtRest. -/
theorem test_restart : asks (ask atRest 7 []) (frame 7 []) 7 [] ∧ (ask atRest 7 []).link.queue = frame 7 [] :: [] ∧
    (ask atRest 7 []).lift.state = .lowered ∧ ((ask atRest 7 []).clamp .A).state = .opened ∧
    ((ask atRest 7 []).clamp .B).state = .opened ∧
    (∀ st, ((ask atRest 7 []).station st).work ≠ .tracing ∧ ((ask atRest 7 []).station st).work ≠ .cutting ∧
      ((ask atRest 7 []).station st).work ≠ .scanning ∧ ((ask atRest 7 []).station st).work ≠ .paused) := by
  refine ⟨by decide +kernel, by decide +kernel, by decide +kernel, by decide +kernel, by decide +kernel, fun st => ?_⟩
  cases st <;> decide +kernel
theorem test_restart_refused : asks (ask pit 7 []) (frame 7 []) 7 [] ∧ (ask pit 7 []).link.restarting = false ∧
    (ask pit 7 []).lift.state ≠ .lowered ∧ (ask pit 7 []).lift.state ≠ .unknown := by decide +kernel

/-! ### Witnesses: the pit loop -/

/-- LoopStartsAndMapAdopted. -/
theorem test_loop_start : asks (ask atRest 10 []) (frame 10 []) 10 [] ∧
    firstFailing (loopStartConditions (ask atRest 10 [])) = none ∧ (ask atRest 10 []).loop.state = .running := by
  decide +kernel
theorem test_loop_down : waits (told pit (.loopDown .lift)) (fun n => n == .loopDown .lift) (.loopDown .lift) [] := by
  decide +kernel

def mismatched (table : List NodeEntry) : State := pit.setLoop { pit.loop with state := .mismatch, table := table }

theorem test_map_adopt : asks (ask (mismatched nodeTable) 11 []) (frame 11 []) 11 [] ∧
    (ask (mismatched nodeTable) 11 []).loop.state = .mismatch ∧ (entriesOf nodeTable .liftColumn).length = 4 ∧
    (entriesOf nodeTable .wheelHead).length = 4 ∧ (entriesOf nodeTable .axleClamp).length = 2 := by decide +kernel
theorem test_map_adopt_refused : (ask pit 11 []).loop.state ≠ .mismatch ∧
    ¬ ((entriesOf (nodeTable.take 9) .liftColumn).length = 4 ∧ (entriesOf (nodeTable.take 9) .wheelHead).length = 4 ∧
      (entriesOf (nodeTable.take 9) .axleClamp).length = 2) := by decide +kernel

/-- A discovery under way at a segment, waiting. -/
def discovering (w : DiscoveryWait) (p : Option Nat) (table : List NodeEntry) : State :=
  (counting .discover 40 pit).setLoop
    { startLoop with state := .discovering, wait := w, discovery := p, table := table, powered := table.length + 1 }
def discoverExpiry (s : State) : State := told s (.expiry .discover s.timers.discover.count)

/-- DiscoveryWalksTheLoop: the segment steps. -/
theorem test_dark_hold_end :
    waits (discoverExpiry (discovering .darkHold none [])) (isExpiry .discover) (.expiry .discover 1) [] ∧
    (discoverExpiry (discovering .darkHold none [])).loop.wait = .darkHold := by decide +kernel
theorem test_segment : (discovering .diagnosis (some 1) []).loop.wait = .diagnosis ∧
    (discovering .diagnosis (some 1) []).timers.discover.condition ≠ .idle ∧
    (discovering .diagnosis (some 1) []).loop.discovery = some 1 ∧ SegmentOutcome.opened ≠ .clean := by decide +kernel
theorem test_segment_timeout :
    waits (discoverExpiry (discovering .diagnosis (some 12) [])) (isExpiry .discover) (.expiry .discover 1) [] ∧
    (discoverExpiry (discovering .diagnosis (some 12) [])).loop.discovery = some 12 := by decide +kernel

/-- DiscoveryWalksTheLoop: the identity steps, at positions 11 and 12, at the second and the third query. -/
theorem test_identity : (discovering (.query 1) (some 11) []).loop.wait = .query 1 ∧
    (discovering (.query 1) (some 11) []).timers.discover.condition ≠ .idle ∧
    (discovering (.query 1) (some 11) []).loop.discovery = some 11 ∧
    (discovering (.query 3) (some 12) []).loop.wait = .query 3 ∧
    (discovering (.query 2) (some 12) []).loop.discovery = some 12 := by decide +kernel
theorem test_identity_timeout :
    waits (discoverExpiry (discovering (.query 1) (some 11) nodeTable)) (isExpiry .discover) (.expiry .discover 1) [] ∧
    (discoverExpiry (discovering (.query 1) (some 11) nodeTable)).loop.wait = .query 1 := by decide +kernel

/-- The chain of the factory pit agrees with the factory map (section 2.3, worked sequence). -/
theorem test_discovery_of_factory_pit :
    (after .identityQueryTimeout (discoverExpiry (discovering (.query 1) (some 11) nodeTable))).loop.firstCycle = true ∧
    (after .identityQueryTimeout (discoverExpiry (discovering (.query 1) (some 11) nodeTable))).loop.chainEnd = 10 := by
  decide +kernel

/-- LoopCycleJudgesNodes. -/
theorem test_loop_cycle : pit.powered = true ∧ (pit.loop.state = .running ∨ pit.loop.firstCycle = true) := by decide +kernel
theorem test_loop_cycle_first : ({ pit.loop with firstCycle := true }).firstCycle = true := by decide +kernel

/-- Thirty-two counted failures at error index 4 post LOOP-QUALITY (R33). -/
theorem test_loop_quality :
    (after (.loopCycle []) (pit.setLoop { pit.loop with errors := 31 })).loop.errors = 0 ∧
    (after (.loopCycle []) (pit.setLoop { pit.loop with errors := 21 })).loop.errors = 31 := by decide +kernel

/-! ### Witnesses: zone, timers, warnings -/

def breached : State := pit.setZone { pit.zone with zone := .breached, zonePending := some 0, stop := .broken, stopPending := some 0 }

/-- ZoneReturnNeedsPendingTime. -/
theorem test_return_pending : breached.zone.zone = .breached ∧ breached.zone.stop = .broken ∧ breached.powered = true := by
  decide +kernel
theorem test_clear : (breached.setUptime 250).zone.zonePending = some 0 ∧ 0 + 250 ≤ (breached.setUptime 250).uptime ∧
    (breached.setUptime 250).zone.stopPending = some 0 := by decide +kernel

/-- One millisecond before its time the clear event does not occur. -/
theorem test_clear_early : (after .clear (breached.setUptime 249)).zone.zone = .breached ∧
    (after .clear (breached.setUptime 250)).zone.zone = .clear := by decide +kernel

/-- BreachAndBreakDeliver. -/
theorem test_breach : pit.powered = true ∧ pit.zone.zone = .clear ∧ pit.zone.stop = .healthy := by decide +kernel

/-- TimersGateExpireAndGoStale. -/
theorem test_gate : waits (told pit .gateClose) (fun n => n == .gateClose) .gateClose [] ∧
    waits (told pit .gateOpen) (fun n => n == .gateOpen) .gateOpen [] := by decide +kernel
theorem test_expiry : (counting .pace 0 pit).powered = true ∧ ((counting .pace 0 pit).timers.get .pace).condition = .counting ∧
    ((counting .pace 0 pit).timers.get .pace).remaining = 0 ∧
    ((counting (.head hAL) 0 pit).timers.get (.head hAL)).condition = .counting := by decide +kernel
theorem test_stale : waits (told (counting .warn 5 pit) (.expiry .warn 0)) (isExpiry .warn) (.expiry .warn 0) [] ∧
    (0 : Word16) ≠ ((told (counting .warn 5 pit) (.expiry .warn 0)).timers.get .warn).count ∧
    waits (told pit (.expiry .discover 9)) (isExpiry .discover) (.expiry .discover 9) [] ∧
    waits (told pit (.expiry (.clamp .B) 9)) (isExpiry (.clamp .B)) (.expiry (.clamp .B) 9) [] := by decide +kernel

/-- HornAndLampsFollowTheView. -/
theorem test_horn_mute : asks (ask pit 8 []) (frame 8 []) 8 [] := by decide +kernel
theorem test_view : waits (told pit (.view .lift (.lift .faulted))) (isView .lift) (.view .lift (.lift .faulted)) [] := by
  decide +kernel

/-- A faulted lift sounds FAULT and flashes all three lift lamps (R61, R63). -/
theorem test_view_fault :
    (after (.warningViewNotice .lift) (told pit (.view .lift (.lift .faulted)))).warnings.tone = some .fault ∧
    (after (.warningViewNotice .lift) (told pit (.view .lift (.lift .faulted)))).warnings.cells.take 3 =
      [.flash, .flash, .flash] := by decide +kernel

/-- PanelSetSetsHostCells. -/
theorem test_panel_set : asks (ask pit 9 [0, 1, 2, 3]) (frame 9 [0, 1, 2, 3]) 9 [0, 1, 2, 3] ∧
    parsePanel [0, 1, 2, 3] = some [some .off, some .on, some .flash, none] ∧
    panelInv (ask pit 9 [0, 1, 2, 3]) := by
  unfold panelInv; decide +kernel

/-- PanelSetSetsHostCells, a value outside the four. -/
theorem test_panel_set_malformed : asks (ask pit 9 [0, 1, 4, 3]) (frame 9 [0, 1, 4, 3]) 9 [0, 1, 4, 3] ∧
    (∃ b ∈ ([0, 1, 4, 3] : Bytes), b ≠ 0 ∧ b ≠ 1 ∧ b ≠ 2 ∧ b ≠ 3) ∧
    ((after .panelSet (ask pit 9 [0, 1, 4, 3])).link.backlog.map (·.body)) = [.malformed] := by decide +kernel

/-! ### Witnesses: lift and clamps -/

/-- LiftRequestsWarnAndStop. -/
theorem test_lift_raise : asks (ask atRest 13 []) (frame 13 []) 13 [] ∧ (ask atRest 13 []).lift.state = .lowered ∧
    firstFailing (liftConditions (ask atRest 13 [])) = none := by decide +kernel
theorem test_lift_lower : asks (ask atRest 14 []) (frame 14 []) 14 [] ∧
    firstFailing (liftConditions (ask (lifting .raised atRest) 14 [])) = none ∧
    (ask (lifting .raised atRest) 14 []).lift.state = .raised := by decide +kernel
theorem test_lift_resume : asks (ask (lifting .holding atRest) 16 []) (frame 16 []) 16 [] ∧
    (ask (lifting .holding atRest) 16 []).lift.state = .holding ∧
    firstFailing (liftConditions (ask (lifting .holding atRest) 16 [])) = none := by decide +kernel
theorem test_lift_refused :
    firstFailing (((ask pit 13 []).lift.state == .lowered, .wrongState) :: liftConditions (ask pit 13 [])) =
      some .wrongState ∧
    firstFailing (((zoned .breached .healthy (lifting .raised atRest)).lift.state == .raised ||
      (zoned .breached .healthy (lifting .raised atRest)).lift.state == .holding ||
      (zoned .breached .healthy (lifting .raised atRest)).lift.state == .faulted, .wrongState) ::
        liftConditions (zoned .breached .healthy (lifting .raised atRest))) = some .zoneBreached := by decide +kernel
theorem test_lift_stop : asks (ask (lifting .settling pit) 15 []) (frame 15 []) 15 [] ∧
    (ask (lifting .settling pit) 15 []).lift.state = .settling ∧ liftMoving (ask pit 15 []).lift.state = false := by
  decide +kernel

/-- BreachAndBreakHoldLift. -/
theorem test_lift_breach : waits (told (lifting .raising pit) .liftBreach) (fun n => n == .liftBreach) .liftBreach [] ∧
    waits (told (lifting .settling pit) .liftBreak) (fun n => n == .liftBreak) .liftBreak [] := by decide +kernel

def warned (d : Direction) : State :=
  told ((counting .warn 0 lowered).setLift { lowered.lift with state := .warning, direction := d }) (.expiry .warn 1)

/-- WarningEndStartsMotion. -/
theorem test_warning_end : waits (warned .up) (isExpiry .warn) (.expiry .warn (warned .up).timers.warn.count) [] ∧
    (warned .up).lift.state = .warning ∧
    waits (warned .down) (isExpiry .warn) (.expiry .warn (warned .down).timers.warn.count) [] := by decide +kernel

/-- The first raise step from 0 mm is one lift step, the first lowering step from 1200 mm is 1100 mm. -/
theorem test_first_steps : (after .warnExpiry (warned .up)).lift.issued = 100 ∧
    (after .warnExpiry ((warned .down).setLift { (warned .down).lift with columns := .all upColumn })).lift.issued = 1100 := by
  decide +kernel

def liftTold (ch : Channel) (x : LiftState) (l : Lift) : State :=
  told ((counting ch 0 pit).setLift { l with state := x }) (.expiry ch 1)

/-- LiftTimersHoldOrGoOn. -/
theorem test_step_timeout : waits (liftTold .step .raising pit.lift) (isExpiry .step)
      (.expiry .step (liftTold .step .raising pit.lift).timers.step.count) [] ∧
    (liftTold .step .raising pit.lift).lift.state = .raising := by decide +kernel
theorem test_settle_end : waits (liftTold .settle .settling pit.lift) (isExpiry .settle)
      (.expiry .settle (liftTold .settle .settling pit.lift).timers.settle.count) [] ∧
    levelAndLoad pit.settings (liftTold .settle .settling pit.lift).lift = none := by decide +kernel

def tilted : Lift := { pit.lift with columns := { pit.lift.columns with j1 := { upColumn with height := some 1231 } } }

theorem test_settle_hold : levelAndLoad pit.settings (liftTold .settle .settling tilted).lift =
    some (.level, .level .J1 .J2 31) := by decide +kernel

def pacing (index : Nat) (final : Option Nat) : State :=
  liftTold .pace .lowering { pit.lift with stepIndex := index, finalIndex := final, issued := 100, direction := .down }

theorem test_pace : waits (pacing 1 none) (isExpiry .pace) (.expiry .pace (pacing 1 none).timers.pace.count) [] ∧
    (pacing 1 none).lift.state = .lowering ∧ leastAck (pacing 2 none).lift + 2 ≤ (pacing 2 none).lift.stepIndex ∧
    (pacing 1 none).lift.stepIndex < leastAck (pacing 1 none).lift + 2 ∧ (pacing 1 (some 1)).lift.finalIndex = some 1 := by
  decide +kernel

/-- The step that reaches 0 is the final step (R78). -/
theorem test_pace_final : (after .paceExpiry (pacing 1 none)).lift.finalIndex = some 2 := by decide +kernel

def columnTold (x : LiftState) (l : Lift) (height ack : Nat) : State :=
  told (pit.setLift { l with state := x }) (.report (.column .J1) (.column height 600 .atSetpoint ack))

/-- Three columns have acknowledged step `i`; `issued` is its setpoint. -/
def almost (i issued : Nat) (final : Option Nat) : Lift :=
  { pit.lift with
    columns := ⟨upColumn, { upColumn with lastAck := i }, { upColumn with lastAck := i }, { upColumn with lastAck := i }⟩
    stepIndex := i, issued := issued, finalIndex := final, orders := .all (.move [{ index := i, setpoint := issued }]) }

/-- ColumnReportsDriveTheLift: a step not yet complete, complete below the raise height, complete at it, out of level, and
the final step of a lowering. -/
theorem test_column_report :
    waits (columnTold .raised pit.lift 1200 0) (isReport (.column .J1))
      (.report (.column .J1) (.column 1200 600 .atSetpoint 0)) [] ∧
    allAcknowledged (recordColumn (columnTold .raising (almost 3 1200 none) 1200 2).lift .J1 1200 600 .atSetpoint 2) 3 = false ∧
    allAcknowledged (recordColumn (columnTold .raising (almost 3 1100 none) 1200 3).lift .J1 1200 600 .atSetpoint 3) 3 = true ∧
    levelAndLoad pit.settings
      (recordColumn (columnTold .raising (almost 3 1200 none) 1200 3).lift .J1 1200 600 .atSetpoint 3) = none ∧
    (levelAndLoad pit.settings
      (recordColumn (columnTold .raising (almost 3 1200 none) 1260 3).lift .J1 1260 600 .atSetpoint 3)).isSome = true ∧
    allAcknowledged (recordColumn (columnTold .lowering (almost 3 0 (some 3)) 0 3).lift .J1 0 600 .atSetpoint 3) 3 = true := by
  decide +kernel

/-- ColumnLossAndLoopUpPlaceLift. -/
theorem test_column_loss :
    waits (told pit (.lost (.column .J4))) (fun n => n == .lost (.column .J4)) (.lost (.column .J4)) [] ∧
    waits (told pit (.regained (.column .J4) (.column 0 0 .moving 0))) (isRegained (.column .J4))
      (.regained (.column .J4) (.column 0 0 .moving 0)) [] := by decide +kernel

def firstCycle (height : Nat) : List (Role × CycleOutcome) :=
  roles.map (fun r => (r, .good (match r with
    | .column _ => .column height 0 .atSetpoint 0
    | .head _ => .head ⟨.atPark, none, none, false, [], none⟩
    | .clamp _ => .clamp .atOpen 0 160)))

theorem test_lift_loop_up : waits (told pit (.loopUp .lift (firstCycle 0))) (isLoopUp .lift) (.loopUp .lift (firstCycle 0)) [] ∧
    (after .liftLoopUp (told pit (.loopUp .lift (firstCycle 0)))).lift.state = .lowered ∧
    (after .liftLoopUp (told pit (.loopUp .lift (firstCycle 1)))).lift.state = .holding := by decide +kernel

/-- ClampRequestsStartTravel. -/
theorem test_clamp_requests :
    asks (ask (clamping .A .opened pit) 17 [1]) (frame 17 [1]) 17 [1] ∧ stationOf 1 = some .A ∧
    firstFailing (clampCloseConditions (ask (clamping .A .opened pit) 17 [1]) .A) = none ∧
    asks (ask pit 18 [2]) (frame 18 [2]) 18 [2] ∧ firstFailing (clampOpenConditions (ask pit 18 [2]) .B) = none ∧
    firstFailing (clampCloseConditions (ask (clamping .A .closed pit) 17 [1]) .A) = some .clampNotOpen ∧
    firstFailing (clampOpenConditions (ask (working .B .cutting (some .cut) pit) 18 [2]) .B) ≠ none := by decide +kernel

def clampTold (x : ClampState) (jaw : Jaw) (force : Nat) : State :=
  told (clamping .A x pit) (.report (.clamp .A) (.clamp jaw force 160))

/-- ClampReportsCompleteTravel: at the holding force, and one below it. -/
theorem test_clamp_report :
    waits (clampTold .closing .atClosed 160) (isReport (.clamp .A)) (.report (.clamp .A) (.clamp .atClosed 160 160)) [] ∧
    ((clampTold .closing .atClosed 160).clamp .A).state = .closing ∧
    ((clampTold .closed .atClosed 159).clamp .A).state = .closed ∧ ((clampTold .opening .atOpen 0).clamp .A).state = .opening := by
  decide +kernel

/-- The holding force itself holds, one newton-unit less does not. -/
theorem test_clamp_force_edge : ((after (.clampReport .A) (clampTold .closed .atClosed 160)).clamp .A).state = .closed ∧
    ((after (.clampReport .A) (clampTold .closed .atClosed 159)).clamp .A).state = .faulted := by decide +kernel

/-- ClampFaultsAndRecovery. -/
theorem test_clamp_faults :
    waits (told (counting (.clamp .A) 0 (clamping .A .closing pit)) (.expiry (.clamp .A) 1)) (isExpiry (.clamp .A))
      (.expiry (.clamp .A) ((counting (.clamp .A) 0 (clamping .A .closing pit)).timers.clamp.get .A).count) [] ∧
    waits (told (clamping .B .opening pit) .clampBreak) (fun n => n == .clampBreak) .clampBreak [] ∧
    waits (told pit (.lost (.clamp .A))) (fun n => n == .lost (.clamp .A)) (.lost (.clamp .A)) [] ∧
    waits (told pit (.regained (.clamp .A) (.clamp .between 0 160))) (isRegained (.clamp .A))
      (.regained (.clamp .A) (.clamp .between 0 160)) [] ∧
    waits (told pit (.loopUp .clamps (firstCycle 0))) (isLoopUp .clamps) (.loopUp .clamps (firstCycle 0)) [] := by
  decide +kernel

/-! ### Witnesses: heads -/

def walkTask : HeadTask := .walk (.point .lateral 0)
def passTask : HeadTask := .passes [{ number := 1, depth := 290 }, { number := 2, depth := 290 }] 0

/-- A report of a head. -/
def headTold (h : HeadId) (r : HeadReadings) (s : State) : State := told s (.report (.head h) (.head r))

def restReport : HeadReadings := { status := .atPark, cursor := none, passDone := none, taskDone := false, samples := [], backFace := none }
def passReport : HeadReadings := { restReport with status := .working, cursor := some (.pass 2 0), passDone := some 1 }
def walkReport : HeadReadings :=
  { restReport with status := .working, cursor := some (.point .lateral 1), samples := [⟨.lateral, 0, 42000, .good⟩] }
def doneReport : HeadReadings := { restReport with status := .working, taskDone := true }

/-- TasksTakenByHeadState: every state of the head, and the zone and the chain that let it work or do not. -/
theorem test_task : waits (told pit (.task hAL walkTask)) (isTask hAL) (.task hAL walkTask) [] ∧ pit.zone.stop = .healthy ∧
    pit.zone.zone = .clear ∧ (pit.head hAL).state = .parked ∧ ((heading hAL .returning none pit).head hAL).state = .returning ∧
    ((heading hAL .paused (some walkTask) pit).head hAL).state = .paused ∧ ((heading hAL .faulted none pit).head hAL).state = .faulted ∧
    (zoned .breached .broken pit).zone.zone = .breached ∧ (zoned .breached .broken pit).zone.stop = .broken := by decide +kernel

/-- A task handed under a breached zone is kept halted (R103). -/
theorem test_task_breached :
    ((after (.taskHanded hAL) (told (zoned .breached .healthy pit) (.task hAL walkTask))).head hAL).state = .paused := by
  decide +kernel

/-- HeadReportsAdvanceWork. -/
theorem test_head_report :
    waits (headTold hAL passReport (heading hAL .cutting (some passTask) pit)) (isReport (.head hAL))
      (.report (.head hAL) (.head passReport)) [] ∧
    headWorking ((heading hAL .cutting (some passTask) pit).head hAL).state = true ∧
    ((heading hAL .cutting (some passTask) pit).head hAL).task = some passTask ∧
    ((heading hAL .paused (some walkTask) pit).head hAL).state = .paused ∧
    (none != passReport.cursor || passReport.passDone.isSome || passReport.taskDone) = true ∧
    (none != restReport.cursor || restReport.passDone.isSome || restReport.taskDone) = false ∧
    passReport.passDone = some 1 ∧ walkReport.samples ≠ [] ∧ doneReport.taskDone = true := by decide +kernel

/-- The twenty-fourth pass of an insert whose life is 24 makes it due (R108). -/
theorem test_insert_due :
    let s := heading hAL .cutting (some passTask) (pit.setHead hAL { pit.head hAL with insertCount := 23 })
    let t := after (.headReport hAL) (headTold hAL passReport s)
    (t.head hAL).insertCount = 24 ∧
      .posting .insertDue (.position 5) (.insertDue hAL 24 24 false) ∈ t.notices := by decide +kernel

/-- HeadsParkAndDerive. -/
theorem test_heads_park :
    waits (headTold hAL restReport (heading hAL .returning none pit)) (isReport (.head hAL))
      (.report (.head hAL) (.head restReport)) [] ∧
    ((heading hAL .returning none pit).head hAL).state = .returning ∧
    ((heading hAL .returning none pit).head hAL).pendingTask = none ∧ restReport.status = .atPark ∧
    passReport.status ≠ .atPark ∧
    waits (told pit (.loopUp .heads (firstCycle 0))) (isLoopUp .heads) (.loopUp .heads (firstCycle 0)) [] := by decide +kernel

/-- HeadsFaultByCause. -/
theorem test_heads_fault :
    waits (told (counting (.head hAL) 0 pit) (.expiry (.head hAL) 1)) (isExpiry (.head hAL))
      (.expiry (.head hAL) ((counting (.head hAL) 0 pit).timers.get (.head hAL)).count) [] ∧
    waits (told pit (.lost (.head hAL))) (fun n => n == .lost (.head hAL)) (.lost (.head hAL)) [] ∧
    waits (told pit (.regained (.head hAL) (.head restReport))) (isRegained (.head hAL))
      (.regained (.head hAL) (.head restReport)) [] := by decide +kernel

/-- A PARKED head lost with no operation in hand stays PARKED, a RETURNING one faults (R107). -/
theorem test_head_lost : ((after (.headLost hAL) (told pit (.lost (.head hAL)))).head hAL).state = .parked ∧
    ((after (.headLost hAL) (told (heading hAL .returning none pit) (.lost (.head hAL)))).head hAL).state = .faulted := by
  decide +kernel

/-- HaltsAndWithdrawalsReachHeads. -/
theorem test_halts : waits (told pit .headBreach) (fun m => m == .headBreach) .headBreach [] ∧
    waits (told pit (.halt .A)) (fun m => m == .halt .A) (.halt .A) [] ∧
    waits (told pit .headBreak) (fun m => m == .headBreak) .headBreak [] ∧
    waits (told pit (.withdraw .A)) (fun m => m == .withdraw .A) (.withdraw .A) [] ∧
    ((∀ h : HeadId, (fun _ => True) h) ∧ ∀ h : HeadId, (fun h => h.station = StationId.A) h ↔ h.station = .A) := by
  refine ⟨by decide +kernel, by decide +kernel, by decide +kernel, by decide +kernel, fun _ => trivial, fun _ => Iff.rfl⟩
/-- The withdraw notice of a station with a head CUTTING and a head PARKED, and the other station's heads (R107). -/
theorem test_withdraw :
    let s := told (heading hAL .cutting (some passTask) pit) (.withdraw .A)
    waits s (fun m => m == .withdraw .A) (.withdraw .A) [] ∧
    waits (told s (.withdraw .B)) (fun m => m == .withdraw .B) (.withdraw .B) [] ∧
    ((after (.withdrawNotice .A) s).head hAL).state = .returning ∧ ((after (.withdrawNotice .A) s).head hAR).state = .parked ∧
    ((after (.withdrawNotice .B) (told s (.withdraw .B))).head hAL).state = .cutting := by decide +kernel

/-- InsertChangedResetsCount. -/
theorem test_insert_changed : asks (ask pit 32 [5]) (frame 32 [5]) 32 [5] ∧ headOf 5 = some hAL ∧
    ((ask pit 32 [5]).head hAL).state = .parked ∧
    ((ask (heading hAL .cutting (some passTask) pit) 32 [5]).head hAL).state ≠ .parked := by decide +kernel

/-! ### Witnesses: stations -/

def mountBody (serial : Serial) : Bytes := 1 :: padded 12 serial
def vacantA : State := pit.setStation .A vacantStation

/-- MountAndDismount. -/
theorem test_mount : asks (ask vacantA 19 (mountBody serialA)) (frame 19 (mountBody serialA)) 19 (mountBody serialA) ∧
    parseMount (mountBody serialA) = some (.A, serialA) ∧
    firstFailing (mountConditions (ask vacantA 19 (mountBody serialA)) .A serialA) = none ∧
    firstFailing (mountConditions (ask vacantA 19 (mountBody serialB)) .A serialB) = some .alreadyMounted := by decide +kernel

def openA : State := clamping .A .opened pit
def owing (s : State) : State := s.setStation .A { s.station .A with reservation := 2, work := .held, held := some .nonconform }

theorem test_dismount : asks (ask openA 20 [1]) (frame 20 [1]) 20 [1] ∧ stationOf 1 = some .A ∧
    dismountable ((ask openA 20 [1]).station .A).work = true ∧ ((ask openA 20 [1]).clamp .A).state = .opened ∧
    ((ask openA 20 [1]).station .A).reservation = 0 ∧ 0 < ((owing openA).station .A).reservation ∧
    dismountable ((owing openA).station .A).work = true ∧
    dismountable ((working .A .paused (some .trace) openA).station .A).work = false ∧
    (pit.clamp .A).state ≠ .opened := by decide +kernel

def cuttingA : State := working .A .cutting (some .cut) pit
def pausedA (op : Operation) : State := working .A .paused (some op) pit

/-- PauseAndResume. -/
theorem test_pause : asks (ask cuttingA 26 [1]) (frame 26 [1]) 26 [1] ∧
    stationWorking ((ask cuttingA 26 [1]).station .A).work = true ∧ stationWorking ((ask pit 26 [1]).station .A).work = false ∧
    waits (told cuttingA (.stationBreach .A)) (fun n => n == .stationBreach .A) (.stationBreach .A) [] := by decide +kernel
theorem test_resume : asks (ask (pausedA .cut) 27 [1]) (frame 27 [1]) 27 [1] ∧
    ((ask (pausedA .cut) 27 [1]).station .A).work = .paused ∧ ((ask (pausedA .cut) 27 [1]).station .A).operation = some .cut ∧
    firstFailing (motionConditions (ask (pausedA .cut) 27 [1]) .A headResumable) = none ∧
    bothComplete ((ask (pausedA .cut) 27 [1]).station .A) = false ∧
    bothComplete (((pausedA .cut).setStation .A { (pausedA .cut).station .A with part := .both true }).station .A) = true ∧
    firstFailing (motionConditions (zoned .breached .healthy (pausedA .cut)) .A headResumable) = some .zoneBreached := by
  decide +kernel

/-- AbandonsEndTheOperation. -/
theorem test_abandon : asks (ask cuttingA 28 [1]) (frame 28 [1]) 28 [1] ∧ operationInHand (ask cuttingA 28 [1]) .A = true ∧
    ((ask cuttingA 28 [1]).station .A).operation = some .cut ∧ operationInHand (ask pit 28 [1]) .A = false ∧
    waits (told cuttingA (.stationBreak .A)) (fun m => m == .stationBreak .A) (.stationBreak .A) [] ∧
    waits (told cuttingA (.liftFaulted .A)) (fun m => m == .liftFaulted .A) (.liftFaulted .A) [] ∧
    waits (told cuttingA (.clampFailed .A)) (fun m => m == .clampFailed .A) (.clampFailed .A) [] ∧
    waits (told cuttingA (.headFailed .A)) (fun m => m == .headFailed .A) (.headFailed .A) [] ∧
    operationInHand (pausedA .trace) .A = true ∧ ((pausedA .survey).station .A).operation = some .survey ∧
    ((pausedA .verify).station .A).operation = some .verify := by decide +kernel

/-! ### Witnesses: traces, scans and profiles -/

/-- TraceAndSurveyBegin. -/
theorem test_trace : asks (ask pit 21 [1]) (frame 21 [1]) 21 [1] ∧
    firstFailing (plain ((traceable ((ask pit 21 [1]).station .A), .wrongState) ::
      motionConditions (ask pit 21 [1]) .A headParked) ++ [roomFor (ask pit 21 [1]) 1]) = none ∧
    firstFailing (plain ((traceable ((ask cuttingA 21 [1]).station .A), .wrongState) ::
      motionConditions (ask cuttingA 21 [1]) .A headParked) ++ [roomFor (ask cuttingA 21 [1]) 1]) = some (.wrongState, .none) := by
  decide +kernel

/-- A usable trace of wheelset A. -/
def goodWheel (d : Geometry) : TraceRecord :=
  { newTraceRecord with status := .good, results := { results d 3000 3200 10 with r70 := some (d / 2) } }
def traceA : StationTrace :=
  { wheels := ⟨goodWheel 84238, goodWheel 84190⟩, b := none, findings := [], usable := true, profile := some 1, time := startClock }
def tracedA : State := (working .A .traced none pit).setTraceUnit .A { emptyTrace with held := some traceA }

theorem test_survey : asks (ask tracedA 22 [1, 0]) (frame 22 [1, 0]) 22 [1, 0] ∧ parseSurvey [1, 0] = some (.A, none) ∧
    firstFailing (surveyConditions (ask tracedA 22 [1, 0]) .A none) = none ∧ parseSurvey [1, 9] = some (.A, some 9) ∧
    firstFailing (surveyConditions (ask tracedA 22 [1, 9]) .A (some 9)) ≠ none := by decide +kernel

def samplesOf : List Sample := [⟨.lateral, 139, 42000, .good⟩, ⟨.circumferential, 63, 42000, .noContact⟩]
def walkingA : State := (working .A .tracing (some .trace) pit).setTraceUnit .A { emptyTrace with walk := some (.both newTraceRecord) }
def scanningA (op : Operation) (m : ScanMode) : State :=
  (working .A .scanning (some op) pit).setTraceUnit .A { emptyTrace with scan := some (newScan m 1) }

/-- SamplesStoredAndJudged. -/
theorem test_samples :
    waits (told walkingA (.traceSamples hAL samplesOf none)) (isTraceSamples hAL) (.traceSamples hAL samplesOf none) [] ∧
    ((told walkingA (.traceSamples hAL samplesOf none)).traceUnit hAL.station).walk = some (.both newTraceRecord) ∧
    newTraceRecord.status = .inProgress ∧
    waits (told (scanningA .verify .verify) (.scanSamples hAL [] (some (.point .datum 70)))) (isScanSamples hAL)
      (.scanSamples hAL [] (some (.point .datum 70))) [] ∧
    ((scanningA .verify .verify).traceUnit hAL.station).scan = some (newScan .verify 1) := by decide +kernel
theorem test_scan_judged :
    ({ newScanRecord with result := .conform } : ScanRecord).result ≠ .inProgress ∧
    ({ newScanRecord with datum := .radius 42000 } : ScanRecord).datum = .radius 42000 ∧
    ({ newScanRecord with firstOut := some ⟨3, true, 50⟩ } : ScanRecord).firstOut = some ⟨3, true, 50⟩ ∧
    (storeScan .survey none { newScanRecord with firstOut := some ⟨3, true, 50⟩ } [] none).firstOut = some ⟨3, true, 50⟩ := by
  decide +kernel

/-- Section 7.4, worked example: with datum 41515 a radius of 42294 where the reference is 735 deviates by 44, beyond the
band of 30. -/
theorem test_verify_high :
    (judgePoint .verify { profileOf 120 with band := 30, heights := List.replicate 120 735 } 41515
      { newScanRecord with datum := .radius 41515, judged := 58, lateral := [(58, { radius := 42294, status := .good })] }).firstOut =
      some { index := 58, high := true, deviation := 44 } := by decide +kernel

/-- WalkEndsCompleteTheTrace. -/
theorem test_walk_end :
    waits (told walkingA (.taskDone hAL .walk)) (isTaskDone hAL .walk) (.taskDone hAL .walk) [] ∧
    bothComplete { walkingA.station .A with part := (walkingA.station .A).part.set .L true } = false ∧
    bothComplete { walkingA.station .A with part := ((walkingA.station .A).part.set .R true).set .L true } = true ∧
    (walkingA.station .A).work = .tracing ∧ (walkingA.station .A).occupant = some serialA ∧
    findRecord walkingA.history serialA = some (wheelset serialA (some positionA)) := by decide +kernel

/-- ExtractionDerivesInOrder. -/
theorem test_extraction : goodRadius (sparseGet newTraceRecord.lateral 70) = none ∧ (extract 4 exampleWheel).status = .good := by
  decide +kernel

/-- ScanEndsFormResults. -/
theorem test_scan_end :
    waits (told (scanningA .survey .survey) (.taskDone hAL .scan)) (isTaskDone hAL .scan) (.taskDone hAL .scan) [] ∧
    ((scanningA .survey .survey).station .A).work = .scanning ∧ ((scanningA .survey .survey).station .A).operation = some .survey ∧
    ((scanningA .verify .verify).station .A).operation ≠ some .survey ∧
    ¬ ((newScan .verify 1).wheels.l.result = .conform ∧ (newScan .verify 1).wheels.r.result = .conform) := by decide +kernel

def firstPartBody (len : Nat) : Bytes :=
  [2] ++ padded 16 [80] ++ u16 2800 ++ u16 3200 ++ [100, 20] ++ u16 300 ++ [20] ++ u16 0 ++ [0] ++ u8 len ++
    List.replicate 36 0 ++ u24 120000 ++ u24 144000 ++ [0, 0, 0] ++ List.replicate (2 * min len 70) 0

/-- ProfileLoadsFillSlots. -/
theorem test_profile_clear : asks (ask pit 33 [1]) (frame 33 [1]) 33 [1] ∧ slotInUse (ask pit 33 [1]) 1 = false ∧
    asks (ask pit 33 [8]) (frame 33 [8]) 33 [8] := by decide +kernel

theorem test_profile_first :
    asks (ask pit 34 (firstPartBody 70)) (frame 34 (firstPartBody 70)) 34 (firstPartBody 70) ∧
    ((parseFirstPart (firstPartBody 70)).map (fun x => (x.1, x.2.2, firstFailing (profileChecks x.1 x.2.1 x.2.2)))) =
      some (2, 70, none) ∧
    ((parseFirstPart (firstPartBody 71)).map (fun x => (x.1, x.2.2, firstFailing (profileChecks x.1 x.2.1 x.2.2)))) =
      some (2, 71, none) ∧
    (((parseFirstPart (firstPartBody 0)).bind (fun x => firstFailing (profileChecks x.1 x.2.1 x.2.2))).isSome) = true ∧
    slotInUse pit 2 = false := by decide +kernel

/-- A list of 71 heights is staged; its second part then fills the slot (R203). -/
def staged : State := (after .profileLoadFirstPart (ask pit 34 (firstPartBody 71))).setNotices []
def secondPartBody : Bytes := [2, 1, 0, 0]

theorem test_profile_second :
    asks (ask staged 35 secondPartBody) (frame 35 secondPartBody) 35 secondPartBody ∧
    parseSecondPart secondPartBody = some (2, 1, [0]) ∧
    (staged.profiles.buffer.map (fun b => (b.slot, b.length))) = some (2, 71) ∧ slotInUse staged 2 = false ∧
    (∀ x ∈ ([0] : List Geometry), -1000 ≤ x ∧ x ≤ 4000) ∧ pit.profiles.buffer = none := by decide +kernel
theorem test_profile_second_fills :
    ((profileAt (after .profileLoadSecondPart (ask staged 35 secondPartBody)) 2).map (·.heights.length)) = some 71 := by
  decide +kernel

/-! ### Witnesses: planning -/

/-- PassesTakeTheCut, at a cut that two whole passes take and one that leaves a shallower last pass. -/
theorem test_passes : (0 : Geometry) < 300 ∧ ((5 : Int) ∣ 300) ∧ (0 : Geometry) < calcA.wheels.r.c ∧ ((5 : Int) ∣ calcA.wheels.r.c) := by
  decide +kernel

/-- PlanArithmeticBounds: two adopted computations, and a condemned wheelset. -/
theorem test_matching : (0 : Geometry) ≤ 100 ∧ (Planned.flagged = .flagged ∨ ∃ c f, Planned.flagged = .scrap c f) :=
  ⟨by decide, Or.inl rfl⟩

def recordOfA : WheelsetRecord := wheelset serialA (some positionA)

/-- PlanMakesSinglePlan. -/
theorem test_plan : asks (ask tracedA 23 [1]) (frame 23 [1]) 23 [1] ∧ ((ask tracedA 23 [1]).station .A).work = .traced ∧
    traceUsable (ask tracedA 23 [1]) .A = true ∧
    planInputs (ask tracedA 23 [1]) .A = some (recordOfA, profileOf 100, traceA) ∧
    totalReservation (ask tracedA 23 [1]) + 1 ≤ roomCount (ask tracedA 23 [1]) ∧
    cutOutOfRange .A (planWheelset (ask tracedA 23 [1]) recordOfA (profileOf 100) traceA) = none ∧
    (makeShare recordOfA traceA 800 (planWheelset tracedA recordOfA (profileOf 100) traceA)).outcome = .planned := by
  decide +kernel

/-- A record flagged CONDEMNED, one that no cut brings above Ds, and a ceiling beyond the cut range. -/
theorem test_plan_condemned :
    planWheelset tracedA { recordOfA with condemned := true } (profileOf 100) traceA = .flagged ∧
    (makeShare { recordOfA with ds := 84000 } traceA 800
      (planWheelset tracedA { recordOfA with ds := 84000 } (profileOf 100) traceA)).outcome = .condemned ∧
    (cutOutOfRange .A (planWheelset tracedA { recordOfA with ceiling := some 80000 } (profileOf 100) traceA)).isSome = true := by
  decide +kernel

def plannedA : State := (after .plan (ask tracedA 23 [1])).setNotices []

/-- The plan's target is 84190 less twice 200, and its two wheels are cut in one pass each. -/
theorem test_plan_result : (plannedA.station .A).work = .planned ∧
    ((shareOf plannedA .A).bind (·.target)) = some 83790 ∧ (stationPasses plannedA .A .L).map (·.depth) = [225] := by
  decide +kernel

def tracedBoth : State :=
  (working .B .traced none tracedA).setTraceUnit .B { emptyTrace with held := some traceA }

/-- PlanBothMakesJointPlan. -/
theorem test_plan_both : asks (ask tracedBoth 23 [3]) (frame 23 [3]) 23 [3] ∧
    firstFailing (planBothConditions (ask tracedBoth 23 [3])) = none ∧
    planInputs (ask tracedBoth 23 [3]) .A = some (recordOfA, profileOf 100, traceA) ∧
    planInputs (ask tracedBoth 23 [3]) .B = some (wheelset serialB (some positionB), profileOf 100, traceA) ∧
    serialA ≠ serialB ∧
    cutOutOfRange .A (matchBogie 100 (planWheelset tracedBoth recordOfA (profileOf 100) traceA)
      (planWheelset tracedBoth (wheelset serialB (some positionB)) (profileOf 100) traceA)).1 = none := by decide +kernel

def plannedBoth : State := (after .planBoth (ask tracedBoth 23 [3])).setNotices []

theorem test_plan_both_result : (plannedBoth.station .A).plan = (plannedBoth.station .B).plan ∧
    (plannedBoth.station .B).work = .planned := by decide +kernel

/-- A trace with a HOLD finding leaves the plan HELD (R158, R159). -/
def heldA : State :=
  (after .plan (ask (tracedA.setTraceUnit .A { emptyTrace with
    held := some { traceA with
      findings := [{ kind := .param .qr, wheel := .wheel .L, outcome := some .low, hold := true, v1 := some 645, v2 := some 650
                     v3 := some 1100 }] } }) 23 [1])).setNotices []

/-- ApproveAndWithdrawShares. -/
theorem test_approve : asks (ask heldA 24 [1]) (frame 24 [1]) 24 [1] ∧ ((ask heldA 24 [1]).station .A).work = .held ∧
    ((ask heldA 24 [1]).station .A).held = some .limit ∧ (shareOf (ask heldA 24 [1]) .A).isSome = true ∧
    ((ask plannedA 24 [1]).station .A).work ≠ .held := by decide +kernel

/-- The state with wheelset A's record amended. -/
def amended (f : WheelsetRecord → WheelsetRecord) (s : State) : State :=
  s.setHistory { s.history with records := s.history.records.map (fun r => if r.serial = serialA then f r else r) }

theorem test_record_changed :
    waits (told (amended (fun r => { r with ds := 84000 }) plannedA) (.recordChanged .A recordOfA)) (isRecordChanged .A)
      (.recordChanged .A recordOfA) [] ∧
    (plannedA.station .A).work = .planned ∧ (plannedA.station .A).occupant = some recordOfA.serial ∧
    ((shareOf plannedA .A).bind (staleField { recordOfA with ds := 84000 })) = some .ds ∧
    ((shareOf plannedA .A).bind (staleField recordOfA)) = none ∧ (shareOf plannedA .A).isSome = true ∧
    (pit.station .A).work ≠ .planned ∧ (pit.station .A).work ≠ .held := by decide +kernel

/-! ### Witnesses: cutting -/

def planA : Option Plan := planOf plannedA .A

/-- CutStartBeginsCuts. -/
theorem test_cut_start : asks (ask plannedA 25 [1]) (frame 25 [1]) 25 [1] ∧ ((ask plannedA 25 [1]).station .A).plan = some .one ∧
    planA.isSome = true ∧ ((ask plannedA 25 [1]).station .A).work = .planned ∧
    (planA.bind (fun p => firstFailing (cutConditions (ask plannedA 25 [1]) p [.A]))) = none ∧
    (planA.bind (fun p => firstFailing (cutConditions (zoned .clear .broken plannedA) p [.A]))) = some (.stopped, .none) ∧
    (planA.bind (fun p => firstFailing (cutConditions (amended (fun r => { r with revision := 9 }) plannedA) p [.A]))) =
      some (.stalePlan, .places [.own .A]) ∧
    (plannedA.station .A).reservation = 0 := by decide +kernel
theorem test_cut_start_both : asks (ask plannedBoth 25 [3]) (frame 25 [3]) 25 [3] ∧
    ((ask plannedBoth 25 [3]).station .A).plan = some .one ∧
    ((planOf plannedBoth .A).map (fun p => (jointReady (ask plannedBoth 25 [3]) p,
      firstFailing (cutConditions (ask plannedBoth 25 [3]) p (survivors p)), survivors p))) =
      some (true, none, [.A, .B]) := by decide +kernel

def cutA : State := (after .cutStart (ask plannedA 25 [1])).setNotices []

/-- A single plan whose bogie partner and other bogie are known reserves its CUT entry and one for each partner captured. -/
theorem test_cut_reservation : (cutA.station .A).reservation = 2 ∧ (cutA.station .A).work = .cutting := by decide +kernel

/-- PassesAdvanceTheCut. -/
theorem test_pass : waits (told cutA (.passDone hAL 1)) (isPassDone hAL) (.passDone hAL 1) [] ∧
    (cutA.station hAL.station).operation = some .cut ∧
    (stationPasses cutA hAL.station hAL.side).find? (fun x => x.number == 1) = some { number := 1, depth := 225 } ∧
    1 = ((cutA.station .A).progress.get .L).passes + 1 ∧ 2 ≠ ((cutA.station .A).progress.get .L).passes + 1 := by
  decide +kernel
theorem test_cut_part : waits (told cutA (.taskDone hAL .passes)) (isTaskDone hAL .passes) (.taskDone hAL .passes) [] ∧
    bothComplete { cutA.station .A with part := (cutA.station .A).part.set .L true } = false ∧
    bothComplete { cutA.station .A with part := ((cutA.station .A).part.set .R true).set .L true } = true ∧
    (cutA.station .A).work = .cutting := by decide +kernel

/-- A verify whose wheels conform, at 83790. -/
def conformed : ScanRecord := { newScanRecord with result := .conform, d := some 83790 }
/-- The same wheel's record before its scan task ends: every point judged, every sample of the sweep GOOD. -/
def sweeping : ScanRecord :=
  { newScanRecord with
    datum := .radius 41895, judged := 140
    circ := (List.range 64).map (fun i => (i, { radius := 41895, status := .good })) }
def heldCut : State :=
  cutA.setStation .A { cutA.station .A with
    work := .held, held := some .unverified, operation := none, progress := .both { passes := 1, depth := 225 }
    results := some { newScan .verify 1 with wheels := .both conformed } }
def verifyingA : State :=
  (cutA.setStation .A { cutA.station .A with work := .scanning, operation := some .verify, part := ⟨false, true⟩ }).setTraceUnit .A
    { emptyTrace with scan := some { newScan .verify 1 with wheels := ⟨sweeping, conformed⟩ } }

/-- ScanEndsFormResults, with both wheels CONFORM. -/
theorem test_scan_end_conform :
    waits (told verifyingA (.taskDone hAL .scan)) (isTaskDone hAL .scan) (.taskDone hAL .scan) [] ∧
    bothComplete { verifyingA.station .A with part := (verifyingA.station .A).part.set .L true } = true ∧
    (verifyingA.station .A).work = .scanning ∧ (verifyingA.station .A).operation ≠ some .survey ∧
    (endScanRecord .verify (profileAt verifyingA 1) 4 sweeping).result = .conform ∧ conformed.result = .conform ∧
    (shareParts verifyingA .A).isSome = true ∧ (verifyingA.station .A).occupant = some serialA ∧
    findRecord verifyingA.history serialA = some recordOfA := by decide +kernel

/-- AcceptAndRecut. -/
theorem test_accept : asks (ask heldCut 29 [1]) (frame 29 [1]) 29 [1] ∧ ((ask heldCut 29 [1]).station .A).work = .held ∧
    ((ask heldCut 29 [1]).station .A).held = some .unverified ∧ (shareParts (ask heldCut 29 [1]) .A).isSome = true ∧
    ((ask heldCut 29 [1]).station .A).occupant = some serialA ∧
    findRecord (ask heldCut 29 [1]).history serialA = some recordOfA ∧
    heldAfterCut ((ask plannedA 29 [1]).station .A) = false := by decide +kernel

/-- The partner of a finished cut at 83790 takes the ceiling 83890 (R179). -/
theorem test_accept_ceiling :
    ((findRecord (after .accept (ask heldCut 29 [1])).history serialB).bind (·.ceiling)) = some 83890 ∧
    ((findRecord (after .accept (ask heldCut 29 [1])).history serialA).map (·.diameters)) = some ⟨83790, 83790⟩ := by
  decide +kernel

theorem test_recut : asks (ask heldCut 30 [1]) (frame 30 [1]) 30 [1] ∧
    ((shareParts (ask heldCut 30 [1]) .A).map (fun q => (q.2.1.profileUsed,
      firstFailing (recutConditions (ask heldCut 30 [1]) .A q.2.2 (min (roundUp5 20) (passLimit (profileOf 100))) 79000),
      (firstFailing (recutConditions (ask heldCut 30 [1]) .A q.2.2 20 83751)).isSome))) = some (some 1, none, true) ∧
    profileAt (ask heldCut 30 [1]) 1 = some (profileOf 100) ∧
    ((((ask heldCut 30 [1]).station .A).occupant.bind (findRecord (ask heldCut 30 [1]).history)).map (·.ds)) = some 79000 := by
  decide +kernel

/-! ### Witnesses: axle histories and power -/

def serialC : Serial := [67]

/-- A RECORD ENTER body: serial, profile 1, Ds 79000, Dlt 80000, diameters 84000, and a position. -/
def enterBody (serial : Serial) (p : Option Position) : Bytes :=
  padded 12 serial ++ [1] ++ u24 79000 ++ u24 80000 ++ u24 84000 ++ u24 84000 ++ positionBytes p
def fieldsOf (serial : Serial) (p : Option Position) : EnterFields :=
  { serial := serial, profile := 1, ds := 79000, dlt := 80000, diameters := ⟨84000, 84000⟩, position := p }

/-- RecordsEnteredAndFitted: without a position, with one, and at another record's; a serial held is refused. -/
theorem test_enter :
    asks (ask pit 37 (enterBody serialC none)) (frame 37 (enterBody serialC none)) 37 (enterBody serialC none) ∧
    parseEnter (enterBody serialC none) = some (fieldsOf serialC none) ∧
    parseEnter (enterBody serialC (some positionA)) = some (fieldsOf serialC (some positionA)) ∧
    firstFailing (enterConditions pit (fieldsOf serialC none)) = none ∧
    firstFailing (enterConditions pit (fieldsOf serialC (some { positionA with bogie := 2 }))) = none ∧
    otherHolder pit serialC (some { positionA with bogie := 2 }) = none ∧
    firstFailing (enterConditions pit (fieldsOf serialC (some positionA))) = none ∧
    otherHolder pit serialC (some positionA) = some recordOfA ∧ findRecord pit.history serialA = some recordOfA ∧
    firstFailing (enterConditions pit (fieldsOf serialA none)) = some (.recordExists, .none) := by decide +kernel

def fitBody (serial : Serial) (p : Option Position) : Bytes := padded 12 serial ++ positionBytes p

theorem test_fit : asks (ask pit 39 (fitBody serialB (some positionA))) (frame 39 (fitBody serialB (some positionA))) 39
      (fitBody serialB (some positionA)) ∧
    parseFit (fitBody serialB (some positionA)) = some (serialB, some positionA) ∧
    parseFit (fitBody serialB none) = some (serialB, none) ∧
    firstFailing (fitConditions pit (wheelset serialB (some positionB)) (some positionA)) = none ∧
    firstFailing (fitConditions pit (wheelset serialB (some positionB)) none) = none ∧
    firstFailing (fitConditions pit (wheelset serialB (some positionB)) (some positionB)) = none ∧
    (wheelset serialB (some positionB)).position ≠ some positionA ∧
    firstFailing (fitConditions cuttingA (wheelset serialB (some positionB)) (some positionA)) = some (.wrongState, .none) ∧
    findRecord pit.history serialC = none := by decide +kernel

def unchangedByte : Bytes := u24 8388607
def amendBody (ds : Bytes) (ceiling : Bytes) (k : Byte) : Bytes :=
  padded 12 serialA ++ [0] ++ ds ++ unchangedByte ++ unchangedByte ++ unchangedByte ++ ceiling ++ [k]
def amendOf (ds : Option Geometry) (c : CeilingChange) (k : Bool) : AmendFields :=
  { serial := serialA, profile := none, ds := ds, dlt := none, left := none, right := none, ceiling := c, condemn := k }

/-- RecordsAmendedAndRetired. -/
theorem test_amend : asks (ask pit 40 (amendBody (u24 78000) (u24 83000) 1)) (frame 40 (amendBody (u24 78000) (u24 83000) 1)) 40
      (amendBody (u24 78000) (u24 83000) 1) ∧
    parseAmend (amendBody (u24 78000) (u24 83000) 1) = some (amendOf (some 78000) (.value 83000) true) ∧
    parseAmend (amendBody unchangedByte unchangedByte 0) = some (amendOf none .unchanged false) ∧
    parseAmend (amendBody unchangedByte (u24 8388606) 0) = some (amendOf none .clear false) ∧
    firstFailing (amendConditions pit recordOfA (amendOf (some 78000) (.value 83000) true)) = none ∧
    amendChanges recordOfA (amendOf (some 78000) (.value 83000) true) ≠ [] ∧
    amendChanges recordOfA (amendOf none .unchanged false) = [] ∧
    firstFailing (amendConditions pit recordOfA (amendOf (some 80001) .unchanged false)) = some (.badField, .offset 13) ∧
    (amendOf (some 78000) (.value 83000) true).ceiling = .value 83000 ∧ recordOfA.ceiling ≠ some 83000 := by decide +kernel

theorem test_retire : asks (ask vacantA 41 (padded 12 serialA)) (frame 41 (padded 12 serialA)) 41 (padded 12 serialA) ∧
    parseSerial (padded 12 serialA) = some serialA ∧ findRecord vacantA.history serialA = some recordOfA ∧
    stationsOf vacantA serialA = [] ∧ totalReservation vacantA + recordOfA.entries.length ≤ roomCount vacantA ∧
    stationsOf pit serialA ≠ [] ∧ findRecord pit.history serialC = none := by decide +kernel

/-- ExportTakeRemovesLowest. -/
def exporting : State :=
  pit.setHistory { pit.history with exportQueue := [{ serial := serialA, entry := entryOne }] }

theorem test_export : asks (ask exporting 42 []) (frame 42 []) 42 [] ∧
    (ask exporting 42 []).history.exportQueue = { serial := serialA, entry := entryOne } :: [] ∧
    (ask pit 42 []).history.exportQueue = [] := by decide +kernel

/-- PowerKeepsStoredAndRecovers. -/
theorem test_come_up :
    (Instr.restartComeUp = .restartComeUp ∧ (pit.setLink { pit.link with restarting := true }).powered = true ∧
      (pit.setLink { pit.link with restarting := true }).link.restarting = true ∧
      (pit.setLink { pit.link with restarting := true }).link.backlog = []) ∧
    0 < (cutA.station .A).reservation ∧ (cutA.station (otherStation .A)).reservation = 0 ∧
    (cutA.station .A).occupant = some recordOfA.serial ∧ findRecord cutA.history serialA = some recordOfA ∧
    (pit.station .A).reservation = 0 := by decide +kernel

/-- A cut that power interrupted after one pass of 225 lowers the recorded diameter by 450 (R100, R101). -/
theorem test_power_interrupts_cut :
    ((findRecord (after .powerUp (cutA.setStation .A { cutA.station .A with
      progress := ⟨{ passes := 1, depth := 225 }, { passes := 0, depth := 0 }⟩ })).history serialA).map
        (fun r => (r.diameters, r.retraceDue))) = some (⟨83550, 84010⟩, true) := by decide +kernel

/-! ### Witnesses: forms, refusals, ceilings and the store -/

/-- IdleStepPassesOneMillisecond, with no notice for a view alone, and with one. -/
theorem test_idle_notices : (∀ n ∈ pit.notices, isOwnView n = false) ∧
    waits (told breached (.ownView (.station .B) .stopChain)) isOwnView (.ownView (.station .B) .stopChain) [] ∧
    (told breached (.ownView .clamps .curtain)).pending = [] ∧
    waits (told breached (.ownView .clamps .curtain)) isOwnView (.ownView .clamps .curtain) [] := by decide +kernel

/-- The breach reaches Clamp Control's view with the event that takes its notice, not before. -/
theorem test_clamp_breach :
    let s := (after .breach (pit.setClamps { pit.clamps with view := { zone := .clear, stop := .healthy } }))
    s.clamps.view.zone = .clear ∧ (idle s).clamps.view.zone = .breached := by decide +kernel

/-- A RESTART taken, with its reply formed and with every reply sent. -/
def restartTaken : State :=
  pit.setLink { pit.link with restarting := true, inFrame := true, backlog := [{ tag := 7, kind := 7, body := .done .empty }] }
def restartAnswered : State := pit.setLink { pit.link with restarting := true }

/-- LinkTakesFramesAndSendsReplies: receiving, while a RESTART's reply is still to be sent, and no longer. -/
theorem test_link_restart : (pit.link.restarting = false ∨ pit.link.backlog ≠ []) ∧
    (restartTaken.link.restarting = false ∨ restartTaken.link.backlog ≠ []) ∧ restartTaken.link.inFrame = true ∧
    restartTaken.powered = true ∧ restartAnswered.powered = true ∧ restartAnswered.link.restarting = true ∧
    restartAnswered.link.backlog = [] := by decide +kernel

/-- ReadingRequestsAnswer: slots beside the range, and a serial that no record holds. -/
theorem test_reading_refused : asks (ask pit 36 [0, 1]) (frame 36 [0, 1]) 36 [0, 1] ∧
    asks (ask pit 36 [9, 2]) (frame 36 [9, 2]) 36 [9, 2] ∧
    asks (ask pit 38 (padded 12 [67] ++ [0])) (frame 38 (padded 12 [67] ++ [0])) 38 (padded 12 [67] ++ [0]) ∧
    parseRecordRead (padded 12 [67] ++ [0]) = some ([67], 0) ∧
    findRecord (ask pit 38 (padded 12 [67] ++ [0])).history [67] = none := by decide +kernel

/-- MalformedRequestsAnswered: each of the 46 commands but the two naming BOTH meets a frame of its own that it does not
read. -/
theorem test_forms : requestForms.length = 46 ∧
    (requestForms.filter (fun row => (List.range 43).any (fun k => [[], [9], [18], [19]].any (fun b =>
      knownKind (frame k b).kind && row.2.1 (frame k b) && !row.2.2 b)))).length = 44 := by decide +kernel
theorem test_lengths : ∀ row ∈ requestLengths,
    asks (ask pit row.2.1 (List.replicate (row.2.2 + 1) 0)) (frame row.2.1 (List.replicate (row.2.2 + 1) 0)) row.2.1
      (List.replicate (row.2.2 + 1) 0) ∧ (List.replicate (row.2.2 + 1) (0 : Byte)).length ≠ row.2.2 := by decide +kernel
theorem test_lengths_varying : ([1, 0] : Bytes).head? ≠ some 18 ∧ ([1, 0] : Bytes).length ≠ 3 ∧
    ([18] : Bytes).head? = some 18 ∧ ([19, 1] : Bytes).head? = some 19 ∧
    (firstPartBody 70 ++ [0]).length ≠ 75 + 2 * min ((firstPartBody 70 ++ [0]).getD 29 0).toNat 70 ∧
    (firstPartBody 70).length = 75 + 2 * min ((firstPartBody 70).getD 29 0).toNat 70 ∧
    (secondPartBody ++ [0]).length ≠ 2 + 2 * ((secondPartBody ++ [0]).getD 1 0).toNat := by decide +kernel

/-- LoopStartsAndMapAdopted: LOOP START with the lift moving. -/
theorem test_loop_start_refused : asks (ask (lifting .raising pit) 10 []) (frame 10 []) 10 [] ∧
    firstFailing (loopStartConditions (ask (lifting .raising pit) 10 [])) = some .liftMoving := by decide +kernel

/-- MAP ADOPT leaves MISMATCH, so that a second one is refused (R42). -/
theorem test_map_adopt_leaves : (after .mapAdopt (ask (mismatched nodeTable) 11 [])).loop.state = .discovering := by
  decide +kernel

/-- ZoneReturnNeedsPendingTime: nothing to return from, no return pending, and one millisecond short. -/
theorem test_return_absent : pit.zone.zone = .clear ∧ pit.zone.stop = .healthy ∧
    (pit.setZone { breached.zone with zonePending := none, stopPending := none }).zone.zonePending = none ∧
    (breached.setUptime 249).zone.zonePending = some 0 ∧ (breached.setUptime 249).uptime < 0 + 250 ∧
    (breached.setUptime 249).zone.stopPending = some 0 := by decide +kernel

/-- HeadReportsAdvanceWork: a station with an operation in hand, and one whose operation has been abandoned. -/
theorem test_head_report_station : operationInHand (headTold hAL passReport (heading hAL .cutting (some passTask) cuttingA)) .A = true ∧
    operationInHand (headTold hAL passReport (heading hAL .cutting (some passTask) pit)) .A = false := by decide +kernel

/-- A pass reported after an abandon wears the insert and reaches no station (R98, R108). -/
theorem test_report_after_abandon :
    let t := after (.headReport hAL) (headTold hAL passReport (heading hAL .cutting (some passTask) pit))
    t.notices = [] ∧ (t.head hAL).insertCount = 4 := by decide +kernel

/-- A head that returns with a pending task. -/
def returningWith (k : HeadTask) (s : State) : State := s.setHead hAL { s.head hAL with state := .returning, pendingTask := some k }

/-- HeadsParkAndDerive: a pending task, the zone clear, breached, and the chain broken. -/
theorem test_heads_park_pending :
    waits (headTold hAL restReport (returningWith walkTask pit)) (isReport (.head hAL)) (.report (.head hAL) (.head restReport)) [] ∧
    ((returningWith walkTask pit).head hAL).state = .returning ∧ ((returningWith walkTask pit).head hAL).pendingTask = some walkTask ∧
    pit.zone.stop = .healthy ∧ pit.zone.zone = .clear ∧ (zoned .breached .healthy pit).zone.zone = .breached ∧
    (zoned .clear .broken pit).zone.stop = .broken := by decide +kernel
theorem test_park_starts :
    ((after (.headReport hAL) (headTold hAL restReport (returningWith walkTask pit))).head hAL).state = .tracing ∧
    ((after (.headReport hAL) (headTold hAL restReport (returningWith walkTask (zoned .breached .healthy pit)))).head hAL).state =
      .paused := by decide +kernel

/-- MountAndDismount: a partner of the joint plan that is PLANNED, and one that has a cut in hand. -/
theorem test_dismount_partner :
    let s := clamping .A .opened plannedBoth
    asks (ask s 20 [1]) (frame 20 [1]) 20 [1] ∧ (s.station .A).plan ≠ none ∧ (s.station .B).plan = (s.station .A).plan ∧
    (s.station .B).work = .planned ∧ (s.station .B).reservation = 0 ∧ (shareOf s .B).isSome = true ∧
    ((after .dismount (ask s 20 [1])).station .B).work = .traced := by decide +kernel

/-- Both stations of a joint plan, each with its cut in hand. -/
def cutBoth : State := (after .cutStartBoth (ask plannedBoth 25 [3])).setNotices []

theorem test_dismount_cutting_partner :
    let s := clamping .A .opened (cutBoth.setStation .A { cutBoth.station .A with work := .held, held := some .unverified, operation := none })
    dismountable (s.station .A).work = true ∧ 0 < (s.station .A).reservation ∧ 0 < (s.station .B).reservation ∧
    (s.station .B).plan = (s.station .A).plan ∧ ((shareOf s .B).map (·.outcome)) = some .planned ∧
    ((after .dismount (ask s 20 [1])).station .B).work = .cutting ∧
    (shareOf (after .dismount (ask s 20 [1])) .B).isSome = true ∧
    (s.station .A).occupant = some recordOfA.serial ∧ findRecord s.history serialA = some recordOfA := by decide +kernel

/-- PauseAndResume: both parts of each operation complete, and a station that is not PAUSED. -/
def partsDone (st : StationId) (s : State) : State := s.setStation st { s.station st with part := .both true }
def pausedScan (op : Operation) (m : ScanMode) : State :=
  partsDone .A ((pausedA op).setTraceUnit .A { emptyTrace with scan := some (newScan m 1) })
theorem test_resume_complete :
    bothComplete ((partsDone .A (pausedA .trace)).station .A) = true ∧
    firstFailing (motionConditions (partsDone .A (pausedA .trace)) .A headResumable) = none ∧
    ((partsDone .A (pausedA .trace)).setTraceUnit .A { emptyTrace with walk := some (.both (goodWheel 84000)) } |>.traceUnit .A).walk =
      some (.both (goodWheel 84000)) ∧
    ((pausedScan .survey .survey).traceUnit .A).scan = some (newScan .survey 1) ∧
    ((pausedScan .verify .verify).traceUnit .A).scan = some (newScan .verify 1) ∧
    firstFailing (motionConditions (pausedScan .verify .verify) .A headResumable) = none ∧
    asks (ask cuttingA 27 [1]) (frame 27 [1]) 27 [1] ∧ ((ask cuttingA 27 [1]).station .A).work ≠ .paused := by decide +kernel

/-- A verify PAUSED with both wheels CONFORM, resumed to its finish. -/
def pausedConform : State :=
  partsDone .A ((cutA.setStation .A { cutA.station .A with work := .paused, operation := some .verify }).setTraceUnit .A
    { emptyTrace with scan := some { newScan .verify 1 with wheels := .both conformed } })
theorem test_resume_finishes : (shareParts pausedConform .A).isSome = true ∧ (pausedConform.station .A).work = .paused ∧
    (pausedConform.station .A).occupant = some recordOfA.serial ∧ findRecord pausedConform.history serialA = some recordOfA ∧
    ((after .stationResume (ask pausedConform 27 [1])).station .A).work = .finished := by decide +kernel

/-- SamplesStoredAndJudged: the datum, and the points beside the band of 20. -/
def datumWheel (status : SampleStatus) : ScanRecord := { newScanRecord with datumSample := some { radius := 42000, status := status } }
def pointWheel (r : Geometry) (status : SampleStatus) (i : Nat) : ScanRecord :=
  { newScanRecord with datum := .radius 42000, judged := i, lateral := [(i, { radius := r, status := status })] }
theorem test_take_datum : (takeDatum (datumWheel .good)).datum = .radius 42000 ∧ (takeDatum (datumWheel .saturated)).datum = .failed ∧
    (takeDatum { newScanRecord with reported := some (.point .lateral 0) }).datum = .failed ∧
    (takeDatum { newScanRecord with reported := some (.point .datum 70) }).datum = .none ∧ newScanRecord.datum = .none := by
  decide +kernel
theorem test_judge_edges :
    (judgePoint .verify (profileOf 140) 42000 (pointWheel 42020 .good 0)).firstOut = none ∧
    (judgePoint .verify (profileOf 140) 42000 (pointWheel 42021 .good 0)).firstOut = some ⟨0, true, 21⟩ ∧
    (judgePoint .verify (profileOf 140) 42000 (pointWheel 41979 .good 139)).firstOut = some ⟨139, false, -21⟩ ∧
    (judgePoint .survey (profileOf 140) 42000 (pointWheel 41979 .good 5)).outCount = 1 ∧
    (judgePoint .survey (profileOf 140) 42000 (pointWheel 0 .noContact 5)).skips = 1 := by decide +kernel
theorem test_advance :
    (advanceScan .verify (some (profileOf 140)) false (pointWheel 42020 .good 0)).judged = 1 ∧
    (advanceScan .verify (some (profileOf 140)) false { pointWheel 42020 .good 0 with reported := some (.point .lateral 3) }).judged = 3 ∧
    (advanceScan .verify (some (profileOf 140)) false { pointWheel 42020 .good 0 with reported := some (.point .circumferential 0) }).judged =
      140 := by decide +kernel

/-- A scan sample stored at the last index of each phase, and one beyond it disregarded. -/
theorem test_scan_store :
    sparseGet (storeScanSample newScanRecord ⟨.lateral, 139, 42000, .good⟩).lateral 139 = some { radius := 42000, status := .good } ∧
    sparseGet (storeScanSample newScanRecord ⟨.circumferential, 64, 42000, .good⟩).circ 64 = none ∧
    (storeScanSample newScanRecord ⟨.datum, 69, 42000, .good⟩).datumSample = none := by decide +kernel

/-- PlanMakesSinglePlan and PlanBothMakesJointPlan, refused: not TRACED, and a cut out of range. -/
theorem test_plan_refused : asks (ask pit 23 [1]) (frame 23 [1]) 23 [1] ∧
    firstFailing (planBothConditions (ask pit 23 [3])) = some (.wrongState, .none) ∧
    asks (ask pit 23 [3]) (frame 23 [3]) 23 [3] ∧
    reply .plan (ask pit 23 [1]) = some (.refused .wrongState .none) := by decide +kernel

def ceilingB : State :=
  tracedBoth.setHistory { tracedBoth.history with
    records := [recordOfA, { wheelset serialB (some positionB) with ceiling := some 80000 }] }
theorem test_plan_both_cut : asks (ask ceilingB 23 [3]) (frame 23 [3]) 23 [3] ∧
    firstFailing (planBothConditions (ask ceilingB 23 [3])) = none ∧
    (let w := matchBogie 100 (planWheelset ceilingB recordOfA (profileOf 100) traceA)
        (planWheelset ceilingB { wheelset serialB (some positionB) with ceiling := some 80000 } (profileOf 100) traceA)
     (cutOutOfRange .A w.1).isSome || (cutOutOfRange .B w.2).isSome) = true ∧
    (planInputs ceilingB .A).isSome = true ∧ (planInputs ceilingB .B).isSome = true := by decide +kernel

/-- CutStartBeginsCuts, refused: not PLANNED, no joint plan, and for BOTH a broken chain and a changed record. -/
theorem test_cut_start_refused : asks (ask pit 25 [1]) (frame 25 [1]) 25 [1] ∧ ((ask pit 25 [1]).station .A).work ≠ .planned ∧
    asks (ask pit 25 [3]) (frame 25 [3]) 25 [3] ∧ (planOf pit .A).isNone = true ∧
    ((planOf plannedA .A).map (jointReady plannedA)) = some false ∧
    ((planOf plannedBoth .A).bind (fun p => firstFailing (cutConditions (zoned .clear .broken plannedBoth) p (survivors p)))) =
      some (.stopped, .none) ∧
    ((planOf plannedBoth .A).bind (fun p =>
      (firstFailing (cutConditions (amended (fun r => { r with revision := 9 }) plannedBoth) p (survivors p))).map (·.1))) =
      some .stalePlan := by decide +kernel

/-- PassesAdvanceTheCut: a completion at a station with no cut in hand. -/
theorem test_cut_part_idle : waits (told pit (.taskDone hAL .passes)) (isTaskDone hAL .passes) (.taskDone hAL .passes) [] ∧
    (pit.station hAL.station).operation ≠ some .cut ∧ (cutA.station hAL.station).operation = some .cut := by decide +kernel

/-- A joint plan's station A HELD after its cut, station B's cut still in hand. -/
def heldBeside : State :=
  cutBoth.setStation .A { cutBoth.station .A with
    work := .held, held := some .unverified, operation := none, progress := .both { passes := 1, depth := 225 }
    results := some { newScan .verify 1 with wheels := .both conformed } }

/-- AcceptAndRecut and ScanEndsFormResults: the records and the partner positions stand apart, the partner free or cut. -/
theorem test_partners_apart : recordsInv heldCut.history ∧ recordsInv heldBeside.history ∧
    (planOf heldCut .A).map (fun p => decide ((partnerCaptures p .A).filterMap (·.position)).Nodup) = some true ∧
    (planOf heldBeside .A).map (fun p => decide ((partnerCaptures p .A).filterMap (·.position)).Nodup) = some true := by
  unfold recordsInv
  decide +kernel

/-- A partner with its cut in hand has its ceiling deferred, its record untouched; the total reservation keeps the slot
(R180). -/
theorem test_partner_deferred :
    let t := after .accept (ask heldBeside 29 [1])
    (t.station .B).deferred = some { value := 83890, cause := serialA, kind := .bogie, df := 83790 } ∧
    findRecord t.history serialB = findRecord heldBeside.history serialB ∧ (t.station .A).reservation = 0 ∧
    stationReserved (t.station .B) = (heldBeside.station .B).reservation + 1 := by decide +kernel

/-- A deferred ceiling below the finished diameters falls on the own record; one above them does not (R181). -/
def deferring (v : Geometry) : State :=
  heldCut.setStation .A { heldCut.station .A with deferred := some { value := v, cause := serialB, kind := .bogie, df := v - 100 } }
theorem test_deferred_applied :
    ((findRecord (after .accept (ask (deferring 83700) 29 [1])).history serialA).map (fun r => (r.ceiling, r.matchDue))) =
      some (some 83700, true) ∧
    ((findRecord (after .accept (ask (deferring 83790) 29 [1])).history serialA).map (fun r => (r.ceiling, r.matchDue))) =
      some (none, false) := by decide +kernel

/-- PowerKeepsStoredAndRecovers: two stations with their cuts in hand, of different wheelsets. -/
theorem test_power_both_cut : 0 < (cutBoth.station .A).reservation ∧ 0 < (cutBoth.station .B).reservation ∧
    (cutBoth.station .B).occupant ≠ some recordOfA.serial ∧
    (after .powerUp cutBoth).history.counter = cutBoth.history.counter + 2 := by decide +kernel

/-- StoreChangesAreTold: an amended occupant, and a full list whose oldest entry reaches the threshold of 8. -/
def amendDs : Bytes := amendBody (u24 78000) unchangedByte 0
def nearlyDue : State :=
  { pit with
    settings := { pit.settings with exportThreshold := 8 }
    history := { pit.history with
      records := [{ recordOfA with entries := List.replicate 12 entryOne }]
      exportQueue := List.replicate 7 { serial := serialB, entry := entryOne } } }
theorem test_store_told : (pit.station .A).occupant = some recordOfA.serial ∧ findRecord pit.history serialA = some recordOfA ∧
    ((findRecord (after .recordAmend (ask pit 40 amendDs)).history serialA).map (·.ds)) = some 78000 ∧
    nearlyDue.history.exportQueue.length < (after .recordAmend (ask nearlyDue 40 amendDs)).history.exportQueue.length ∧
    nearlyDue.settings.exportThreshold ≤ (after .recordAmend (ask nearlyDue 40 amendDs)).history.exportQueue.length ∧
    (after .recordAmend (ask nearlyDue 40 amendDs)).notices.any isExportDue = true ∧ nearlyDue.powered = true := by
  decide +kernel

/-- AcceptAndRecut: RECUT with neither a cut held nor a share, and held with the share gone. -/
def shareless : State := heldCut.setStation .A { heldCut.station .A with plan := none }
theorem test_recut_refused : asks (ask pit 30 [1]) (frame 30 [1]) 30 [1] ∧
    heldAfterCut ((ask pit 30 [1]).station .A) = false ∧ asks (ask shareless 30 [1]) (frame 30 [1]) 30 [1] ∧
    heldAfterCut (shareless.station .A) = true ∧ (shareParts (ask shareless 30 [1]) .A).isNone = true ∧
    (after .recut (ask shareless 30 [1])).link.backlog.getLast?.map (·.body) = some (.refused .wrongState .none) := by
  decide +kernel

/-- STATION REPORT part 2 opens with the station's share: its station and its occupant (R165, R147). -/
theorem test_plan_layout : (planBytes .A (planOf heldCut .A)).take 13 = u8 1 ++ serialBytes serialA := by decide +kernel

/-! ### Witnesses: the room, partners and derived values -/

/-- InvariantsHoldAtReset and StoreChangesAreTold: the stations fit and the room is kept with a cut in hand. -/
theorem test_fits : stationsFit cutA := by
  have hp : ∀ st, ∀ w ∈ (cutA.station st).prior, surveyable w = true := fun st => by cases st <;> decide +kernel
  intro st
  refine ⟨⟨?_, ?_, ?_, ?_, fun w h => hp st w h⟩, ?_⟩
  all_goals first | (unfold shareFits; cases st <;> decide +kernel) | (cases st <;> decide +kernel)
theorem test_room : roomInv cutA := by
  have hr : ∀ st, ∀ p ∈ planOf cutA st, cutReservation p st ≤ (cutA.station st).reservation ∨ st = .B := fun st => by
    cases st <;> decide +kernel
  have hb : ¬ cutUnderWay (cutA.station .B) := by unfold cutUnderWay; decide +kernel
  refine ⟨by decide +kernel, fun st => ⟨?_, fun hc => ⟨?_, fun p _ h _ => ?_⟩⟩⟩
  · cases st <;> decide +kernel
  · cases st
    · decide +kernel
    · exact absurd hc hb
  · cases st
    · exact (hr .A p h).resolve_right (by decide)
    · exact absurd hc hb

/-- ApproveAndWithdrawShares, TraceAndSurveyBegin and CutStartBeginsCuts: an idle partner beside a share withdrawn, at a TRACE,
and at a stale CUT START. -/
def staleBoth : State := amended (fun r => { r with ds := 84000, revision := 9 }) plannedBoth
theorem test_idle_partner : idlePartner plannedBoth .A = true ∧ idlePartner staleBoth .A = true ∧
    ((shareOf staleBoth .A).map (aboveEither 84000)) = some true ∧ (shareOf staleBoth .B).isSome = true ∧
    ((after (.recordChangedNotice .A) (told staleBoth (.recordChanged .A recordOfA))).station .B).work = .traced ∧
    ((planOf staleBoth .A).bind (fun p => firstFailing (cutConditions staleBoth p [.A]))).map (·.1) = some .stalePlan ∧
    ((after .cutStart (ask staleBoth 25 [1])).station .B).work = .traced ∧
    ((after .cutStart (ask staleBoth 25 [1])).station .B).plan = none ∧
    ((after .trace (ask plannedBoth 21 [1])).station .B).work = .traced := by decide +kernel
theorem test_shares_fit : ∀ st, shareFits staleBoth st := by
  intro st
  unfold shareFits
  cases st <;> decide +kernel

/-- ApproveAndWithdrawShares: a share withdrawn from a station HELD before its cut. -/
theorem test_held_withdrawn :
    let s := told (amended (fun r => { r with condemned := true }) heldA) (.recordChanged .A recordOfA)
    (s.station .A).work = .held ∧ (s.station .A).held = some .limit ∧ (planOf s .A).isSome = true ∧
    ((after (.recordChangedNotice .A) s).station .A).work = .traced := by decide +kernel

/-- AbandonsEndTheOperation: an abandoned verify keeps its results, the wheel still scanned UNFINISHED (R142). -/
theorem test_verify_abandoned :
    ((after .stationAbandon (ask verifyingA 28 [1])).station .A).results.map (fun y => (y.abandoned, y.wheels.l.result,
      y.wheels.r.result)) = some (true, .unfinished, .conform) := by decide +kernel

/-- ProfileLoadsFillSlots: slots beside the range, a slot in use, a wrong count, and a height out of range. -/
theorem test_profile_clear_refused : asks (ask plannedA 33 [0]) (frame 33 [0]) 33 [0] ∧
    asks (ask plannedA 33 [9]) (frame 33 [9]) 33 [9] ∧ slotInUse (ask plannedA 33 [1]) 1 = true ∧
    reply .profileLoadClear (ask plannedA 33 [1]) = some (.refused .profileInUse .none) := by decide +kernel
def stagedInUse : State :=
  plannedA.setProfiles { plannedA.profiles with buffer := some { slot := 1, partial_ := profileOf 70, length := 71 } }
theorem test_profile_second_refused :
    asks (ask stagedInUse 35 [1, 1, 0, 0]) (frame 35 [1, 1, 0, 0]) 35 [1, 1, 0, 0] ∧
    parseSecondPart [1, 1, 0, 0] = some (1, 1, [0]) ∧ slotInUse stagedInUse 1 = true ∧
    (after .profileLoadSecondPart (ask stagedInUse 35 [1, 1, 0, 0])).profiles = stagedInUse.profiles ∧
    parseSecondPart [2, 0] = some (2, 0, []) ∧ 0 + 70 ≠ 71 ∧
    reply .profileLoadSecondPart (ask staged 35 [2, 0]) = some (.refused .badField (.offset 1)) ∧
    parseSecondPart [2, 1, 15, 161] = some (2, 1, [4001]) ∧
    reply .profileLoadSecondPart (ask staged 35 [2, 1, 15, 161]) = some (.refused .badField (.offset 2)) := by decide +kernel

/-- RecordsAmendedAndRetired: a serial unknown, and a record whose entries find no room. -/
def amendUnknown : Bytes := padded 12 serialC ++ (amendBody unchangedByte unchangedByte 0).drop 12
def fullQueue : State :=
  vacantA.setHistory { vacantA.history with
    records := [{ recordOfA with entries := [entryOne] }]
    exportQueue := List.replicate 96 { serial := serialB, entry := entryOne } }
theorem test_amend_retire_refused : asks (ask pit 40 amendUnknown) (frame 40 amendUnknown) 40 amendUnknown ∧
    ((parseAmend amendUnknown).map (·.serial)) = some serialC ∧ findRecord (ask pit 40 amendUnknown).history serialC = none ∧
    asks (ask fullQueue 41 (padded 12 serialA)) (frame 41 (padded 12 serialA)) 41 (padded 12 serialA) ∧
    stationsOf (ask fullQueue 41 (padded 12 serialA)) serialA = [] ∧
    reply .recordRetire (ask fullQueue 41 (padded 12 serialA)) = some (.refused .historyFull (.room 0 0 1)) := by decide +kernel

/-- ExtractionDerivesInOrder: the worked example's tip, crossings and sweep, one height short and one contact too many. -/
theorem test_derived :
    ((extract 4 exampleWheel).results.tip, (extract 4 exampleWheel).results.sh, (extract 4 exampleWheel).results.sd,
      (extract 4 exampleWheel).results.xs) = (some 22, some 2980, some 3217, some 2572) ∧
    (extract 4 { exampleWheel with circ := exampleWheel.circ.drop 9 }).status = .incomplete ∧
    (extract 4 { exampleWheel with circ := sparseSet exampleWheel.circ 5 { radius := 42000, status := .saturated } }).status =
      .saturated ∧
    (extract 140 { exampleWheel with lateral := exampleWheel.lateral.filter (fun e => e.1 == 70) }).status = .unresolved ∧
    (goodRadii exampleWheel.circ).isEmpty = false := by decide +kernel
theorem test_tip : ∃ r, goodRadius (sparseGet exampleWheel.lateral 70) = some r ∧ heightAt exampleWheel r 22 = some 2980 ∧
    ∀ i, i ≤ 40 → ∀ y ∈ heightAt exampleWheel r i, y ≤ 2980 ∧ (y = 2980 → 22 ≤ i) := by
  refine ⟨(goodRadius (sparseGet exampleWheel.lateral 70)).getD 0, ?_⟩
  decide +kernel

/-- ExtractionDerivesInOrder: one limit line at its two edges, and beyond each. -/
theorem test_limit_edges :
    let x : LimitLine := { lo := 650, hi := 1100, low := .hold, inside := .nothing, high := .note }
    checkLimit .qr (.wheel .L) x (some 650) = [] ∧ checkLimit .qr (.wheel .L) x (some 1100) = [] ∧
    ((checkLimit .qr (.wheel .L) x (some 649)).map (fun y => (y.outcome, y.hold))) = [(some .low, true)] ∧
    ((checkLimit .qr (.wheel .L) x (some 1101)).map (fun y => (y.outcome, y.hold))) = [(some .high, false)] := by decide +kernel

/-- ScanEndsFormResults: each result of a verify, and the sweep beside it. -/
theorem test_verify_results :
    ((endScanRecord .verify (some (profileOf 140)) 4 { sweeping with circ := [] }).sweep,
      (endScanRecord .verify (some (profileOf 140)) 4 { sweeping with circ := [] }).result) =
      (some .incomplete, .inconclusive .sweep) ∧
    (endScanRecord .verify (some (profileOf 140)) 4 { sweeping with skips := 5 }).result = .inconclusive .skipped ∧
    (endScanRecord .verify (some (profileOf 140)) 4 { sweeping with datum := .failed }).result = .inconclusive .noDatum ∧
    (endScanRecord .verify (some (profileOf 140)) 4 { sweeping with firstOut := some ⟨3, true, 50⟩ }).result = .high ∧
    ((endScanRecord .verify (some (profileOf 140)) 4 sweeping).d, (endScanRecord .verify (some (profileOf 140)) 4 sweeping).f) =
      (some 83790, some 0) := by decide +kernel

/-- PlanMakesSinglePlan: a last turning and a cut beyond the visit's, with the findings of each (R159). -/
theorem test_share_findings :
    let x := makeShare { recordOfA with dlt := 83900 } traceA 200 (planWheelset tracedA recordOfA (profileOf 100) traceA)
    (x.findings.map (·.kind)) = [.lastTurn, .excess] ∧ x.heldReason = some .lastTurn ∧ x.outcome = .held := by decide +kernel

/-- ExtractionDerivesInOrder: the worked example crosses level 1000 between points 32 and 33, at position 3217. -/
theorem test_crosses : crossesAt (heightAt exampleWheel ((goodRadius (sparseGet exampleWheel.lateral 70)).getD 0)) 1000 22 3217 := by
  have above : ∀ j, j < 32 → 22 ≤ j →
      ∀ b ∈ heightAt exampleWheel ((goodRadius (sparseGet exampleWheel.lateral 70)).getD 0) (j + 1), 1000 ≤ b := by decide +kernel
  obtain ⟨a, ha⟩ : ∃ a, heightAt exampleWheel ((goodRadius (sparseGet exampleWheel.lateral 70)).getD 0) 32 = some a :=
    Option.isSome_iff_exists.mp (by decide +kernel)
  obtain ⟨b, hb⟩ : ∃ b, heightAt exampleWheel ((goodRadius (sparseGet exampleWheel.lateral 70)).getD 0) 33 = some b :=
    Option.isSome_iff_exists.mp (by decide +kernel)
  have edges : (1000 : Int) ≤ a ∧ b < 1000 ∧ roundsHalfUp 17 (100 * (a - 1000)) (a - b) := by
    have key : ∀ x ∈ heightAt exampleWheel ((goodRadius (sparseGet exampleWheel.lateral 70)).getD 0) 32,
        ∀ y ∈ heightAt exampleWheel ((goodRadius (sparseGet exampleWheel.lateral 70)).getD 0) 33,
        (1000 : Int) ≤ x ∧ y < 1000 ∧ roundsHalfUp 17 (100 * (x - 1000)) (x - y) := by
      unfold roundsHalfUp
      decide +kernel
    exact key a ha b hb
  refine ⟨32, a, b, 17, by decide, by decide, fun j lo hi ⟨_, y, _, hy, _, lt⟩ => ?_, ha, hb, edges.1, edges.2.1, edges.2.2, by decide⟩
  exact absurd lt (Int.not_lt.mpr (above j hi lo y hy))

end Sys2Proof.Tests
end

/-! SET CLOCK (R21): what its body is read as, and its effect on the clock. -/

namespace Sys2Proof.Machine

/-- The U32 field form is read back as the word laid out (R200). -/
theorem parseClock_u32 (w : Word32) : parseClock (u32 w.toNat) = some w := by
  have bound : w.toNat < 4294967296 := w.isLt
  simp only [u32, parseClock, Option.some.injEq]
  apply BitVec.eq_of_toNat_eq
  simp only [n32, BitVec.toNat_ofNat]
  omega

theorem exec_setClock (s : State) : exec .setClock s = execSetClock s := by rfl

/-- The clock is not among what the Warning Outputs are shown: set and answered, it hands them nothing. -/
theorem settle_answer_setClock (s : State) (x : Stamp) (f : Frame) (b : ReplyBody) :
    settle s (answer (s.setClock x) f b) = answer (s.setClock x) f b := by
  apply settle_quiet <;> simp

/-- A SET CLOCK request that carries a time is taken in every state of the part (R21). -/
theorem execSetClock_taken (s : State) (f : Frame) (w : Word32) (h : asks s f 3 (u32 w.toNat)) :
    execSetClock s = .next (answer (s.setClock { secs := w, frac := 0, set := true }) f (.done (.clock w))) := by
  obtain ⟨powered, oldest, kind, body⟩ := h
  have known : knownKind f.kind = true := by simp [knownKind, kind]
  have mine : ofKind 3 f = true := by simp [ofKind, kind]
  have read : parseClock f.body = some w := by rw [body, parseClock_u32]
  rw [execSetClock, event_powered s _ powered, serve_taken _ _ _ s f w oldest known mine read, settle_answer_setClock]

/-- Setting the clock and answering leave every block but the clock and the link as it was. -/
theorem answer_setClock_onlyChanges (s : State) (x : Stamp) (f : Frame) (b : ReplyBody) :
    onlyChanges [.link, .clock] s (answer (s.setClock x) f b) := by
  refine ⟨rfl, rfl, rfl, fun p outside => ?_⟩
  cases p with
  | link | clock => simp at outside
  | _ => rfl

/-- Settles O11: the request is taken in every state of the part, and the answered state is read off part by part. -/
theorem setClockStoresTime : Obligations.SetClockStoresTime := by
  intro s f w h
  refine ⟨_, (exec_setClock s).trans (execSetClock_taken s f w h), ?_, ?_, ?_, ?_⟩
  · rw [answer_clock, State.setClock_clock]
  · exact answer_answered s _ f _ (State.setClock_link s _)
  · rw [answer_notices, State.setClock_notices]
  · exact answer_setClock_onlyChanges s _ f _

end Sys2Proof.Machine

/-! PANEL SET (R65): which bodies are four panel values, what becomes of the sixteen cells, and the two outcomes of the
request. -/

namespace Sys2Proof.Machine

/-! ### The values that the body carries -/

/-- A byte is a panel value exactly where it is one of the four codes. -/
theorem lampOf_eq_none_iff (b : Byte) : lampOf b = none ↔ b ≠ 0 ∧ b ≠ 1 ∧ b ≠ 2 ∧ b ≠ 3 := by
  unfold lampOf
  split_ifs <;> simp_all

/-- One byte that is no panel value spoils the whole body. -/
theorem mapM_lampOf_eq_none (body : Bytes) (b : Byte) (hb : b ∈ body) (h : lampOf b = none) :
    body.mapM lampOf = none := by
  induction body with
  | nil => simp at hb
  | cons c rest ih =>
    rw [List.mapM_cons]
    rcases List.mem_cons.mp hb with rfl | later
    · simp [h]
    · cases lampOf c <;> simp [ih later]

/-- A body of another length, or with a byte outside the four codes, fails the form check (R7, R65). -/
theorem parsePanel_eq_none (body : Bytes)
    (h : body.length ≠ 4 ∨ ∃ b ∈ body, b ≠ 0 ∧ b ≠ 1 ∧ b ≠ 2 ∧ b ≠ 3) : parsePanel body = none := by
  unfold parsePanel
  rcases h with length | ⟨b, hb, other⟩
  · rw [if_neg length]
  · rw [mapM_lampOf_eq_none body b hb ((lampOf_eq_none_iff b).mpr other), ite_self]

/-! ### The cells -/

@[simp] theorem length_hostCells (cs : List Lamp) (vs : List (Option Lamp)) : (hostCells cs vs).length = cs.length := by
  induction cs, vs using hostCells.induct with
  | case1 c cs v vs ih => simp [hostCells, ih]
  | case2 cs => cases cs <;> rfl
  | case3 v vs => rfl

/-- A host cell with a value takes it, and keeps what it shows where the value is UNCHANGED. -/
theorem getElem?_hostCells (cs : List Lamp) (vs : List (Option Lamp)) (i : Nat) (v : Option Lamp) (h : vs[i]? = some v) :
    (hostCells cs vs)[i]? = cs[i]?.map (fun c => v.getD c) := by
  induction cs, vs using hostCells.induct generalizing i with
  | case1 c cs w vs ih =>
    cases i with
    | zero => simp_all [hostCells]
    | succ j => simpa [hostCells] using ih j (by simpa using h)
  | case2 cs => simp at h
  | case3 w vs => simp [hostCells]

/-- The lamp table after PANEL SET, as `execPanelSet` forms it: the part's own twelve cells, then the host cells. -/
def panelCells (cells : List Lamp) (vs : List (Option Lamp)) : List Lamp :=
  cells.take 12 ++ hostCells (cells.drop 12) vs

@[simp] theorem length_panelCells (cells : List Lamp) (vs : List (Option Lamp)) :
    (panelCells cells vs).length = cells.length := by
  simp only [panelCells, List.length_append, List.length_take, length_hostCells, List.length_drop]
  omega

theorem getElem?_panelCells_own (cells : List Lamp) (vs : List (Option Lamp)) (i : Nat) (own : i < 12)
    (table : cells.length = 16) : (panelCells cells vs)[i]? = cells[i]? := by
  rw [panelCells, List.getElem?_append_left (by simp; omega), List.getElem?_take_of_lt own]

theorem getElem?_panelCells_host (cells : List Lamp) (vs : List (Option Lamp)) (i : Nat) (v : Option Lamp)
    (table : cells.length = 16) (h : vs[i]? = some v) :
    (panelCells cells vs)[12 + i]? = cells[12 + i]?.map (fun c => v.getD c) := by
  have length : (cells.take 12).length = 12 := by simp [table]
  rw [panelCells, List.getElem?_append_right (by omega), length, Nat.add_sub_cancel_left,
    getElem?_hostCells _ _ _ _ h, List.getElem?_drop]

/-! ### The request -/

theorem exec_panelSet (s : State) : exec .panelSet s = execPanelSet s := by rfl

/-- An answer shows the Warning Outputs nothing new. -/
theorem settle_answer (s : State) (f : Frame) (b : ReplyBody) : settle s (answer s f b) = answer s f b := by
  apply settle_quiet <;> simp

/-- The Warning Outputs are not among what they are shown: a change of theirs, answered, hands them nothing. -/
theorem settle_answer_setWarnings (s : State) (w : Warnings) (f : Frame) (b : ReplyBody) :
    settle s (answer (s.setWarnings w) f b) = answer (s.setWarnings w) f b := by
  apply settle_quiet <;> simp

/-- An answer changes the link alone. -/
theorem answer_onlyChanges (s : State) (f : Frame) (b : ReplyBody) : onlyChanges [.link] s (answer s f b) := by
  refine ⟨rfl, rfl, rfl, fun p outside => ?_⟩
  cases p with
  | link => simp at outside
  | _ => rfl

/-- Setting the Warning Outputs and answering leave every other block but the link as it was. -/
theorem answer_setWarnings_onlyChanges (s : State) (w : Warnings) (f : Frame) (b : ReplyBody) :
    onlyChanges [.link, .warnings] s (answer (s.setWarnings w) f b) := by
  refine ⟨rfl, rfl, rfl, fun p outside => ?_⟩
  cases p with
  | link | warnings => simp at outside
  | _ => rfl

/-- A PANEL SET request with four values is taken in every state of the part (R65). -/
theorem execPanelSet_taken (s : State) (f : Frame) (body : Bytes) (vs : List (Option Lamp)) (h : asks s f 9 body)
    (read : parsePanel body = some vs) :
    execPanelSet s = .next (answer (s.setWarnings { s.warnings with cells := panelCells s.warnings.cells vs }) f
      (.done (.panel (panelCells s.warnings.cells vs) s.warnings.tone s.warnings.muted))) := by
  obtain ⟨powered, oldest, kind, rfl⟩ := h
  have known : knownKind f.kind = true := by simp [knownKind, kind]
  have mine : ofKind 9 f = true := by simp [ofKind, kind]
  rw [execPanelSet, event_powered s _ powered, serve_taken _ _ _ s f vs oldest known mine read, settle_answer_setWarnings]
  rfl

/-- A PANEL SET request whose body fails the form check is answered and has no effect (R7). -/
theorem execPanelSet_malformed (s : State) (f : Frame) (body : Bytes) (h : asks s f 9 body)
    (unread : parsePanel body = none) : execPanelSet s = .next (answer s f .malformed) := by
  obtain ⟨powered, oldest, kind, rfl⟩ := h
  have mine : ofKind 9 f = true := by simp [ofKind, kind]
  rw [execPanelSet, event_powered s _ powered, serve_malformed _ _ _ s f oldest mine unread, settle_answer]

/-- Settles O23: a body that is read sets the lamp table to `panelCells`, whose cells the lemmas above give one by one; a
body that is not read leaves the pit to its answer alone. -/
theorem panelSetSetsHostCells : Obligations.PanelSetSetsHostCells := by
  refine ⟨fun s f body vs h read table => ?taken, fun s f body h wrong => ?malformed⟩
  case taken =>
    exact ⟨_, (exec_panelSet s).trans (execPanelSet_taken s f body vs h read), rfl,
      (length_panelCells _ vs).trans table, fun i own => getElem?_panelCells_own _ vs i own table,
      fun i v value => getElem?_panelCells_host _ vs i v table value, answer_answered s _ f _ (State.setWarnings_link s _),
      rfl, answer_setWarnings_onlyChanges s _ f _⟩
  case malformed =>
    have unread := parsePanel_eq_none body wrong
    exact ⟨_, (exec_panelSet s).trans (execPanelSet_malformed s f body h unread), answer_answered s s f _ rfl,
      answer_notices s f _, answer_onlyChanges s f _⟩

end Sys2Proof.Machine

/-! INSERT CHANGED (R109): the insert pass count of a PARKED head, what a loss of power keeps of it, and the two outcomes of
the request. -/

namespace Sys2Proof.Machine

/-! ### A request of one kind -/

/-- A powered part whose oldest request has the command's kind and a body that is read lets the owner act, answers, and
settles (R5). -/
theorem event_serve_asks {α : Type} (k : Nat) (parse : Bytes → Option α) (own : State → α → State × ReplyBody) (s : State)
    (f : Frame) (body : Bytes) (a : α) (h : asks s f k body) (known : 1 ≤ k ∧ k ≤ 42) (read : parse body = some a) :
    event s (serve (ofKind k) parse own) = .next (settle s (answer (own s a).1 f (own s a).2)) := by
  obtain ⟨powered, oldest, rfl, rfl⟩ := h
  have isKnown : knownKind f.kind = true := by simp [knownKind, known]
  have mine : ofKind f.kind.toNat f = true := by simp [ofKind]
  rw [event_powered s _ powered, serve_taken _ _ _ s f a oldest isKnown mine read]

/-! ### The heads -/

@[simp] theorem head_setHead_same (s : State) (h : HeadId) (x : Head) : (s.setHead h x).head h = x :=
  headGet_headSet_same s.heads.recs h x

@[simp] theorem head_answer (s : State) (f : Frame) (b : ReplyBody) (h : HeadId) : (answer s f b).head h = s.head h := rfl

/-- Replacing one head's record and answering leave every other head, and Head Control's own fields. -/
theorem answer_setHead_onlyHead (s : State) (h : HeadId) (x : Head) (f : Frame) (b : ReplyBody) :
    onlyHead s (answer (s.setHead h x) f b) h := by
  rw [onlyHead, head_answer, head_setHead_same]
  rfl

/-- Replacing a head's record and answering leave every block but the heads and the link as it was. -/
theorem answer_setHead_onlyChanges (s : State) (h : HeadId) (x : Head) (f : Frame) (b : ReplyBody) :
    onlyChanges [.link, .heads] s (answer (s.setHead h x) f b) := by
  refine ⟨rfl, rfl, rfl, fun p outside => ?_⟩
  cases p with
  | link | heads => simp at outside
  | _ => rfl

/-- The heads are not among what the Warning Outputs are shown: a head's record replaced, and answered, hands them nothing. -/
theorem settle_answer_setHead (s : State) (h : HeadId) (x : Head) (f : Frame) (b : ReplyBody) :
    settle s (answer (s.setHead h x) f b) = answer (s.setHead h x) f b := by
  apply settle_quiet <;> simp

/-! ### The insert pass count and power -/

theorem headGet_map {α β : Type} (g : α → β) (p : PerHead α) (h : HeadId) :
    headGet (p.map (·.map g)) h = g (headGet p h) := by
  obtain ⟨st, d⟩ := h
  cases st <;> cases d <;> rfl

/-- A head wakes in its starting state with the insert pass count it had (section 2.3 of the opening file). -/
theorem head_wakeBlocks (s : State) (h : HeadId) : (wakeBlocks s).head h = startHead (s.head h).insertCount := by
  simp only [State.head, wakeBlocks, startHeads, insertCounts, headGet_map]

@[simp] theorem insertCount_wakeBlocks (s : State) (h : HeadId) :
    ((wakeBlocks s).head h).insertCount = (s.head h).insertCount := by
  rw [head_wakeBlocks, startHead]

theorem exec_powerLoss (s : State) : exec .powerLoss s = execPowerLoss s := by rfl

/-- A loss of power keeps every head's insert pass count (R109, R199). -/
theorem execPowerLoss_insertCount (s : State) :
    ∃ u, execPowerLoss s = .next u ∧ ∀ h, (u.head h).insertCount = (s.head h).insertCount :=
  ⟨_, rfl, insertCount_wakeBlocks s⟩

/-! ### The request -/

theorem exec_insertChanged (s : State) : exec .insertChanged s = execInsertChanged s := by rfl

/-- INSERT CHANGED on a PARKED head is taken in every state of the part (R109). -/
theorem execInsertChanged_parked (s : State) (f : Frame) (b : Byte) (h : HeadId) (request : asks s f 32 [b])
    (read : headOf b = some h) (parked : (s.head h).state = .parked) :
    execInsertChanged s = .next (answer (s.setHead h { s.head h with insertCount := 0 }) f
      (.done (.insertCount (s.head h).insertCount))) := by
  rw [execInsertChanged, event_serve_asks 32 parseHead _ s f [b] h request (by decide) read, if_pos parked,
    settle_answer_setHead]

/-- INSERT CHANGED on a head in any other state is refused and has no effect (R109). -/
theorem execInsertChanged_notParked (s : State) (f : Frame) (b : Byte) (h : HeadId) (request : asks s f 32 [b])
    (read : headOf b = some h) (other : (s.head h).state ≠ .parked) :
    execInsertChanged s = .next (answer s f (.refused .wrongState .none)) := by
  rw [execInsertChanged, event_serve_asks 32 parseHead _ s f [b] h request (by decide) read, if_neg other]
  exact congrArg _ (settle_answer s f _)

/-- Settles O38: the head's state alone decides the outcome; the count set to 0 in the answered state is the one that a loss
of power finds there and keeps. -/
theorem insertChangedResetsCount : Obligations.InsertChangedResetsCount := by
  refine fun s f b h request read => ⟨fun parked => ?taken, fun other => ?refused⟩
  case taken =>
    have count := head_setHead_same s h { s.head h with insertCount := 0 }
    obtain ⟨u, lost, kept⟩ := execPowerLoss_insertCount (answer (s.setHead h { s.head h with insertCount := 0 }) f
      (.done (.insertCount (s.head h).insertCount)))
    refine ⟨_, u, (exec_insertChanged s).trans (execInsertChanged_parked s f b h request read parked),
      answer_answered s _ f _ (setHead_link s h _), count, answer_setHead_onlyHead s h _ f _, ?_,
      answer_setHead_onlyChanges s h _ f _, (exec_powerLoss _).trans lost, ?_⟩
    · rw [answer_notices, setHead_notices]
    · rw [kept h, head_answer, count]
  case refused =>
    exact ⟨_, (exec_insertChanged s).trans (execInsertChanged_notParked s f b h request read other),
      answer_answered s s f _ rfl, answer_notices s f _, answer_onlyChanges s f _⟩

end Sys2Proof.Machine

/-! EXPORT TAKE (R191): the order in which the entries wait, what a loss of power keeps of the History Store, and the two
outcomes of the request. -/

namespace Sys2Proof.Machine

/-! ### The History Store -/

/-- The head entry of a store that meets the invariant has the lowest sequence number waiting (R187). -/
theorem exportHead_seq_lt (h : History) (e : ExportEntry) (rest : List ExportEntry) (inv : numbersInv h)
    (waiting : h.exportQueue = e :: rest) : ∀ x ∈ rest, e.entry.seq < x.entry.seq := by
  obtain ⟨-, -, -, ascending⟩ := inv
  rw [waiting, List.pairwise_map] at ascending
  exact (List.pairwise_cons.mp ascending).1

/-- A loss of power keeps the History Store (R199). -/
theorem execPowerLoss_history (s : State) : ∃ u, execPowerLoss s = .next u ∧ u.history = s.history :=
  ⟨_, rfl, rfl⟩

/-! ### What the request changes -/

/-- Settling joins notices and touches no part of the state. -/
theorem settle_onlyChanges (ps : List Part) (o s n : State) (h : onlyChanges ps s n) : onlyChanges ps s (settle o n) := by
  obtain ⟨powered, uptime, pending, others⟩ := h
  refine ⟨powered, uptime, pending, fun p outside => ?_⟩
  have kept := others p outside
  cases p <;> exact kept

/-- An event whose effect sends nothing keeps the notices under way, and its settling joins others after them. -/
theorem settle_keeps_notices (o s n : State) (h : n.notices = s.notices) : handsOn s.notices (settle o n) := by
  rw [← h]
  exact settle_handsOn o n

/-- Setting the History Store and answering leave every other block but the link as it was. -/
theorem answer_setHistory_onlyChanges (s : State) (x : History) (f : Frame) (b : ReplyBody) :
    onlyChanges [.link, .history] s (answer (s.setHistory x) f b) := by
  refine ⟨rfl, rfl, rfl, fun p outside => ?_⟩
  cases p with
  | link | history => simp at outside
  | _ => rfl

/-! ### The request -/

theorem exec_exportTake (s : State) : exec .exportTake s = execExportTake s := by rfl

/-- The state after EXPORT TAKE has removed the entry `e` before `rest`, with the Warning Outputs told of the queue. -/
def exportTaken (s : State) (f : Frame) (e : ExportEntry) (rest : List ExportEntry) : State :=
  settle s (answer (s.setHistory { s.history with exportQueue := rest }) f (.done (.exportTaken rest.length e)))

theorem exportTaken_answered (s : State) (f : Frame) (e : ExportEntry) (rest : List ExportEntry) :
    answered s f (exportTaken s f e rest) (.done (.exportTaken rest.length e)) :=
  answer_answered s _ f _ (State.setHistory_link s _)

theorem exportTaken_history (s : State) (f : Frame) (e : ExportEntry) (rest : List ExportEntry) :
    (exportTaken s f e rest).history = { s.history with exportQueue := rest } := by
  rw [exportTaken, settle_history, answer_history, State.setHistory_history]

theorem exportTaken_handsOn (s : State) (f : Frame) (e : ExportEntry) (rest : List ExportEntry) :
    handsOn s.notices (exportTaken s f e rest) :=
  settle_keeps_notices s s _ rfl

theorem exportTaken_onlyChanges (s : State) (f : Frame) (e : ExportEntry) (rest : List ExportEntry) :
    onlyChanges [.link, .history] s (exportTaken s f e rest) :=
  settle_onlyChanges _ s s _ (answer_setHistory_onlyChanges s _ f _)

/-- EXPORT TAKE with an entry waiting is taken in every state of the part (R191). -/
theorem execExportTake_waiting (s : State) (f : Frame) (e : ExportEntry) (rest : List ExportEntry) (request : asks s f 42 [])
    (waiting : s.history.exportQueue = e :: rest) : execExportTake s = .next (exportTaken s f e rest) := by
  rw [execExportTake, event_serve_asks 42 parseNone _ s f [] () request (by decide) rfl, waiting, exportTaken]

/-- EXPORT TAKE of an empty queue is refused and has no effect (R191). -/
theorem execExportTake_empty (s : State) (f : Frame) (request : asks s f 42 []) (empty : s.history.exportQueue = []) :
    execExportTake s = .next (answer s f (.refused .empty .none)) := by
  rw [execExportTake, event_serve_asks 42 parseNone _ s f [] () request (by decide) rfl, empty]
  exact congrArg _ (settle_answer s f _)

/-- Settles O58: whether an entry waits alone decides the outcome; the queue's order makes the entry removed the lowest, and
a loss of power finds the shortened queue and keeps it. -/
theorem exportTakeRemovesLowest : Obligations.ExportTakeRemovesLowest := by
  refine ⟨fun s f e rest request waiting => ?taken, fun s f request empty => ?refused⟩
  case taken =>
    obtain ⟨u, lost, kept⟩ := execPowerLoss_history (exportTaken s f e rest)
    exact ⟨exportTaken s f e rest, u, (exec_exportTake s).trans (execExportTake_waiting s f e rest request waiting),
      exportTaken_answered s f e rest, exportTaken_history s f e rest, exportTaken_handsOn s f e rest,
      exportTaken_onlyChanges s f e rest,
      fun ⟨_, numbers⟩ => exportHead_seq_lt s.history e rest numbers waiting, (exec_powerLoss _).trans lost, kept⟩
  case refused =>
    exact ⟨_, (exec_exportTake s).trans (execExportTake_empty s f request empty), answer_answered s s f _ rfl,
      answer_notices s f _, answer_onlyChanges s f _⟩

end Sys2Proof.Machine

/-! The History Store (chapter 10): what an append, a change, a retirement and a new record keep of its invariant (R182,
R185 to R187, R194). -/

namespace Sys2Proof.Machine

/-! ### Sequence numbers -/

/-- The sequence numbers of a list of waiting entries. -/
def waitingSeqs (q : List ExportEntry) : List Nat := q.map (·.entry.seq)

/-- The sequence numbers of a record's list. -/
def entrySeqs (es : List Entry) : List Nat := es.map (·.seq)

theorem storedNumbers_eq (h : History) :
    storedNumbers h = waitingSeqs h.exportQueue ++ h.records.flatMap (fun r => entrySeqs r.entries) := rfl

/-- An entry placed in the Export Queue adds its number to those waiting (R187). -/
theorem waitingSeqs_insertExport (q : List ExportEntry) (e : ExportEntry) :
    (waitingSeqs (insertExport q e)).Perm (e.entry.seq :: waitingSeqs q) := by
  induction q with
  | nil => exact List.Perm.refl _
  | cons x xs ih =>
    unfold insertExport
    split
    · exact List.Perm.refl _
    · exact (ih.cons _).trans (List.Perm.swap _ _ _)

/-- A queue in sequence order stays so when an entry with a number of its own is placed in it (R187). -/
theorem insertExport_ascending (q : List ExportEntry) (e : ExportEntry) (sorted : (waitingSeqs q).Pairwise (· < ·))
    (new : e.entry.seq ∉ waitingSeqs q) : (waitingSeqs (insertExport q e)).Pairwise (· < ·) := by
  induction q with
  | nil => simp [insertExport, waitingSeqs]
  | cons x xs ih =>
    simp only [waitingSeqs, List.map_cons, List.pairwise_cons, List.mem_cons, not_or] at sorted new
    unfold insertExport
    split
    case isTrue before =>
      simp only [waitingSeqs, List.map_cons, List.pairwise_cons, List.mem_cons]
      refine ⟨?_, sorted⟩
      rintro n (rfl | later)
      · exact before
      · exact before.trans (sorted.1 n later)
    case isFalse notBefore =>
      have less : x.entry.seq < e.entry.seq := by omega
      refine List.pairwise_cons.mpr ⟨fun n mem => ?_, ih sorted.2 new.2⟩
      rcases List.mem_cons.mp ((waitingSeqs_insertExport xs e).mem_iff.mp mem) with rfl | later
      · exact less
      · exact sorted.1 n later

/-- Entries placed in the Export Queue one after the other (R197). -/
theorem waitingSeqs_foldl_insertExport (serial : Serial) (es : List Entry) (q : List ExportEntry) :
    (waitingSeqs (es.foldl (fun q e => insertExport q { serial := serial, entry := e }) q)).Perm
      (waitingSeqs q ++ entrySeqs es) := by
  induction es generalizing q with
  | nil => simp [entrySeqs]
  | cons e es ih =>
    calc waitingSeqs ((e :: es).foldl (fun q e => insertExport q { serial := serial, entry := e }) q)
        |>.Perm (waitingSeqs (insertExport q { serial := serial, entry := e }) ++ entrySeqs es) := ih _
      _ |>.Perm ((e.seq :: waitingSeqs q) ++ entrySeqs es) := (waitingSeqs_insertExport q _).append_right _
      _ |>.Perm (waitingSeqs q ++ entrySeqs (e :: es)) := List.perm_middle.symm

theorem foldl_insertExport_ascending (serial : Serial) (es : List Entry) (q : List ExportEntry)
    (sorted : (waitingSeqs q).Pairwise (· < ·)) (apart : (waitingSeqs q ++ entrySeqs es).Nodup) :
    (waitingSeqs (es.foldl (fun q e => insertExport q { serial := serial, entry := e }) q)).Pairwise (· < ·) := by
  induction es generalizing q with
  | nil => exact sorted
  | cons e es ih =>
    have moved : (waitingSeqs q ++ entrySeqs (e :: es)).Perm (e.seq :: (waitingSeqs q ++ entrySeqs es)) := List.perm_middle
    have split := List.nodup_cons.mp (moved.nodup_iff.mp apart)
    refine ih _ (insertExport_ascending q _ sorted fun mem => split.1 (List.mem_append_left _ mem)) ?_
    exact (((waitingSeqs_insertExport q _).append_right _).nodup_iff).mpr (moved.nodup_iff.mp apart)

/-- A full list gives its oldest entry to the Export Queue (R186, step 2). -/
theorem pushEntry_full (serial : Serial) (oldest : Entry) (rest : List Entry) (q : List ExportEntry) (e : Entry)
    (full : 12 ≤ (oldest :: rest).length) :
    pushEntry serial (oldest :: rest) q e = (rest ++ [e], insertExport q { serial := serial, entry := oldest }) :=
  if_pos full

theorem pushEntry_short (serial : Serial) (es : List Entry) (q : List ExportEntry) (e : Entry) (short : es.length < 12) :
    pushEntry serial es q e = (es ++ [e], q) := by
  cases es with
  | nil => rfl
  | cons oldest rest => exact if_neg (Nat.not_le.mpr short)

@[simp] theorem entrySeqs_append (es : List Entry) (e : Entry) : entrySeqs (es ++ [e]) = entrySeqs es ++ [e.seq] := by
  simp [entrySeqs]

@[simp] theorem entrySeqs_cons (e : Entry) (es : List Entry) : entrySeqs (e :: es) = e.seq :: entrySeqs es := rfl

/-- An entry that joins a record's list adds its number to those of the list and of the queue (R186). -/
theorem pushEntry_numbers (serial : Serial) (es : List Entry) (q : List ExportEntry) (e : Entry) :
    (waitingSeqs (pushEntry serial es q e).2 ++ entrySeqs (pushEntry serial es q e).1).Perm
      (e.seq :: (waitingSeqs q ++ entrySeqs es)) := by
  have joins (xs : List Entry) : (waitingSeqs q ++ entrySeqs (xs ++ [e])).Perm (e.seq :: (waitingSeqs q ++ entrySeqs xs)) := by
    rw [entrySeqs_append, ← List.append_assoc]
    exact List.perm_append_singleton _ _
  by_cases full : es.length < 12
  · rw [pushEntry_short serial es q e full]
    exact joins es
  · cases es with
    | nil => simp at full
    | cons oldest rest =>
      rw [pushEntry_full serial oldest rest q e (Nat.not_lt.mp full)]
      calc waitingSeqs (insertExport q { serial := serial, entry := oldest }) ++ entrySeqs (rest ++ [e])
        |>.Perm ((oldest.seq :: waitingSeqs q) ++ entrySeqs (rest ++ [e])) :=
            (waitingSeqs_insertExport q _).append_right _
        _ |>.Perm (oldest.seq :: e.seq :: (waitingSeqs q ++ entrySeqs rest)) := (joins rest).cons _
        _ |>.Perm (e.seq :: oldest.seq :: (waitingSeqs q ++ entrySeqs rest)) := List.Perm.swap _ _ _
        _ |>.Perm (e.seq :: (waitingSeqs q ++ entrySeqs (oldest :: rest))) := (List.perm_middle.symm).cons _

/-- A list in order of at most 12 entries stays so when a later entry joins it (R186). -/
theorem pushEntry_list (serial : Serial) (es : List Entry) (q : List ExportEntry) (e : Entry)
    (bound : es.length ≤ 12) (sorted : (entrySeqs es).Pairwise (· < ·)) (later : ∀ n ∈ entrySeqs es, n < e.seq) :
    (pushEntry serial es q e).1.length ≤ 12 ∧ (entrySeqs (pushEntry serial es q e).1).Pairwise (· < ·) := by
  have joins (xs : List Entry) (hx : (entrySeqs xs).Pairwise (· < ·)) (hl : ∀ n ∈ entrySeqs xs, n < e.seq) :
      (entrySeqs (xs ++ [e])).Pairwise (· < ·) := by
    rw [entrySeqs_append]
    exact List.pairwise_append.mpr ⟨hx, List.pairwise_singleton _ _, fun n hn m hm =>
      (List.mem_singleton.mp hm) ▸ hl n hn⟩
  by_cases full : es.length < 12
  · rw [pushEntry_short serial es q e full]
    exact ⟨by simpa using full, joins es sorted later⟩
  · cases es with
    | nil => simp at full
    | cons oldest rest =>
      rw [pushEntry_full serial oldest rest q e (Nat.not_lt.mp full)]
      exact ⟨by simpa using bound,
        joins rest (List.pairwise_cons.mp sorted).2 fun n hn => later n (List.mem_cons_of_mem _ hn)⟩

/-- The queue stays in sequence order when an entry joins a record's list (R187). -/
theorem pushEntry_queue_ascending (serial : Serial) (es : List Entry) (q : List ExportEntry) (e : Entry)
    (sorted : (waitingSeqs q).Pairwise (· < ·)) (apart : (waitingSeqs q ++ entrySeqs es).Nodup) :
    (waitingSeqs (pushEntry serial es q e).2).Pairwise (· < ·) := by
  by_cases full : es.length < 12
  · rwa [pushEntry_short serial es q e full]
  · cases es with
    | nil => simp at full
    | cons oldest rest =>
      rw [pushEntry_full serial oldest rest q e (Nat.not_lt.mp full)]
      refine insertExport_ascending q _ sorted fun mem => ?_
      exact (List.nodup_append.mp apart).2.2 _ mem oldest.seq (by simp) rfl

/-! ### Records -/

/-- The invariant of the records as two lists without doubles: the serials and the positions held (R182). -/
theorem recordsInv_iff (h : History) :
    recordsInv h ↔ (h.records.map (·.serial)).Nodup ∧ (h.records.filterMap (·.position)).Nodup := by
  have positions (p q : Option Position) : (p = none ∨ p ≠ q) ↔ ∀ b ∈ p, ∀ b' ∈ q, b ≠ b' := by
    cases p <;> cases q <;> simp
  simp only [recordsInv, positions, List.pairwise_and_iff, List.Nodup, List.pairwise_map, List.pairwise_filterMap]
  rfl

theorem findRecord_serial {h : History} {serial : Serial} {r : WheelsetRecord} (found : findRecord h serial = some r) :
    r.serial = serial := by
  simpa using List.find?_some found

theorem findRecord_mem {h : History} {serial : Serial} {r : WheelsetRecord} (found : findRecord h serial = some r) :
    r ∈ h.records :=
  List.mem_of_find?_eq_some found

/-- Where no serial is held twice, the record of a serial stands at one place, and a replacement takes that place. -/
theorem replaceRecord_split {h : History} (inv : recordsInv h) {r : WheelsetRecord}
    (found : findRecord h r.serial = some r) :
    ∃ before after, h.records = before ++ r :: after ∧ (∀ q ∈ before ++ after, q.serial ≠ r.serial) ∧
      ∀ r' : WheelsetRecord, r'.serial = r.serial → replaceRecord h.records r' = before ++ r' :: after := by
  obtain ⟨-, before, after, records, first⟩ := List.find?_eq_some_iff_append.mp found
  have others : ∀ q ∈ before ++ after, q.serial ≠ r.serial := by
    intro q mem
    rcases List.mem_append.mp mem with early | late
    · simpa using first q early
    · rw [recordsInv, records] at inv
      have tail := (List.pairwise_append.mp inv).2.1
      exact fun same => ((List.pairwise_cons.mp tail).1 q late).1 same.symm
  refine ⟨before, after, records, others, fun r' same => ?_⟩
  have keep : ∀ l : List WheelsetRecord, (∀ q ∈ l, q.serial ≠ r.serial) →
      l.map (fun q => if q.serial = r'.serial then r' else q) = l := fun l hl =>
    (List.map_congr_left fun q mem => by rw [same, if_neg (hl q mem), id]).trans (List.map_id _)
  rw [records, replaceRecord, List.map_append, List.map_cons, if_pos same.symm,
    keep before fun q mem => others q (List.mem_append_left _ mem),
    keep after fun q mem => others q (List.mem_append_right _ mem)]

/-- A position that the record of a serial may take: none, or one that no other record holds (R182). -/
def positionFree (h : History) (serial : Serial) (p : Option Position) : Prop :=
  ∀ x, p = some x → ∀ q ∈ h.records, q.serial ≠ serial → q.position ≠ p

theorem positionFree_none (h : History) (serial : Serial) : positionFree h serial none := fun _ no => nomatch no

/-- The position that a record holds is free for it (R182). -/
theorem positionFree_own {h : History} (inv : recordsInv h) {r : WheelsetRecord} (found : findRecord h r.serial = some r) :
    positionFree h r.serial r.position := by
  intro p holds q mem other same
  obtain ⟨before, after, records, -, -⟩ := replaceRecord_split inv found
  have moved : h.records.Perm (r :: (before ++ after)) := records ▸ List.perm_middle
  have positions := (moved.filterMap (·.position)).nodup_iff.mp ((recordsInv_iff h).mp inv).2
  rw [List.filterMap_cons_some holds] at positions
  refine (List.nodup_cons.mp positions).1 (List.mem_filterMap.mpr ⟨q, ?_, same.trans holds⟩)
  exact (List.mem_cons.mp (moved.mem_iff.mp mem)).resolve_left fun e => other (congrArg _ e)

/-- A record replaced by one of its serial, at a position that is free for it, leaves the records without doubles (R182). -/
theorem recordsInv_replace {h : History} (inv : recordsInv h) {r r' : WheelsetRecord}
    (found : findRecord h r.serial = some r) (same : r'.serial = r.serial) (free : positionFree h r.serial r'.position)
    (q : List ExportEntry) (n : Nat) :
    recordsInv { records := replaceRecord h.records r', exportQueue := q, counter := n } := by
  obtain ⟨before, after, records, others, replaced⟩ := replaceRecord_split inv found
  have old : h.records.Perm (r :: (before ++ after)) := records ▸ List.perm_middle
  have new : (replaceRecord h.records r').Perm (r' :: (before ++ after)) := replaced r' same ▸ List.perm_middle
  obtain ⟨serials, positions⟩ := (recordsInv_iff h).mp inv
  refine (recordsInv_iff _).mpr ⟨(new.map _).nodup_iff.mpr ?_, (new.filterMap _).nodup_iff.mpr ?_⟩
  · rw [List.map_cons, same, ← List.map_cons]
    exact (old.map _).nodup_iff.mp serials
  · have rest : ((before ++ after).filterMap (·.position)).Nodup :=
      ((old.filterMap _).nodup_iff.mp positions).sublist ((List.sublist_cons_self r _).filterMap _)
    cases held : r'.position with
    | none => rwa [List.filterMap_cons_none held]
    | some p =>
      rw [List.filterMap_cons_some held]
      refine List.nodup_cons.mpr ⟨fun mem => ?_, rest⟩
      obtain ⟨x, memx, atp⟩ := List.mem_filterMap.mp mem
      exact free p held x (old.mem_iff.mpr (List.mem_cons_of_mem r memx)) (others x memx) (atp.trans held.symm)

/-- The numbers of the lists of some records. -/
def listedSeqs (rs : List WheelsetRecord) : List Nat := rs.flatMap (fun r => entrySeqs r.entries)

/-- The numbers of a store with one record taken out and put first. -/
theorem storedNumbers_perm (h : History) {r : WheelsetRecord} {others : List WheelsetRecord}
    (records : h.records.Perm (r :: others)) :
    (storedNumbers h).Perm ((waitingSeqs h.exportQueue ++ entrySeqs r.entries) ++ listedSeqs others) := by
  rw [storedNumbers_eq, List.append_assoc]
  exact ((records.flatMap_right _).trans (by rw [List.flatMap_cons, listedSeqs])).append_left _

/-- What the numbers' invariant says of one record's list and of the queue. -/
theorem numbersInv_perm (h : History) {r : WheelsetRecord} {others : List WheelsetRecord}
    (records : h.records.Perm (r :: others)) :
    numbersInv h ↔ (((waitingSeqs h.exportQueue ++ entrySeqs r.entries) ++ listedSeqs others).Nodup ∧
      (∀ n ∈ (waitingSeqs h.exportQueue ++ entrySeqs r.entries) ++ listedSeqs others, n ≤ h.counter) ∧
      (∀ q ∈ r :: others, q.entries.length ≤ 12 ∧ (entrySeqs q.entries).Pairwise (· < ·)) ∧
      (waitingSeqs h.exportQueue).Pairwise (· < ·)) := by
  have numbers := storedNumbers_perm h records
  unfold numbersInv
  simp only [numbers.nodup_iff, numbers.mem_iff, records.mem_iff]
  rfl

/-! ### Append, change, retirement and entering -/

/-- The store after an entry has joined the list of the record `r`, which becomes `r'` otherwise (R186). -/
def appendedHistory (h : History) (r : WheelsetRecord) (e : Entry) (r' : WheelsetRecord) : History :=
  { records := replaceRecord h.records { r' with entries := (pushEntry r.serial r.entries h.exportQueue e).1 }
    exportQueue := (pushEntry r.serial r.entries h.exportQueue e).2
    counter := h.counter + 1 }

/-- The History Store's invariant, over the store alone. -/
def storeInv (h : History) : Prop := recordsInv h ∧ numbersInv h

/-- An append keeps the invariant: the new entry's number is above every number in the store (R185 to R187). -/
theorem storeInv_appended {h : History} (inv : storeInv h) {r r' : WheelsetRecord} {e : Entry}
    (found : findRecord h r.serial = some r) (same : r'.serial = r.serial) (free : positionFree h r.serial r'.position)
    (next : e.seq = h.counter + 1) : storeInv (appendedHistory h r e r') := by
  obtain ⟨records, numbers⟩ := inv
  obtain ⟨before, after, split, -, replaced⟩ := replaceRecord_split records found
  have old : h.records.Perm (r :: (before ++ after)) := split ▸ List.perm_middle
  have new : (appendedHistory h r e r').records.Perm
      ({ r' with entries := (pushEntry r.serial r.entries h.exportQueue e).1 } :: (before ++ after)) := by
    rw [appendedHistory, replaced _ (by exact same)]
    exact List.perm_middle
  refine ⟨recordsInv_replace records found (by exact same) (by exact free) _ _, (numbersInv_perm _ new).mpr ?_⟩
  obtain ⟨nodup, bound, lists, ascending⟩ := (numbersInv_perm h old).mp numbers
  have joined := (pushEntry_numbers r.serial r.entries h.exportQueue e).append_right (listedSeqs (before ++ after))
  have less : ∀ n ∈ (waitingSeqs h.exportQueue ++ entrySeqs r.entries) ++ listedSeqs (before ++ after), n < e.seq :=
    fun n mem => next ▸ Nat.lt_succ_of_le (bound n mem)
  obtain ⟨short, sorted⟩ := lists r List.mem_cons_self
  refine ⟨joined.nodup_iff.mpr (List.nodup_cons.mpr ⟨fun mem => (less _ mem).false, nodup⟩), fun n mem => ?_, fun q mem => ?_, ?_⟩
  · rcases List.mem_cons.mp (joined.mem_iff.mp mem) with rfl | earlier
    · exact next.le
    · exact (bound n earlier).trans (Nat.le_succ _)
  · rcases List.mem_cons.mp mem with rfl | other
    · exact pushEntry_list _ _ _ _ short sorted fun n mem =>
        less n (List.mem_append_left _ (List.mem_append_right _ mem))
    · exact lists q (List.mem_cons_of_mem _ other)
  · exact pushEntry_queue_ascending _ _ _ _ ascending (List.nodup_append.mp nodup).1

/-- A change of a record's fields but serial, position and list keeps the invariant (R183). -/
theorem storeInv_changed {h : History} (inv : storeInv h) {r r' : WheelsetRecord}
    (found : findRecord h r.serial = some r) (same : r'.serial = r.serial) (position : r'.position = r.position)
    (entries : r'.entries = r.entries) : storeInv { h with records := replaceRecord h.records r' } := by
  obtain ⟨records, numbers⟩ := inv
  obtain ⟨before, after, split, -, replaced⟩ := replaceRecord_split records found
  have old : h.records.Perm (r :: (before ++ after)) := split ▸ List.perm_middle
  have new : (replaceRecord h.records r').Perm (r' :: (before ++ after)) := replaced r' same ▸ List.perm_middle
  refine ⟨recordsInv_replace records found same (position ▸ positionFree_own records found) _ _,
    (numbersInv_perm { h with records := replaceRecord h.records r' } new).mpr ?_⟩
  simpa only [entries, List.forall_mem_cons] using (numbersInv_perm h old).mp numbers

/-- A record's retirement moves its numbers to the queue and keeps the invariant (R197). -/
theorem storeInv_retired {h : History} (inv : storeInv h) {r : WheelsetRecord} (found : findRecord h r.serial = some r) :
    storeInv { h with
      records := h.records.filter (fun q => q.serial != r.serial)
      exportQueue := r.entries.foldl (fun q e => insertExport q { serial := r.serial, entry := e }) h.exportQueue } := by
  obtain ⟨records, numbers⟩ := inv
  obtain ⟨before, after, split, others, -⟩ := replaceRecord_split records found
  have old : h.records.Perm (r :: (before ++ after)) := split ▸ List.perm_middle
  have left : h.records.filter (fun q => q.serial != r.serial) = before ++ after := by
    have stay : (before ++ after).filter (fun q => q.serial != r.serial) = before ++ after :=
      List.filter_eq_self.mpr fun q mem => by simpa using others q mem
    rw [split, List.filter_append, List.filter_cons_of_neg (by simp), ← List.filter_append, stay]
  obtain ⟨nodup, bound, lists, ascending⟩ := (numbersInv_perm h old).mp numbers
  have moved := (waitingSeqs_foldl_insertExport r.serial r.entries h.exportQueue).append_right (listedSeqs (before ++ after))
  rw [left]
  refine ⟨?_, moved.nodup_iff.mpr nodup, fun n mem => bound n (moved.mem_iff.mp mem),
    fun q mem => lists q (List.mem_cons_of_mem _ mem), foldl_insertExport_ascending _ _ _ ascending (List.nodup_append.mp nodup).1⟩
  have sub : (before ++ after).Sublist h.records := by
    rw [split]
    exact (List.Sublist.refl _).append (List.sublist_cons_self _ _)
  exact List.Pairwise.sublist sub records

/-- A new record without entries, of a serial and at a position that no record holds, keeps the invariant (R192). -/
theorem storeInv_entered {h : History} (inv : storeInv h) {r : WheelsetRecord} (fresh : findRecord h r.serial = none)
    (free : positionFree h r.serial r.position) (empty : r.entries = []) :
    storeInv { h with records := h.records ++ [r] } := by
  obtain ⟨records, numbers⟩ := inv
  have others : ∀ q ∈ h.records, q.serial ≠ r.serial := by simpa [findRecord] using fresh
  refine ⟨List.pairwise_append.mpr ⟨records, List.pairwise_singleton _ _, fun q mem x last => ?_⟩, ?_⟩
  · rw [List.mem_singleton.mp last]
    refine ⟨others q mem, or_iff_not_imp_left.mpr fun held same => ?_⟩
    obtain ⟨p, atp⟩ := Option.ne_none_iff_exists'.mp held
    exact free p (same ▸ atp) q mem (others q mem) same
  · have same : storedNumbers { h with records := h.records ++ [r] } = storedNumbers h := by
      simp [storedNumbers, empty]
    obtain ⟨nodup, bound, lists, ascending⟩ := numbers
    refine ⟨same ▸ nodup, same ▸ bound, fun q mem => ?_, ascending⟩
    rcases List.mem_append.mp mem with old | new
    · exact lists q old
    · rw [List.mem_singleton.mp new, empty]
      exact ⟨by simp, List.Pairwise.nil⟩

/-- The queue without its head entry (R191). -/
theorem storeInv_taken {h : History} (inv : storeInv h) {e : ExportEntry} {rest : List ExportEntry}
    (waiting : h.exportQueue = e :: rest) : storeInv { h with exportQueue := rest } := by
  obtain ⟨records, nodup, bound, lists, ascending⟩ := inv
  have numbers : storedNumbers h = e.entry.seq :: storedNumbers { h with exportQueue := rest } := by
    simp [storedNumbers, waiting]
  rw [numbers] at nodup bound
  rw [waiting] at ascending
  exact ⟨records, (List.nodup_cons.mp nodup).2, fun n mem => bound n (List.mem_cons_of_mem _ mem), lists,
    (List.pairwise_cons.mp ascending).2⟩

end Sys2Proof.Machine

/-! What the operations inside an event keep: the bounds of the link, the attention queue, the insert counts, the lamp table
and the History Store (chapters 1, 3, 5 and 10), and what they tell the stations (R184). -/

namespace Sys2Proof.Machine

/-! ### The relation -/

/-- What every operation inside an event makes of a state, but for the store's own invariant: no occupant changes, no record
is removed or unflagged, and each change to an occupant's record is told to its station (R156, R183 to R185). -/
structure Tells (s t : State) : Prop where
  link : linkInv s → linkInv t
  attention : attentionInv s → attentionInv t
  insert : insertInv s → insertInv t
  panel : panelInv s → panelInv t
  occupant : ∀ st, (t.station st).occupant = (s.station st).occupant
  counter : s.history.counter ≤ t.history.counter
  found : ∀ serial r, findRecord s.history serial = some r →
    ∃ q, findRecord t.history serial = some q ∧ (r.condemned = true → q.condemned = true)
  carried : ∀ st r, Notice.recordChanged st r ∈ s.notices → Notice.recordChanged st r ∈ t.notices
  told : ∀ st r q, (s.station st).occupant = some r.serial → findRecord s.history r.serial = some r →
    findRecord t.history r.serial = some q → q ≠ r → Notice.recordChanged st q ∈ t.notices

/-- What every operation inside an event makes of a state: the store's invariant is kept too (R182, R185 to R187). -/
structure Lawful (s t : State) : Prop extends Tells s t where
  store : historyInv s → historyInv t

/-- What every event makes of a state: as `Lawful`, for events that also change an occupant, retire a record or take a
notice. -/
structure Upholds (s t : State) : Prop where
  link : linkInv s → linkInv t
  attention : attentionInv s → attentionInv t
  insert : insertInv s → insertInv t
  panel : panelInv s → panelInv t
  occupants : occupantInv s → occupantInv t
  store : historyInv s → historyInv t
  counter : s.history.counter ≤ t.history.counter
  flags : ∀ serial, condemnedAt s serial = true → findRecord t.history serial = none ∨ condemnedAt t serial = true
  told : ∀ st r q, (s.station st).occupant = some r.serial → findRecord s.history r.serial = some r →
    findRecord t.history r.serial = some q → q ≠ r → Notice.recordChanged st q ∈ t.notices

theorem Lawful.refl (s : State) : Lawful s s where
  link := id
  attention := id
  insert := id
  panel := id
  occupant _ := rfl
  store := id
  counter := le_rfl
  found _ r found := ⟨r, found, id⟩
  carried _ _ := id
  told _ _ _ _ found same other := absurd (Option.some.inj (same.symm.trans found)) other

theorem Tells.trans {s t u : State} (h : Tells s t) (k : Tells t u) : Tells s u where
  link := k.link ∘ h.link
  attention := k.attention ∘ h.attention
  insert := k.insert ∘ h.insert
  panel := k.panel ∘ h.panel
  occupant st := (k.occupant st).trans (h.occupant st)
  counter := h.counter.trans k.counter
  found serial r found := by
    obtain ⟨q, foundq, flag⟩ := h.found serial r found
    obtain ⟨p, foundp, flag'⟩ := k.found serial q foundq
    exact ⟨p, foundp, flag' ∘ flag⟩
  carried st r mem := k.carried st r (h.carried st r mem)
  told st r q occupant found foundq other := by
    obtain ⟨p, foundp, -⟩ := h.found _ r found
    have serial : p.serial = r.serial := findRecord_serial foundp
    by_cases same : q = p
    · subst same
      exact k.carried st q (h.told st r q occupant found foundp other)
    · exact k.told st p q ((h.occupant st).trans (serial ▸ occupant)) (serial ▸ foundp) (serial ▸ foundq) same

theorem Lawful.trans {s t u : State} (h : Lawful s t) (k : Lawful t u) : Lawful s u :=
  ⟨h.toTells.trans k.toTells, k.store ∘ h.store⟩

theorem condemnedAt_iff (s : State) (serial : Serial) :
    condemnedAt s serial = true ↔ ∃ r, findRecord s.history serial = some r ∧ r.condemned = true := by
  unfold condemnedAt
  cases findRecord s.history serial <;> simp

theorem occupantInv_of_occupants {s t : State} (h : ∀ st, (t.station st).occupant = (s.station st).occupant)
    (inv : occupantInv s) : occupantInv t := by
  have a : t.stations.a.occupant = s.stations.a.occupant := h .A
  have b : t.stations.b.occupant = s.stations.b.occupant := h .B
  rwa [occupantInv, a, b]

theorem Lawful.upholds {s t : State} (h : Lawful s t) : Upholds s t where
  link := h.link
  attention := h.attention
  insert := h.insert
  panel := h.panel
  occupants := occupantInv_of_occupants h.occupant
  store := h.store
  counter := h.counter
  flags serial flagged := by
    obtain ⟨r, found, flag⟩ := (condemnedAt_iff s serial).mp flagged
    obtain ⟨q, foundq, keeps⟩ := h.found serial r found
    exact .inr ((condemnedAt_iff t serial).mpr ⟨q, foundq, keeps flag⟩)
  told := h.told

/-- An event that begins in `s` and runs on from `s'`, a state with the same stations' occupants and the same store. -/
theorem Lawful.upholds_from {s s' t : State} (h : Lawful s' t) (link : linkInv s → linkInv s')
    (attention : attentionInv s → attentionInv s') (insert : insertInv s → insertInv s') (panel : panelInv s → panelInv s')
    (occupant : ∀ st, (s'.station st).occupant = (s.station st).occupant) (history : s'.history = s.history) :
    Upholds s t where
  link := h.link ∘ link
  attention := h.attention ∘ attention
  insert := h.insert ∘ insert
  panel := h.panel ∘ panel
  occupants := occupantInv_of_occupants fun st => (h.occupant st).trans (occupant st)
  store inv := h.store (by rw [historyInv, history]; exact inv)
  counter := history ▸ h.counter
  flags serial flagged := h.upholds.flags serial (by rw [condemnedAt, history]; exact flagged)
  told st r q holds found := h.told st r q ((occupant st).trans holds) (history ▸ found)

/-! ### Updates of the state -/

/-- An update that touches nothing of which the invariants speak but the insert counts, the insert life and the lamp cells. -/
theorem lawful_frame_but {s t : State} (insert : insertInv s → insertInv t) (panel : panelInv s → panelInv t)
    (link : t.link = s.link) (attention : t.attention = s.attention)
    (stations : ∀ st, (t.station st).occupant = (s.station st).occupant) (history : t.history = s.history)
    (notices : s.notices ⊆ t.notices) : Lawful s t where
  link inv := by rwa [linkInv, link]
  attention inv := by rwa [attentionInv, attention]
  insert := insert
  panel := panel
  occupant := stations
  store inv := by rwa [historyInv, history]
  counter := history ▸ le_rfl
  found _ r found := ⟨r, history ▸ found, id⟩
  carried _ _ mem := notices mem
  told _ _ _ _ found same other := absurd (Option.some.inj (same.symm.trans (history ▸ found))) other

/-- An update that touches nothing of which the invariants speak. -/
theorem lawful_frame {s t : State} (link : t.link = s.link) (attention : t.attention = s.attention)
    (settings : t.settings = s.settings) (warnings : t.warnings = s.warnings)
    (stations : ∀ st, (t.station st).occupant = (s.station st).occupant)
    (heads : ∀ h, (t.head h).insertCount = (s.head h).insertCount) (history : t.history = s.history)
    (notices : s.notices ⊆ t.notices) : Lawful s t :=
  lawful_frame_but (fun inv => by simpa only [insertInv, settings, heads] using inv)
    (fun inv => by rwa [panelInv, warnings]) link attention stations history notices

section
variable {s t : State} (h : Lawful s t)
include h

theorem Lawful.setLift (x : Lift) : Lawful s (t.setLift x) :=
  h.trans (lawful_frame rfl rfl rfl rfl (fun _ => rfl) (fun _ => rfl) rfl (List.Subset.refl _))

theorem Lawful.setClamps (x : ClampControl) : Lawful s (t.setClamps x) :=
  h.trans (lawful_frame rfl rfl rfl rfl (fun _ => rfl) (fun _ => rfl) rfl (List.Subset.refl _))

theorem Lawful.setClamp (st : StationId) (x : Clamp) : Lawful s (t.setClamp st x) := h.setClamps _

theorem Lawful.setTimers (x : TimerBank) : Lawful s (t.setTimers x) :=
  h.trans (lawful_frame rfl rfl rfl rfl (fun _ => rfl) (fun _ => rfl) rfl (List.Subset.refl _))

theorem Lawful.setLoop (x : LoopControl) : Lawful s (t.setLoop x) :=
  h.trans (lawful_frame rfl rfl rfl rfl (fun _ => rfl) (fun _ => rfl) rfl (List.Subset.refl _))

theorem Lawful.setZone (x : ZoneMonitor) : Lawful s (t.setZone x) :=
  h.trans (lawful_frame rfl rfl rfl rfl (fun _ => rfl) (fun _ => rfl) rfl (List.Subset.refl _))

theorem Lawful.setClock (x : Stamp) : Lawful s (t.setClock x) :=
  h.trans (lawful_frame rfl rfl rfl rfl (fun _ => rfl) (fun _ => rfl) rfl (List.Subset.refl _))

theorem Lawful.setUptime (x : Nat) : Lawful s (t.setUptime x) :=
  h.trans (lawful_frame rfl rfl rfl rfl (fun _ => rfl) (fun _ => rfl) rfl (List.Subset.refl _))

theorem Lawful.setProfiles (x : ProfileTable) : Lawful s (t.setProfiles x) :=
  h.trans (lawful_frame rfl rfl rfl rfl (fun _ => rfl) (fun _ => rfl) rfl (List.Subset.refl _))

theorem Lawful.setPlanner (x : Planner) : Lawful s (t.setPlanner x) :=
  h.trans (lawful_frame rfl rfl rfl rfl (fun _ => rfl) (fun _ => rfl) rfl (List.Subset.refl _))

theorem Lawful.setTraceUnit (st : StationId) (x : TraceUnit) : Lawful s (t.setTraceUnit st x) :=
  h.trans (lawful_frame rfl rfl rfl rfl (fun _ => rfl) (fun _ => rfl) rfl (List.Subset.refl _))

theorem Lawful.send (ns : List Notice) : Lawful s (send t ns) :=
  h.trans (lawful_frame rfl rfl rfl rfl (fun _ => rfl) (fun _ => rfl) rfl (List.subset_append_left _ _))

theorem Lawful.post (k : AttentionKind) (src : Source) (d : Detail) : Lawful s (post t k src d) := h.send _

theorem Lawful.settle (o : State) : Lawful s (settle o t) := h.send _

theorem Lawful.startChannel (ch : Channel) (ms : Nat) : Lawful s (startChannel t ch ms) := h.setTimers _

theorem Lawful.startTimer (ch : Channel) : Lawful s (startTimer t ch) := h.setTimers _

theorem Lawful.cancelTimer (ch : Channel) : Lawful s (cancelTimer t ch) := h.setTimers _

theorem Lawful.cancelRunning (ch : Channel) : Lawful s (cancelRunning t ch) := by
  unfold Machine.cancelRunning
  split
  · exact h
  · exact h.cancelTimer ch

theorem Lawful.cancelLift : Lawful s (cancelLift t) :=
  (((h.cancelRunning _).cancelRunning _).cancelRunning _).cancelRunning _

/-- A station's record replaced by one of the same occupant. -/
theorem Lawful.setStation (st : StationId) (x : Station) (same : x.occupant = (t.station st).occupant) :
    Lawful s (t.setStation st x) :=
  h.trans (lawful_frame rfl rfl rfl rfl
    (fun st' => by
      by_cases own : st' = st
      · subst own
        exact (congrArg Station.occupant (PerStation.get_set_same t.stations st' x)).trans same
      · exact congrArg Station.occupant (PerStation.get_set_ne t.stations own x))
    (fun _ => rfl) rfl (List.Subset.refl _))

/-- A head's record replaced by one of the same insert pass count. -/
theorem Lawful.setHead (k : HeadId) (x : Head) (same : x.insertCount = (t.head k).insertCount) :
    Lawful s (t.setHead k x) :=
  h.trans (lawful_frame rfl rfl rfl rfl (fun _ => rfl)
    (fun k' => by
      by_cases own : k' = k
      · subst own
        rw [head_setHead_same, same]
      · exact congrArg Head.insertCount (headGet_headSet_ne t.heads.recs own x))
    rfl (List.Subset.refl _))

/-- Head Control's fields replaced, the heads' records kept. -/
theorem Lawful.setHeads (x : HeadControl) (same : x.recs = t.heads.recs) : Lawful s (t.setHeads x) :=
  h.trans (lawful_frame rfl rfl rfl rfl (fun _ => rfl)
    (fun k => congrArg (fun p => (headGet p k).insertCount) same) rfl (List.Subset.refl _))

end

/-! ### Records -/

theorem mem_changedNotices {s : State} {r : WheelsetRecord} {st : StationId}
    (occupant : (s.station st).occupant = some r.serial) : Notice.recordChanged st r ∈ changedNotices s r :=
  List.mem_map.mpr ⟨st, List.mem_filter.mpr ⟨by cases st <;> simp [stationIds], by simp [occupant]⟩, rfl⟩

/-- The record `r` replaced by `r'`, with the notices that tell it (R183, R184, R186). -/
theorem tells_replace {s : State} {k : History} {r r' : WheelsetRecord} (found : findRecord s.history r.serial = some r)
    (same : r'.serial = r.serial) (flag : r.condemned = true → r'.condemned = true)
    (records : k.records = replaceRecord s.history.records r') (counter : s.history.counter ≤ k.counter) :
    Tells s (send (s.setHistory k) (changedNotices s r')) := by
  have find (serial : Serial) : findRecord k serial =
      (findRecord s.history serial).map (fun q => if q.serial = r'.serial then r' else q) := by
    rw [findRecord, records]
    exact find_replaceRecord s.history.records r' serial
  exact {
    link := id
    attention := id
    insert := id
    panel := id
    occupant := fun _ => rfl
    counter := counter
    found := fun serial p foundp => by
      rw [send_history, State.setHistory_history, find, foundp]
      refine ⟨_, rfl, fun flagged => ?_⟩
      dsimp only
      split
      · rename_i hit
        have own : p = r := by
          have : serial = r.serial := (findRecord_serial foundp).symm.trans (hit.trans same)
          exact Option.some.inj (foundp.symm.trans (this ▸ found))
        exact flag (own ▸ flagged)
      · exact flagged
    carried := fun _ _ mem => List.mem_append_left _ mem
    told := fun st p q occupant foundp foundq other => by
      rw [send_history, State.setHistory_history, find, foundp] at foundq
      have hq : q = if p.serial = r'.serial then r' else p := (Option.some.inj foundq).symm
      by_cases hit : p.serial = r'.serial
      · rw [if_pos hit] at hq
        subst hq
        exact List.mem_append_right _ (mem_changedNotices (hit ▸ occupant))
      · exact absurd (hq.trans (if_neg hit)) other }

/-- What a change may do with a record's fields for the store to keep its invariant: the serial stays, CONDEMNED is never
unset. -/
structure GoodChange (upd : WheelsetRecord → WheelsetRecord) (r : WheelsetRecord) : Prop where
  serial : (upd r).serial = r.serial
  condemned : r.condemned = true → (upd r).condemned = true

/-- An append is lawful where the position that it sets is free (R186). -/
theorem Lawful.append {s t : State} (h : Lawful s t) (serial : Serial) (body : EntryBody)
    (upd : WheelsetRecord → WheelsetRecord) (good : ∀ r, findRecord t.history serial = some r → GoodChange upd r)
    (free : historyInv s → ∀ r, findRecord t.history serial = some r →
      positionFree t.history r.serial (upd r).position) : Lawful s (append t serial body upd) := by
  unfold Machine.append
  split
  · exact h
  · rename_i r found
    have own : r.serial = serial := findRecord_serial found
    subst own
    obtain ⟨same, flag⟩ := good r found
    exact ⟨h.toTells.trans (tells_replace (r' := { upd r with
        entries := (pushEntry r.serial r.entries t.history.exportQueue _).1, revision := r.revision + 1 })
      found same flag rfl (Nat.le_succ _)),
      fun inv => storeInv_appended (r' := { upd r with revision := r.revision + 1 }) (h.store inv) found same
        (free inv r found) rfl⟩

/-- An append that leaves the position is lawful. -/
theorem Lawful.append_inPlace {s t : State} (h : Lawful s t) (serial : Serial) (body : EntryBody)
    (upd : WheelsetRecord → WheelsetRecord) (good : ∀ r, GoodChange upd r) (position : ∀ r, (upd r).position = r.position) :
    Lawful s (Machine.append t serial body upd) :=
  h.append serial body upd (fun r _ => good r) fun inv r found => by
    rw [position]
    exact positionFree_own (h.store inv).1 ((findRecord_serial found).symm ▸ found)

/-- A change that leaves the position and the list is lawful (R183). -/
theorem Lawful.changeRecord {s t : State} (h : Lawful s t) (serial : Serial) (upd : WheelsetRecord → WheelsetRecord)
    (good : ∀ r, GoodChange upd r) (position : ∀ r, (upd r).position = r.position)
    (entries : ∀ r, (upd r).entries = r.entries) : Lawful s (changeRecord t serial upd) := by
  unfold Machine.changeRecord
  split
  · exact h
  · rename_i r found
    have own : r.serial = serial := findRecord_serial found
    subst own
    obtain ⟨same, flag⟩ := good r
    exact ⟨h.toTells.trans (tells_replace (r' := { upd r with revision := r.revision + 1 }) found same flag rfl le_rfl),
      fun inv => storeInv_changed (h.store inv) found same (position r) (entries r)⟩

/-! ### Events, requests and notices -/

/-- Conditions with none failing hold all (R9). -/
theorem firstFailing_none_iff {α : Type} {cs : List (Bool × α)} : firstFailing cs = none ↔ ∀ c ∈ cs, c.1 = true := by
  induction cs with
  | nil => simp [firstFailing]
  | cons c cs ih =>
    obtain ⟨ok, x⟩ := c
    cases ok <;> simp [firstFailing, ih]

theorem Upholds.settle {s t : State} (h : Upholds s t) (o : State) : Upholds s (settle o t) where
  link := h.link
  attention := h.attention
  insert := h.insert
  panel := h.panel
  occupants := h.occupants
  store := h.store
  counter := h.counter
  flags := h.flags
  told st r q occupant found foundq other := List.mem_append_left _ (h.told st r q occupant found foundq other)

/-- The Link Interface's fields replaced within its bounds. -/
theorem Upholds.setLink {s t : State} (h : Upholds s t) (x : Link) (keeps : linkInv t → linkInv (t.setLink x)) :
    Upholds s (t.setLink x) where
  link := keeps ∘ h.link
  attention := h.attention
  insert := h.insert
  panel := h.panel
  occupants := h.occupants
  store := h.store
  counter := h.counter
  flags := h.flags
  told := h.told

theorem Upholds.answer {s t : State} (h : Upholds s t) (f : Frame) (b : ReplyBody) : Upholds s (answer t f b) :=
  h.setLink _ fun ⟨queue, counters⟩ => ⟨by rw [State.setLink_link, List.length_tail]; omega, counters⟩

theorem event_upholds {s t : State} {f : State → State} (h : Upholds s (f s)) (e : event s f = .next t) : Upholds s t := by
  cases power : s.powered with
  | true =>
    rw [event_powered s f power] at e
    cases e
    exact h.settle s
  | false =>
    rw [event_unpowered s f power] at e
    cases e
    exact (Lawful.refl s).upholds

theorem serve_upholds {α : Type} {mine : Frame → Bool} {parse : Bytes → Option α} {own : State → α → State × ReplyBody}
    {s : State} (h : ∀ a, Upholds s (own s a).1) : Upholds s (serve mine parse own s) := by
  have stays : Upholds s s := (Lawful.refl s).upholds
  unfold serve
  split
  · exact stays
  · split
    · split
      · split
        · exact stays.answer _ _
        · exact (h _).answer _ _
      · exact stays
    · exact stays.answer _ _

/-- The taking of a notice: what is done then is judged from the state without it. -/
theorem onNotice_upholds {s : State} {p : Notice → Bool} {act : Notice → State → State} (h : ∀ n t, Lawful t (act n t)) :
    Upholds s (onNotice s p act) := by
  unfold onNotice
  split
  · exact (Lawful.refl s).upholds
  · exact (h _ _).upholds_from id id id id (fun _ => rfl) rfl

/-- What the taking of an expiry can come to: nothing where none is to be taken, the notice gone where it is stale, and what
is done then otherwise (R57). -/
theorem onExpiry_cases (s : State) (ch : Channel) (act : State → State) :
    onExpiry s ch act = s ∨ ∃ rest, onExpiry s ch act = s.setNotices rest ∨ onExpiry s ch act = act (s.setNotices rest) := by
  unfold onExpiry onNotice
  split
  · exact .inl rfl
  · rename_i n rest _
    refine .inr ⟨rest, ?_⟩
    beta_reduce
    split
    · split
      · exact .inr rfl
      · exact .inl rfl
    · exact .inl rfl

theorem setNotices_upholds {s : State} {ns : List Notice} {t : State} (h : Lawful (s.setNotices ns) t) : Upholds s t :=
  h.upholds_from id id id id (fun _ => rfl) rfl

theorem onExpiry_upholds {s : State} {ch : Channel} {act : State → State} (h : ∀ t, Lawful t (act t)) :
    Upholds s (onExpiry s ch act) := by
  obtain same | ⟨rest, gone | acted⟩ := onExpiry_cases s ch act
  · rw [same]; exact (Lawful.refl s).upholds
  · rw [gone]; exact setNotices_upholds (.refl _)
  · rw [acted]; exact setNotices_upholds (h _)

end Sys2Proof.Machine

/-! What each block's operations keep, and that every step keeps the bounds, the pairings, the insert counts, the occupants,
the lamp table and the History Store. -/

namespace Sys2Proof.Machine

theorem Lawful.foldl {α : Type} {s : State} {f : State → α → State} (h : ∀ t a, Lawful t (f t a)) (l : List α) {t : State}
    (start : Lawful s t) : Lawful s (l.foldl f t) := by
  induction l generalizing t with
  | nil => exact start
  | cons a as ih => exact ih (start.trans (h t a))

/-! ### The attention queue -/

/-- A posting taken keeps one item for each pairing, its count within 1 to 255 (R10, R11). -/
theorem attentionInv_takePosting {s : State} (inv : attentionInv s) (kind : AttentionKind) (source : Source) (d : Detail)
    (now : Stamp) : attentionInv (s.setAttention (takePosting s.attention now kind source d)) := by
  obtain ⟨apart, counts⟩ := inv
  have pairsIff (i : AttentionItem) : pairs kind source i = true ↔ i.kind = kind ∧ i.source = source := by simp [pairs]
  unfold takePosting
  split
  · refine ⟨List.pairwise_map.mpr (apart.imp fun {i j} h => ?_), fun i mem => ?_⟩
    · have kindOf (x : AttentionItem) : (if pairs kind source x then coalesce now d x else x).kind = x.kind := by
        split <;> rfl
      have sourceOf (x : AttentionItem) : (if pairs kind source x then coalesce now d x else x).source = x.source := by
        split <;> rfl
      rwa [kindOf, kindOf, sourceOf, sourceOf]
    · obtain ⟨j, memj, rfl⟩ := List.mem_map.mp mem
      have := counts j memj
      split
      · simp only [coalesce]
        omega
      · exact this
  · rename_i fresh
    refine ⟨List.pairwise_append.mpr ⟨apart, List.pairwise_singleton _ _, fun i mem j last => ?_⟩, fun i mem => ?_⟩
    · rw [List.mem_singleton.mp last]
      exact fun same => fresh (List.any_eq_true.mpr ⟨i, mem, (pairsIff i).mpr same⟩)
    · rcases List.mem_append.mp mem with old | new
      · exact counts i old
      · rw [List.mem_singleton.mp new]
        exact ⟨le_rfl, by norm_num⟩

theorem attentionInv_filter {s : State} (inv : attentionInv s) (p : AttentionItem → Bool) :
    attentionInv (s.setAttention (s.attention.filter p)) :=
  ⟨inv.1.sublist List.filter_sublist, fun i mem => inv.2 i (List.mem_filter.mp mem).1⟩

/-! ### The settings -/

theorem le_greatestInsertCount (s : State) (h : HeadId) : (s.head h).insertCount ≤ greatestInsertCount s := by
  obtain ⟨st, d⟩ := h
  cases st <;> cases d <;> simp [greatestInsertCount, headIds]

/-- A stored insert life that no count exceeds, at most 200, keeps the insert invariant; another setting leaves the insert
life (R16). -/
theorem insertInv_storeSetting {s : State} (n v : Nat)
    (life : n = 14 → insertInv s → v ≤ 200 ∧ ∀ h, (s.head h).insertCount ≤ v) (inv : insertInv s) :
    insertInv (s.setSettings (storeSetting s.settings n v)) := by
  by_cases hn : n = 14
  · subst hn
    exact life rfl inv
  · have same : (storeSetting s.settings n v).insertLife = s.settings.insertLife := by
      unfold storeSetting
      split <;> first | rfl | exact absurd rfl hn
    unfold insertInv
    rw [State.setSettings_settings, same]
    exact inv

/-! ### The pit loop -/

section
variable {s t : State} (h : Lawful s t)
include h

theorem Lawful.awaitDiscover (w : DiscoveryWait) (ms : Nat) : Lawful s (awaitDiscover t w ms) :=
  (h.setLoop _).startChannel _ _

theorem Lawful.endWait : Lawful s (endWait t) := (h.setLoop _).cancelTimer _

theorem Lawful.stopDiscovery (p : Nat) (o : SegmentOutcome) (localized : Bool) : Lawful s (stopDiscovery t p o localized) :=
  (h.endWait.setLoop _).send _

theorem Lawful.assignRoles (m : PitMap) : Lawful s (assignRoles t m) := h.setLoop _

theorem Lawful.endDiscovery (n : Nat) : Lawful s (endDiscovery t n) := by
  unfold Machine.endDiscovery
  dsimp only
  split
  · exact (h.endWait.setLoop _).assignRoles _
  · exact ((h.endWait.setLoop _).setLoop _).post _ _ _

theorem Lawful.diagnose (p : Nat) : Lawful s (diagnose t p) := (h.setLoop _).awaitDiscover _ _

theorem Lawful.takeFailures (fs : List LoopError) : Lawful s (takeFailures t fs) := by
  unfold Machine.takeFailures
  dsimp only
  split
  · exact (h.setLoop _).post _ _ _
  · exact h.setLoop _

theorem Lawful.startLoopDark : Lawful s (startLoopDark t) := by
  unfold Machine.startLoopDark
  refine (Lawful.setLoop ?_ _).awaitDiscover _ _
  split <;> split <;> simp only [h.send, h, Lawful.cancelTimer]

/-! ### The lift -/

theorem Lawful.enterHolding (reason : HoldReason) (p : Particulars) : Lawful s (enterHolding t reason p) :=
  (h.cancelLift.setLift _).post _ _ _

theorem Lawful.enterLiftFaulted (c : Column) : Lawful s (enterLiftFaulted t c) :=
  ((h.cancelLift.setLift _).post _ _ _).send _

theorem Lawful.enterWarning : Lawful s (enterWarning t) := (h.setLift _).startTimer _

theorem Lawful.offerStep (setpoint : Nat) : Lawful s (offerStep t setpoint) := (h.setLift _).startTimer _

theorem Lawful.enterRaising : Lawful s (enterRaising t) := (h.setLift _).offerStep _

theorem Lawful.enterSettling : Lawful s (enterSettling t) := (h.setLift _).startTimer _

theorem Lawful.stepCheck : Lawful s (stepCheck t) := by
  unfold Machine.stepCheck
  have cancelled := h.cancelTimer .step
  split
  · dsimp only
    split
    · exact cancelled.enterHolding _ _
    · split
      · exact cancelled.enterSettling
      · exact cancelled.offerStep _
  · exact h

theorem Lawful.issueStep (setpoint : Nat) : Lawful s (issueStep t setpoint) := h.setLift _

theorem Lawful.enterLowering : Lawful s (enterLowering t) := ((h.setLift _).issueStep _).startTimer _

theorem Lawful.completionCheck : Lawful s (completionCheck t) := by
  unfold Machine.completionCheck
  split
  · exact h
  · split
    · exact ((h.cancelTimer .pace).setLift _).post _ _ _
    · exact h

theorem Lawful.paceStep : Lawful s (paceStep t) := by
  unfold Machine.paceStep
  dsimp only
  split
  · exact h.enterHolding _ _
  · split
    · exact h.issueStep _
    · exact h.setLift _

theorem Lawful.liftCheck : Lawful s (liftCheck t) := by
  unfold Machine.liftCheck
  split
  case h_1 => exact h.stepCheck
  case h_2 => exact h.completionCheck
  all_goals exact h

/-! ### The clamps -/

theorem Lawful.faultClamp (st : StationId) (cause : ClampCause) : Lawful s (faultClamp t st cause) :=
  ((h.cancelTimer _).setClamp st _).post _ _ _

theorem Lawful.moveClamp (st : StationId) (x : ClampState) : Lawful s (moveClamp t st x) := h.setClamp st _

theorem Lawful.clampReported (st : StationId) (jaw : Jaw) (force holding : Nat) :
    Lawful s (clampReported t st jaw force holding) := by
  have recorded := h.setClamp st (recordClamp (t.clamp st) jaw force holding)
  unfold Machine.clampReported
  dsimp only
  split
  · split
    · exact (recorded.moveClamp st _).cancelTimer _
    · exact recorded
  · split
    · exact (recorded.moveClamp st _).cancelTimer _
    · exact recorded
  · split
    · exact recorded
    · exact (recorded.faultClamp st _).send _
  · exact recorded
  · exact recorded

theorem Lawful.deriveClamp (outs : List (Role × CycleOutcome)) (st : StationId) : Lawful s (deriveClamp outs t st) := by
  unfold Machine.deriveClamp
  dsimp only
  split
  · split
    · exact (h.setClamp st _).moveClamp st _
    · split
      · exact (h.setClamp st _).moveClamp st _
      · exact (h.setClamp st _).faultClamp st _
  all_goals exact (h.setClamp st _).faultClamp st _

/-! ### The heads -/

theorem Lawful.startTask (k : HeadId) (x : HeadTask) : Lawful s (startTask t k x) :=
  (h.setHead k _ (by rfl)).startTimer _

theorem Lawful.takeTaskParked (k : HeadId) (x : HeadTask) : Lawful s (takeTaskParked t k x) := by
  unfold Machine.takeTaskParked
  split
  · exact h
  · split
    · exact h.startTask k x
    · exact h.setHead k _ (by rfl)

theorem Lawful.takeTask (k : HeadId) (x : HeadTask) : Lawful s (takeTask t k x) := by
  unfold Machine.takeTask
  split
  · exact h.takeTaskParked k x
  · exact h.setHead k _ (by rfl)
  · split
    · exact h.startTask k x
    · exact h.setHead k _ (by rfl)
  all_goals exact h

theorem Lawful.cancelHead (k : HeadId) : Lawful s (cancelHead t k) := h.cancelTimer _

theorem Lawful.haltHead (k : HeadId) : Lawful s (haltHead t k) := by
  have dropped := h.setHead k { t.head k with pendingTask := none } rfl
  unfold Machine.haltHead
  dsimp only
  split
  · exact (dropped.setHead k _ (by rfl)).cancelHead k
  · exact dropped

theorem Lawful.withdrawHead (k : HeadId) : Lawful s (withdrawHead t k) := by
  have dropped := h.setHead k { t.head k with pendingTask := none } rfl
  unfold Machine.withdrawHead
  dsimp only
  split
  · exact (dropped.setHead k _ (by rfl)).startTimer _
  · exact dropped

theorem Lawful.faultHead (k : HeadId) (cause : HeadCause) : Lawful s (faultHead t k cause) := by
  unfold Machine.faultHead
  dsimp only
  split
  · exact ((h.cancelHead k).setHead k _ (by rfl)).send _
  · exact (h.cancelHead k).setHead k _ (by rfl)

/-- A pass completion takes the count up to the insert life and no further (R108). -/
theorem Lawful.countPass (k : HeadId) : Lawful s (countPass t k) := by
  have counted (n : Nat) (within : (t.head k).insertCount ≤ t.settings.insertLife → n ≤ t.settings.insertLife) :
      Lawful s (t.setHead k { t.head k with insertCount := n }) := by
    refine h.trans (lawful_frame_but (fun inv => ⟨inv.1, fun k' => ?_⟩) id rfl rfl (fun _ => rfl) rfl (List.Subset.refl _))
    by_cases own : k' = k
    · subst own
      rw [head_setHead_same]
      exact within (inv.2 k')
    · exact (congrArg Head.insertCount (headGet_headSet_ne t.heads.recs own _)).trans_le (inv.2 k')
  unfold Machine.countPass
  dsimp only
  generalize hn : (if decide (t.settings.insertLife ≤ (t.head k).insertCount) = true then (t.head k).insertCount
    else (t.head k).insertCount + 1) = n
  have worn := counted n fun bound => by
    simp only [decide_eq_true_eq] at hn
    split at hn <;> omega
  split
  · exact worn.post _ _ _
  · exact worn

theorem Lawful.handOn (k : HeadId) (ns : List Notice) : Lawful s (handOn t k ns) := by
  unfold Machine.handOn
  split
  · exact h.send _
  · exact h

theorem Lawful.recordCursor (k : HeadId) (c : Option Cursor) : Lawful s (recordCursor t k c) := by
  unfold Machine.recordCursor
  split
  · exact h
  · split
    · exact h.setStation _ _ rfl
    · exact h

end

theorem insertCount_advanceTask (r : Head) (k : Nat) : (advanceTask r k).insertCount = r.insertCount := by
  unfold advanceTask
  split <;> rfl

section
variable {s t : State} (h : Lawful s t)
include h

theorem Lawful.handPass (k : HeadId) (p : Option Nat) : Lawful s (handPass t k p) := by
  cases p with
  | none => exact h
  | some n => exact ((h.setHead k _ (insertCount_advanceTask _ _)).countPass k).handOn k _

theorem Lawful.endTask (k : HeadId) : Lawful s (endTask t k) := by
  unfold Machine.endTask
  split
  · exact h
  · exact (((h.cancelHead k).setHead k _ (by rfl)).handOn k _).startTimer _

theorem Lawful.headProgress (k : HeadId) (before : Option HeadLatest) (r : HeadReadings) :
    Lawful s (headProgress t k before r) := by
  have passed := ((h.handOn k (sampleNotices k (t.head k).task r)).recordCursor k r.cursor).handPass k r.passDone
  unfold Machine.headProgress
  dsimp only
  split
  · split
    · exact (passed.startTimer _).endTask k
    · exact passed.endTask k
  · split
    · exact passed.startTimer _
    · exact passed

theorem Lawful.parkHead (k : HeadId) : Lawful s (parkHead t k) := by
  have parked := (h.cancelHead k).setHead k { t.head k with state := .parked, order := .halt, pendingTask := none } rfl
  unfold Machine.parkHead
  dsimp only
  split
  · exact parked
  · exact parked.takeTask k _

theorem Lawful.headReported (k : HeadId) (r : HeadReadings) : Lawful s (headReported t k r) := by
  have recorded := h.setHead k (recordHead (t.head k) (.head r)) rfl
  have worn : Lawful s (if r.passDone.isSome then Machine.countPass (t.setHead k (recordHead (t.head k) (.head r))) k
      else t.setHead k (recordHead (t.head k) (.head r))) := by
    split
    · exact recorded.countPass k
    · exact recorded
  unfold Machine.headReported
  dsimp only
  split
  case h_5 =>
    split
    · exact worn.parkHead k
    · exact worn
  case h_6 => exact worn
  case h_7 => exact worn
  all_goals exact recorded.headProgress k _ r

theorem Lawful.deriveHead (outs : List (Role × CycleOutcome)) (k : HeadId) : Lawful s (deriveHead outs t k) := by
  unfold Machine.deriveHead
  dsimp only
  split
  · split <;> exact h.setHead k _ (by rfl)
  all_goals exact h.setHead k _ (by rfl)

end

theorem insertCount_recordHead (c : Head) (r : Readings) : (recordHead c r).insertCount = c.insertCount := by
  cases r <;> rfl

/-! ### Plans and traces -/

section
variable {s t : State} (h : Lawful s t)
include h

theorem Lawful.handTask (k : HeadId) (x : HeadTask) : Lawful s (handTask t k x) := (h.setStation _ _ (by rfl)).send _

theorem Lawful.handTasks (st : StationId) (x : Side → HeadTask) : Lawful s (handTasks t st x) :=
  (h.handTask _ _).handTask _ _

theorem Lawful.setShare (st : StationId) (x : Share) : Lawful s (setShare t st x) := by
  unfold Machine.setShare
  split
  · exact h
  · split
    · exact h
    · exact h.setPlanner _

theorem Lawful.becomeTraced (st : StationId) : Lawful s (becomeTraced t st) := h.setStation st _ rfl

theorem Lawful.releaseShare (st : StationId) : Lawful s (releaseShare t st) := by
  unfold Machine.releaseShare
  split
  · exact h
  · have left := h.setStation st { t.station st with plan := none } rfl
    dsimp only
    split
    · exact left
    · split
      · exact (left.setPlanner _).setStation _ _ (by rfl)
      · split
        · exact left.setPlanner _
        · exact left.setPlanner _

theorem Lawful.discardPlan (st : StationId) : Lawful s (discardPlan t st) := by
  unfold Machine.discardPlan
  dsimp only
  split
  · exact ((h.releaseShare st).releaseShare _).becomeTraced _
  · exact h.releaseShare st

theorem Lawful.discardTrace (st : StationId) : Lawful s (discardTrace t st) :=
  (h.setTraceUnit st _).setStation st _ (by rfl)

theorem Lawful.markPart (k : HeadId) : Lawful s (markPart t k) := h.setStation _ _ (by rfl)

end

end Sys2Proof.Machine

namespace Sys2Proof.Machine

/-! ### Changes of a record -/

theorem goodChange_id (r : WheelsetRecord) : GoodChange id r := ⟨rfl, id⟩

theorem goodChange_tracedRecord (tr : StationTrace) (r : WheelsetRecord) : GoodChange (tracedRecord tr) r := ⟨rfl, id⟩

theorem goodChange_finishedRecord (fin : PerSide Geometry) (df : Geometry) (p : Nat) (r : WheelsetRecord) :
    GoodChange (finishedRecord fin df p) r := ⟨rfl, id⟩

theorem goodChange_loweredRecord (x : Station) (r : WheelsetRecord) : GoodChange (loweredRecord x) r := ⟨rfl, id⟩

theorem goodChange_amendRecord (f : AmendFields) (r : WheelsetRecord) : GoodChange (amendRecord f) r :=
  ⟨rfl, fun flagged => by simp [amendRecord, flagged]⟩

section
variable {s t : State} (h : Lawful s t)
include h

/-! ### The ends of operations -/

theorem Lawful.completeTrace (st : StationId) : Lawful s (completeTrace t st) := by
  unfold Machine.completeTrace
  split
  · exact h
  · dsimp only
    have appended (body : EntryBody) (serial : Serial) (u : TraceUnit) :=
      (h.setTraceUnit st u).append_inPlace serial body id goodChange_id fun _ => rfl
    split
    · exact (((appended _ _ _).changeRecord _ _ (goodChange_tracedRecord _) (fun _ => rfl) fun _ => rfl).setStation st _
        (by rfl)).post _ _ _
    · exact ((appended _ _ _).setStation st _ (by rfl)).post _ _ _

theorem Lawful.keepResults (st : StationId) : Lawful s (keepResults t st) :=
  (h.setTraceUnit st _).setStation st _ (by rfl)

theorem Lawful.completeSurvey (st : StationId) : Lawful s (completeSurvey t st) := by
  unfold Machine.completeSurvey
  split
  · exact h
  · exact ((h.keepResults st).setStation st _ (by rfl)).post _ _ _

theorem Lawful.writeCeiling (r : WheelsetRecord) (d : Deferred) (deferred : Bool) :
    Lawful s (writeCeiling t r d deferred) :=
  h.append_inPlace _ _ _ (fun _ => ⟨rfl, id⟩) fun _ => rfl

theorem Lawful.applyDeferred (st : StationId) : Lawful s (applyDeferred t st) := by
  unfold Machine.applyDeferred
  split
  · exact h
  · refine Lawful.setStation ?_ st _ (by rfl)
    split
    · exact h
    · split
      · exact h
      · exact h.writeCeiling _ _ _

theorem Lawful.useSlot (st : StationId) : Lawful s (useSlot t st) := h.setStation st _ rfl

theorem Lawful.interruptCut (st : StationId) (cause : AbandonCause) : Lawful s (interruptCut t st cause) := by
  unfold Machine.interruptCut
  dsimp only
  refine ((((Lawful.setStation ?_ st _ (by rfl)).discardTrace st).releaseShare st).setStation st _ (by rfl)).applyDeferred st
  split
  · exact h
  · exact (h.append_inPlace _ _ id goodChange_id fun _ => rfl).changeRecord _ _ (goodChange_loweredRecord _)
      (fun _ => rfl) fun _ => rfl

theorem Lawful.postInterrupted (st : StationId) (d : Bool) (cause : AbandonCause) (p : PerSide PassProgress) :
    Lawful s (postInterrupted t st d cause p) := h.post _ _ _

end

theorem lawful_partnerCeiling (p : Plan) (st : StationId) (own : Serial) (df : Geometry) (f : Finish) (c : Capture) :
    Lawful f.state (partnerCeiling p st own df f c).state := by
  have start := Lawful.refl f.state
  unfold partnerCeiling
  split
  · dsimp only
    split
    · exact start.useSlot st
    · split
      · exact start.useSlot st
      · split
        · exact (start.useSlot st).setStation _ _ (by rfl)
        · exact (start.writeCeiling _ _ _).useSlot st
  · exact start.useSlot st
  · exact start

theorem lawful_partnerCeilings (p : Plan) (st : StationId) (own : Serial) (df : Geometry) (cs : List Capture) (f : Finish) :
    Lawful f.state (cs.foldl (partnerCeiling p st own df) f).state := by
  induction cs generalizing f with
  | nil => exact .refl _
  | cons c cs ih => exact (lawful_partnerCeiling p st own df f c).trans (ih _)

section
variable {s t : State} (h : Lawful s t)
include h

theorem Lawful.finishCut (st : StationId) (p : Plan) (y : Share) (ws : PerSide WheelPlan) :
    Lawful s (finishCut t st p y ws).1 := by
  unfold Machine.finishCut
  dsimp only
  refine Lawful.post ?_ _ _ _
  refine Lawful.setStation ?_ st _ (by rfl)
  refine Lawful.releaseShare ?_ st
  refine Lawful.setStation ?_ st _ (by rfl)
  refine Lawful.trans ?_ (lawful_partnerCeilings p st _ _ _ _)
  exact (((h.append_inPlace _ _ id goodChange_id fun _ => rfl).useSlot st).changeRecord _ _
    (goodChange_finishedRecord _ _ _) (fun _ => rfl) fun _ => rfl).applyDeferred st

theorem Lawful.beginVerify (st : StationId) : Lawful s (beginVerify t st) := by
  unfold Machine.beginVerify
  dsimp only
  refine Lawful.handTasks ?_ st _
  refine Lawful.setStation ?_ st _ (by rfl)
  exact h.setTraceUnit st _

theorem Lawful.endVerify (st : StationId) : Lawful s (endVerify t st) := by
  have kept := h.keepResults st
  unfold Machine.endVerify
  split
  · exact h
  · dsimp only
    split
    · split
      · exact kept
      · exact kept.finishCut st _ _ _
    · exact (kept.setStation st _ (by rfl)).post _ _ _

theorem Lawful.completeOperation (st : StationId) : Lawful s (completeOperation t st) := by
  unfold Machine.completeOperation
  split
  · exact h.completeTrace st
  · exact h.beginVerify st
  · exact h.endVerify st
  · exact h.completeSurvey st
  · exact h

theorem Lawful.endScanWheel (k : HeadId) : Lawful s (endScanWheel t k) := by
  unfold Machine.endScanWheel
  dsimp only
  split
  · exact h
  · exact (h.setTraceUnit _ _).markPart k

/-! ### The station requests -/

theorem Lawful.pauseStation (st : StationId) (byZone : Bool) : Lawful s (pauseStation t st byZone) :=
  ((h.setStation st _ (by rfl)).send _).post _ _ _

theorem Lawful.handRemainder (op : Operation) (k : HeadId) : Lawful s (handRemainder op t k) := by
  unfold Machine.handRemainder
  split
  · exact h
  · exact h.handTask k _

theorem Lawful.resumeStation (st : StationId) (op : Operation) : Lawful s (resumeStation t st op) := by
  have working := h.setStation st { t.station st with work := resumedState op } rfl
  unfold Machine.resumeStation
  dsimp only
  split
  · exact working.completeOperation st
  · exact Lawful.foldl (fun u k => (Lawful.refl u).handRemainder op k) _ working

theorem Lawful.beginTrace (st : StationId) : Lawful s (beginTrace t st) := by
  unfold Machine.beginTrace
  dsimp only
  refine Lawful.handTasks ?_ st _
  refine Lawful.setStation ?_ st _ (by rfl)
  exact (h.discardPlan st).setTraceUnit st _

theorem Lawful.beginSurvey (st : StationId) (slot : Nat) : Lawful s (beginSurvey t st slot) := by
  unfold Machine.beginSurvey
  dsimp only
  refine Lawful.handTasks ?_ st _
  refine Lawful.setStation ?_ st _ (by rfl)
  exact h.setTraceUnit st _

theorem Lawful.beginCut (p : Plan) (st : StationId) : Lawful s (beginCut p t st) := by
  unfold Machine.beginCut
  dsimp only
  refine Lawful.handTasks ?_ st _
  refine Lawful.setStation ?_ st _ (by rfl)
  exact h

theorem Lawful.beginRecut (st : StationId) (y : Share) (ws : PerSide WheelPlan) (r : Geometry) : Lawful s (beginRecut t st y ws r) := by
  unfold Machine.beginRecut
  dsimp only
  refine Lawful.handTasks ?_ st _
  refine Lawful.setStation ?_ st _ (by rfl)
  exact h.setShare st _

theorem Lawful.dropStale (slot : PlanSlot) (st : StationId) : Lawful s (dropStale slot t st) := by
  unfold Machine.dropStale
  dsimp only
  split
  · exact (h.releaseShare st).becomeTraced st
  · exact h

theorem Lawful.refuseCutStart (slot : PlanSlot) (r : Reason × RefusalDetail) :
    Lawful s (refuseCutStart t slot r).1 := by
  unfold Machine.refuseCutStart
  split
  · exact Lawful.foldl (fun u st => (Lawful.refl u).dropStale slot st) _ h
  · exact h

/-! ### Planning -/

theorem Lawful.condemnRecord (r : WheelsetRecord) (w : Planned) : Lawful s (condemnRecord t r w) := by
  unfold Machine.condemnRecord
  split
  · exact h.append_inPlace _ _ _ (fun _ => ⟨rfl, fun _ => rfl⟩) fun _ => rfl
  · exact h
  · exact h

theorem Lawful.takeOutcome (st : StationId) (slot : Option PlanSlot) (x : Share) : Lawful s (takeOutcome t st slot x) :=
  h.setStation st _ rfl

theorem Lawful.postPlanEnd (st : StationId) (k : PlanKind) (x : Share) : Lawful s (postPlanEnd t st k x) := h.post _ _ _

theorem Lawful.makeSingle (st : StationId) (r : WheelsetRecord) (tr : StationTrace) (w : Planned) :
    Lawful s (makeSingle t st r tr w).1 := by
  have flagged := h.condemnRecord r w
  unfold Machine.makeSingle
  dsimp only
  refine Lawful.postPlanEnd ?_ _ _ _
  split
  · exact flagged.takeOutcome _ _ _
  · exact (flagged.setPlanner _).takeOutcome _ _ _

theorem Lawful.makeJoint (ra : WheelsetRecord) (ta : StationTrace) (wa : Planned) (rb : WheelsetRecord) (tb : StationTrace)
    (wb : Planned) : Lawful s (makeJoint t ra ta wa rb tb wb).1 := by
  have flagged := (h.condemnRecord ra wa).condemnRecord rb wb
  unfold Machine.makeJoint
  dsimp only
  refine (Lawful.postPlanEnd ?_ _ _ _).postPlanEnd _ _ _
  split
  · exact (flagged.takeOutcome _ _ _).takeOutcome _ _ _
  · exact ((flagged.setPlanner _).takeOutcome _ _ _).takeOutcome _ _ _

theorem Lawful.postStale (st : StationId) (k : PlanKind) (f : Option StaleField) (x : Option Share) :
    Lawful s (postStale t st k f x) := by
  unfold Machine.postStale
  split
  · exact h
  · exact h.post _ _ _

theorem Lawful.withdrawShare (st : StationId) (f : StaleField) : Lawful s (withdrawShare t st f) := by
  unfold Machine.withdrawShare
  dsimp only
  refine (Lawful.becomeTraced ?_ st).postStale _ _ _ _
  split
  · exact (h.discardPlan st).postStale _ _ _ _
  · exact h.discardPlan st

/-! ### Entering and fitting records -/

/-- A new record joins the store (R192). -/
theorem Lawful.enter (r : WheelsetRecord) (fresh : findRecord t.history r.serial = none) (empty : r.entries = [])
    (free : historyInv s → positionFree t.history r.serial r.position) :
    Lawful s (t.setHistory { t.history with records := t.history.records ++ [r] }) := by
  have find (serial : Serial) (q : WheelsetRecord) (found : findRecord t.history serial = some q) :
      findRecord { t.history with records := t.history.records ++ [r] } serial = some q := by
    rw [findRecord] at found ⊢
    rw [List.find?_append, found, Option.some_or]
  refine ⟨h.toTells.trans ?_, fun inv => storeInv_entered (h.store inv) fresh (free inv) empty⟩
  exact {
    link := id
    attention := id
    insert := id
    panel := id
    occupant := fun _ => rfl
    counter := le_rfl
    found := fun serial q found => ⟨q, find serial q found, id⟩
    carried := fun _ _ => id
    told := fun _ p q _ found foundq other => absurd (Option.some.inj (foundq.symm.trans (find _ p found))) other }

end

/-- In a store without doubles each record is the one found by its serial. -/
theorem findRecord_of_mem {h : History} (inv : recordsInv h) {r : WheelsetRecord} (mem : r ∈ h.records) :
    findRecord h r.serial = some r := by
  have serials := ((recordsInv_iff h).mp inv).1
  cases found : findRecord h r.serial with
  | none => simpa using List.find?_eq_none.mp found r mem
  | some q => rw [List.inj_on_of_nodup_map serials (findRecord_mem found) mem (findRecord_serial found)]

theorem otherHolder_spec {s : State} {serial : Serial} {p : Option Position} {r : WheelsetRecord}
    (other : otherHolder s serial p = some r) : r ∈ s.history.records ∧ r.position = p ∧ r.serial ≠ serial := by
  obtain ⟨q, rfl, found⟩ := Option.bind_eq_some_iff.mp other
  have holds := List.find?_some found
  simp only [Bool.and_eq_true, beq_iff_eq, bne_iff_ne, ne_eq] at holds
  exact ⟨List.mem_of_find?_eq_some found, holds⟩

/-- Where no other record holds a position, it is free for the serial (R194). -/
theorem positionFree_of_otherHolder_none {s : State} {serial : Serial} {p : Option Position}
    (none : otherHolder s serial p = none) : positionFree s.history serial p := by
  intro x given q mem other held
  subst given
  have no := List.find?_eq_none.mp none q mem
  simp [held, other] at no

/-- A displacement leaves the records of other serials findable, and makes no serial found that was not (R194). -/
theorem findRecord_displace_none {s : State} {r : WheelsetRecord} {cause serial : Serial}
    (fresh : findRecord s.history serial = none) : findRecord (displace s r cause).history serial = none := by
  unfold displace
  split
  · exact fresh
  · unfold append
    split
    · exact fresh
    · rw [send_history, State.setHistory_history, findRecord, find_replaceRecord]
      rw [findRecord] at fresh
      rw [fresh]
      rfl

/-- The displacement of the holder of a position frees it (R194). -/
theorem positionFree_displace {s : State} (inv : recordsInv s.history) {serial cause : Serial} {p : Option Position}
    {r : WheelsetRecord} (other : otherHolder s serial p = some r) :
    positionFree (displace s r cause).history serial p := by
  obtain ⟨mem, holds, apart⟩ := otherHolder_spec other
  have found := findRecord_of_mem inv mem
  intro x given q memq differs held
  subst given
  unfold displace at memq
  rw [holds] at memq
  dsimp only at memq
  unfold append at memq
  rw [found] at memq
  simp only [send_history, State.setHistory_history, replaceRecord] at memq
  obtain ⟨a, mema, rfl⟩ := List.mem_map.mp memq
  split at held
  · exact nomatch held
  · rename_i differsr
    exact positionFree_own inv found x holds a mema differsr (held.trans holds.symm)

theorem Lawful.displace {s t : State} (h : Lawful s t) (r : WheelsetRecord) (cause : Serial) :
    Lawful s (displace t r cause) := by
  unfold Machine.displace
  split
  · exact h
  · exact h.append _ _ _ (fun _ _ => ⟨rfl, id⟩) fun _ r _ => positionFree_none _ _

/-- The state once another holder of a position has been displaced from it by the record of a serial (R194). -/
def freed (s : State) (serial : Serial) (p : Option Position) : State :=
  match otherHolder s serial p with
  | none => s
  | some r => displace s r serial

theorem freed_alone {s : State} {serial : Serial} {p : Option Position} (alone : otherHolder s serial p = none) :
    freed s serial p = s := by
  simp [freed, alone]

theorem freed_displaced {s : State} {serial : Serial} {p : Option Position} {r : WheelsetRecord}
    (other : otherHolder s serial p = some r) : freed s serial p = displace s r serial := by
  simp [freed, other]

theorem lawful_freed (s : State) (serial : Serial) (p : Option Position) : Lawful s (freed s serial p) := by
  cases other : otherHolder s serial p with
  | none => rw [freed_alone other]; exact .refl s
  | some r => rw [freed_displaced other]; exact (Lawful.refl s).displace r serial

theorem positionFree_freed {s : State} (inv : recordsInv s.history) (serial : Serial) (p : Option Position) :
    positionFree (freed s serial p).history serial p := by
  cases other : otherHolder s serial p with
  | none => rw [freed_alone other]; exact positionFree_of_otherHolder_none other
  | some r => rw [freed_displaced other]; exact positionFree_displace inv other

theorem findRecord_freed_none {s : State} {serial : Serial} (fresh : findRecord s.history serial = none)
    (p : Option Position) : findRecord (freed s serial p).history serial = none := by
  cases other : otherHolder s serial p with
  | none => rwa [freed_alone other]
  | some r => rw [freed_displaced other]; exact findRecord_displace_none fresh

/-- The state once the new record has joined the store (R192). -/
def entered (s : State) (f : EnterFields) : State :=
  (freed s f.serial f.position).setHistory { (freed s f.serial f.position).history with
    records := (freed s f.serial f.position).history.records ++ [newRecord f] }

theorem enterRecord_unplaced {s : State} {f : EnterFields} (unplaced : f.position = none) :
    enterRecord s f = entered s f := by
  unfold enterRecord
  rw [unplaced]
  exact congrArg (fun p => (freed s f.serial p).setHistory { (freed s f.serial p).history with
    records := (freed s f.serial p).history.records ++ [newRecord f] }) unplaced.symm

theorem enterRecord_placed {s : State} {f : EnterFields} {p : Position} (placed : f.position = some p) :
    enterRecord s f = append (entered s f) f.serial (.fitted p none) id := by
  unfold enterRecord
  rw [placed]
  exact congrArg (fun q => append ((freed s f.serial q).setHistory { (freed s f.serial q).history with
    records := (freed s f.serial q).history.records ++ [newRecord f] }) f.serial (.fitted p none) id) placed.symm

theorem lawful_enterRecord {s : State} (f : EnterFields) (fresh : findRecord s.history f.serial = none) :
    Lawful s (enterRecord s f) := by
  have joined : Lawful s (entered s f) := (lawful_freed s f.serial f.position).enter (newRecord f)
    (findRecord_freed_none fresh _) rfl fun inv => positionFree_freed inv.1 _ _
  cases placed : f.position with
  | none => rw [enterRecord_unplaced placed]; exact joined
  | some p => rw [enterRecord_placed placed]; exact joined.append_inPlace _ _ id goodChange_id fun _ => rfl

theorem fitRecord_placed (s : State) (r : WheelsetRecord) (p : Position) :
    fitRecord s r (some p) = append (freed s r.serial (some p)) r.serial (.fitted p r.position)
      (fun x => { x with position := some p }) := rfl

theorem fitRecord_unplaced (s : State) {r : WheelsetRecord} {p : Position} (held : r.position = some p) :
    fitRecord s r none = append s r.serial (.unfitted p none) (fun x => { x with position := none }) := by
  unfold fitRecord
  rw [held]
  rfl

theorem lawful_fitRecord {s : State} (r : WheelsetRecord) (p : Option Position) : Lawful s (fitRecord s r p) := by
  cases p with
  | some q =>
    rw [fitRecord_placed]
    exact (lawful_freed s r.serial (some q)).append _ _ _ (fun _ _ => ⟨rfl, id⟩) fun inv x found => by
      rw [findRecord_serial found]
      exact positionFree_freed inv.1 _ _
  | none =>
    cases held : r.position with
    | some q =>
      rw [fitRecord_unplaced s held]
      exact (Lawful.refl s).append _ _ _ (fun _ _ => ⟨rfl, id⟩) fun _ x _ => positionFree_none _ _
    | none =>
      unfold fitRecord
      rw [held]
      exact .refl s

/-! ### Abandoning and dismounting -/

/-- The withdrawal of the heads takes results out of those under way, and no record-changed notice (R98). -/
theorem Lawful.withdrawHeads {s t : State} (h : Lawful s t) (st : StationId) : Lawful s (withdrawHeads t st) := by
  refine Lawful.send (h.trans ?_) _
  exact {
    link := id
    attention := id
    insert := id
    panel := id
    occupant := fun _ => rfl
    store := id
    counter := le_rfl
    found := fun _ r found => ⟨r, found, id⟩
    carried := fun _ _ mem => List.mem_filter.mpr ⟨mem, rfl⟩
    told := fun _ _ _ _ found same other => absurd (Option.some.inj (same.symm.trans found)) other }

section
variable {s t : State} (h : Lawful s t)
include h

theorem Lawful.abandonOperation (st : StationId) (cause : AbandonCause) : Lawful s (abandonOperation t st cause) := by
  have withdrawn := h.withdrawHeads st
  unfold Machine.abandonOperation
  dsimp only
  split
  · exact h
  · exact ((withdrawn.setTraceUnit st _).setStation st _ (by rfl)).post _ _ _
  · exact ((withdrawn.setTraceUnit st _).setStation st _ (by rfl)).post _ _ _
  · exact ((withdrawn.setTraceUnit st _).setStation st _ (by rfl)).post _ _ _
  · exact (withdrawn.interruptCut st cause).postInterrupted st _ _ _

theorem Lawful.forceAbandon (st : StationId) (cause : AbandonCause) : Lawful s (forceAbandon t st cause) := by
  unfold Machine.forceAbandon
  split
  · exact h.abandonOperation st cause
  · exact h

end

end Sys2Proof.Machine

namespace Sys2Proof.Machine

/-! ### The events that are more than a chain of lawful operations -/

theorem upholds_refl (s : State) : Upholds s s := (Lawful.refl s).upholds

theorem attentionPosting_upholds (i : Nat) (s : State) :
    Upholds s (match nthPosting i s.notices with
      | none => s
      | some (k, src, d, rest) => (s.setNotices rest).setAttention (takePosting s.attention s.clock k src d)) := by
  split
  · exact upholds_refl s
  · exact (Lawful.refl _).upholds_from id (fun inv => attentionInv_takePosting inv _ _ _ _) id id (fun _ => rfl) rfl

theorem setAttention_filter_upholds (s : State) (p : AttentionItem → Bool) :
    Upholds s (s.setAttention (s.attention.filter p)) :=
  (Lawful.refl _).upholds_from id (fun inv => attentionInv_filter inv p) id id (fun _ => rfl) rfl

/-- Settings that keep the insert life. -/
theorem setSettings_upholds (s : State) (g : Settings) (insert : insertInv s → insertInv (s.setSettings g)) :
    Upholds s (s.setSettings g) :=
  (Lawful.refl _).upholds_from id id insert id (fun _ => rfl) rfl

/-- A numeric setting brought into its range keeps the insert invariant (R16). -/
theorem storeSetting_upholds (s : State) (n v : Nat) (above : lowerLimit s n ≤ v) (below : n = 14 → insertInv s → v ≤ 200) :
    Upholds s (s.setSettings (storeSetting s.settings n v)) :=
  setSettings_upholds s _ fun inv => insertInv_storeSetting n v (fun hn inv => ⟨below hn inv, fun h => by
    subst hn
    exact (le_greatestInsertCount s h).trans ((le_max_right _ _).trans above)⟩) inv

theorem greatestInsertCount_le {s : State} {n : Nat} (bound : ∀ h, (s.head h).insertCount ≤ n) : greatestInsertCount s ≤ n := by
  simp [greatestInsertCount, headIds, bound]

theorem lowerLimit_life_le {s : State} (inv : insertInv s) : lowerLimit s 14 ≤ 200 := by
  have := greatestInsertCount_le inv.2
  have := inv.1
  simp only [lowerLimit, settingRange, if_true]
  omega

/-- SETTING WRITE keeps the insert invariant (R16). -/
theorem settingWrite_upholds (s : State) (p : Nat × Nat) :
    Upholds s ((fun (s : State) (p : Nat × Nat) =>
      let lo := lowerLimit s p.1
      let hi := (settingRange p.1).2
      let put := fun (v : Nat) => s.setSettings (storeSetting s.settings p.1 v)
      if p.2 < lo then (put lo, ReplyBody.adjusted (.setting lo))
      else if hi < p.2 then (put hi, .adjusted (.setting hi))
      else (put p.2, .done (.setting p.2))) s p).1 := by
  obtain ⟨n, v⟩ := p
  dsimp only
  split
  · exact storeSetting_upholds s n _ le_rfl fun hn inv => hn ▸ lowerLimit_life_le inv
  · rename_i low
    split
    · by_cases hn : n = 14
      · refine setSettings_upholds s _ fun inv => insertInv_storeSetting n _ (fun _ inv => ?_) inv
        subst hn
        exact ⟨le_rfl, fun h => (inv.2 h).trans inv.1⟩
      · exact setSettings_upholds s _ fun inv => insertInv_storeSetting n _ (fun h => absurd h hn) inv
    · rename_i high
      exact storeSetting_upholds s n v (not_lt.mp low) fun hn _ => by subst hn; exact not_lt.mp high

theorem linkInv_counted (n : Nat) : counted n ≤ 65535 := Nat.min_le_right _ _

theorem discardFrame_upholds (s : State) : Upholds s (discardFrame s) :=
  (upholds_refl s).setLink _ fun ⟨queue, accepted, busy, _⟩ => ⟨queue, accepted, busy, linkInv_counted _⟩

/-- A good frame joins a queue of fewer than four requests, or is counted and answered (R4, R8). -/
theorem deliverFrame_upholds (s : State) (f : Frame) : Upholds s (deliverFrame s f) := by
  unfold deliverFrame
  split
  · have accepted := (upholds_refl s).setLink { s.link with inFrame := false, accepted := counted s.link.accepted }
      fun ⟨queue, _, busy, discarded⟩ => ⟨queue, linkInv_counted _, busy, discarded⟩
    exact accepted.setLink _ id
  · split
    · rename_i room
      exact (upholds_refl s).setLink _ fun ⟨_, _, busy, discarded⟩ =>
        ⟨by rw [State.setLink_link, List.length_append, List.length_singleton]; omega, linkInv_counted _, busy, discarded⟩
    · have busy := (upholds_refl s).setLink { s.link with inFrame := false, busy := counted s.link.busy }
        fun ⟨queue, accepted, _, discarded⟩ => ⟨queue, accepted, linkInv_counted _, discarded⟩
      exact busy.setLink _ id

theorem goodFrame_upholds (s : State) (chars : List RxChar) :
    Upholds s (if receiving s = true ∧ s.link.inFrame = true then
      match received chars with
      | .good f => deliverFrame s f
      | .discarded => s
      | .undecided => s
      else s) := by
  split
  · split
    · exact deliverFrame_upholds s _
    · exact upholds_refl s
    · exact upholds_refl s
  · exact upholds_refl s

theorem refuseWaiting_upholds {s t : State} (h : Upholds s t) : Upholds s (refuseWaiting t) :=
  h.setLink _ fun ⟨_, counters⟩ => ⟨Nat.zero_le _, counters⟩

/-! ### The lamp table -/

theorem length_partCells (v : View) : (partCells v).length = 12 := by
  have lift (x : Option LiftState) : (liftCells x).length = 3 := by
    rcases x with _ | x
    · rfl
    · cases x <;> rfl
  have station (x : Option WorkState) : (stationCells x).length = 2 := by
    rcases x with _ | x
    · rfl
    · cases x <;> rfl
  simp [partCells, lift, station]

/-- A lamp table of sixteen cells stays one (R62). -/
theorem length_lampTable (v : View) (cells : List Lamp) (table : cells.length = 16) : (lampTable v cells).length = 16 := by
  simp [lampTable, length_partCells, table]

@[simp] theorem retone_cells (w : Warnings) (now : Nat) : (retone w now).cells = w.cells := by
  unfold retone
  dsimp only
  split <;> rfl

theorem Lawful.setWarnings {s t : State} (h : Lawful s t) (w : Warnings)
    (cells : t.warnings.cells.length = 16 → w.cells.length = 16) : Lawful s (t.setWarnings w) :=
  h.trans (lawful_frame_but id cells rfl rfl (fun _ => rfl) rfl (List.Subset.refl _))

/-! ### Notices that change a view alone -/

theorem lawful_refreshOwner (s : State) (o : PitOwner) (input : PitInput) : Lawful s (refreshOwner s o input) := by
  cases o with
  | lift => exact (Lawful.refl s).setLift _
  | clamps => exact (Lawful.refl s).setClamps _
  | heads => exact (Lawful.refl s).setHeads _ rfl
  | station st => exact (Lawful.refl s).setStation st _ rfl

theorem tick_upholds (s : State) : Upholds s (tick s) := by
  unfold tick
  split
  · exact (((Lawful.refl s).setUptime _).setTimers _).upholds
  · exact upholds_refl s

theorem idle_upholds (s : State) : Upholds s (idle s) := by
  unfold idle
  split
  · split
    · exact tick_upholds s
    · split
      · exact setNotices_upholds (lawful_refreshOwner _ _ _)
      · exact tick_upholds s
  · exact upholds_refl s

/-! ### Mounting, dismounting and retiring -/

/-- The stations replaced, after lawful operations, where that lets no serial become the occupant of both. -/
theorem Lawful.upholds_setStation {s t : State} (h : Lawful s t) (st : StationId) (x : Station)
    (occupants : occupantInv t → occupantInv (t.setStation st x)) : Upholds s (t.setStation st x) where
  link := h.link
  attention := h.attention
  insert := h.insert
  panel := h.panel
  occupants := occupants ∘ h.upholds.occupants
  store := h.store
  counter := h.counter
  flags := h.upholds.flags
  told := h.told

/-- MOUNT of a serial that is not the other station's occupant (R93). -/
theorem mount_upholds (s : State) (st : StationId) (x : Station) (serial : Serial) (holds : x.occupant = some serial)
    (other : (s.station (otherStation st)).occupant ≠ some serial) : Upholds s (s.setStation st x) := by
  refine (Lawful.refl s).upholds_setStation st x fun _ => ?_
  cases st with
  | A => exact .inr fun same => other (same.symm.trans holds)
  | B => exact .inr fun same => other (same.trans holds)

theorem Lawful.upholds_emptied {s t : State} (h : Lawful s t) (st : StationId) (x : Station) (empty : x.occupant = none) :
    Upholds s (t.setStation st x) := by
  refine h.upholds_setStation st x fun inv => ?_
  cases st with
  | A => exact .inl empty
  | B =>
    by_cases a : t.stations.a.occupant = none
    · exact .inl a
    · exact .inr fun same => a (same.trans empty)

theorem dismount_upholds (s : State) (st : StationId) : Upholds s (dismountStation s st) := by
  unfold dismountStation
  dsimp only
  refine Lawful.upholds_emptied ?_ st _ rfl
  have interrupted : Lawful s (if 0 < (s.station st).reservation then
      postInterrupted (interruptCut s st .host) st true .host (s.station st).progress else s) := by
    split
    · exact ((Lawful.refl s).interruptCut st _).postInterrupted st _ _ _
    · exact .refl s
  have released := (interrupted.discardTrace st).releaseShare st
  split
  · exact (released.releaseShare _).becomeTraced _
  · exact released

theorem findRecord_filter_ne (h : History) (serial other : Serial) (apart : serial ≠ other) :
    (h.records.filter (fun q => q.serial != other)).find? (fun q => q.serial == serial) = findRecord h serial := by
  rw [List.find?_filter, findRecord]
  congr 1
  funext q
  by_cases hq : q.serial = serial
  · simp [hq, apart]
  · simp [hq]

/-- RECORD RETIRE of a record that is no station's occupant (R197). -/
theorem retire_upholds (s : State) (r : WheelsetRecord) (found : findRecord s.history r.serial = some r)
    (free : ∀ st, (s.station st).occupant ≠ some r.serial) : Upholds s (retireRecord s r) where
  link := id
  attention := id
  insert := id
  panel := id
  occupants := id
  store inv := storeInv_retired inv found
  counter := le_rfl
  flags serial flagged := by
    by_cases own : serial = r.serial
    · left
      simp [own, findRecord, retireRecord]
    · right
      obtain ⟨q, foundq, flag⟩ := (condemnedAt_iff s serial).mp flagged
      exact (condemnedAt_iff _ serial).mpr ⟨q, (findRecord_filter_ne s.history _ _ own).trans foundq, flag⟩
  told st p q occupant foundp foundq other := by
    have own : p.serial ≠ r.serial := fun same => free st (same ▸ occupant)
    exact absurd (Option.some.inj (foundq.symm.trans ((findRecord_filter_ne s.history _ _ own).trans foundp))) other

/-! ### Power -/

theorem insertInv_wakeBlocks {s : State} (inv : insertInv s) : insertInv (wakeBlocks s) :=
  ⟨inv.1, fun h => (insertCount_wakeBlocks s h).trans_le (inv.2 h)⟩

theorem linkInv_startLink {s : State} (start : s.link = startLink) : linkInv s := by
  rw [linkInv, start]
  decide

theorem occupant_wakeBlocks (s : State) (st : StationId) :
    ((wakeBlocks s).station st).occupant = (s.station st).occupant := by
  cases st <;> rfl

theorem attentionInv_clockUnset (s : State) (c : Stamp) : attentionInv (s.setAttention (clockUnsetItems c)) := by
  rw [attentionInv, State.setAttention_attention, clockUnsetItems]
  split
  · exact ⟨List.Pairwise.nil, by simp⟩
  · exact ⟨List.pairwise_singleton _ _, by simp⟩

theorem Lawful.recoverStation {s t : State} (h : Lawful s t) (st : StationId) : Lawful s (recoverStation t st) := by
  unfold Machine.recoverStation
  dsimp only
  refine Lawful.send ?_ _
  have recovered (f : State → Station) (same : ∀ u, (f u).occupant = (u.station st).occupant) :
      Lawful s ((if decide (0 < (t.station st).reservation) = true then Machine.interruptCut t st .power else t).setStation st
        (f (if decide (0 < (t.station st).reservation) = true then Machine.interruptCut t st .power else t))) := by
    refine Lawful.setStation ?_ st _ (same _)
    split
    · exact h.interruptCut st _
    · exact h
  split
  · exact (recovered (fun u => { endOperation (u.station st) with
      held := none, recuts := 0, work := if (u.station st).occupant.isSome then .mounted else .vacant }) fun _ => rfl).post _ _ _
  · exact recovered (fun u => { endOperation (u.station st) with
      held := none, recuts := 0, work := if (u.station st).occupant.isSome then .mounted else .vacant }) fun _ => rfl

/-- The controller comes up from a state with the same store, occupants, settings and heads (R26). -/
theorem comeUp_upholds {s s' : State} (history : s'.history = s.history) (stations : s'.stations = s.stations)
    (settings : s'.settings = s.settings) (heads : s'.heads = s.heads) : Upholds s (comeUp s') := by
  have lawful : Lawful ((wakeBlocks s').setAttention (clockUnsetItems s'.clock)) (comeUp s') :=
    ((((Lawful.refl _).recoverStation .A).recoverStation .B).send _).send _
  refine lawful.upholds_from (fun _ => linkInv_startLink rfl) (fun _ => attentionInv_clockUnset _ _) (fun inv => ?_)
    (fun _ => rfl) (fun st => ?_) history
  · have from' : insertInv s' := by
      unfold insertInv State.head
      rw [settings, heads]
      exact inv
    exact (insertInv_wakeBlocks from' : insertInv (wakeBlocks s'))
  · rw [show (((wakeBlocks s').setAttention (clockUnsetItems s'.clock)).station st).occupant =
      (s'.station st).occupant from occupant_wakeBlocks s' st, State.station, stations]
    rfl

theorem powerLoss_upholds (s : State) : Upholds s ((((wakeBlocks s).setPowered false).setClock startClock).setUptime 0) :=
  (Lawful.refl _).upholds_from (fun _ => linkInv_startLink rfl) (fun _ => ⟨List.Pairwise.nil, by simp [wakeBlocks]⟩)
    insertInv_wakeBlocks (fun _ => rfl) (occupant_wakeBlocks s) rfl

end Sys2Proof.Machine

namespace Sys2Proof.Machine

/-! ### Every command -/

theorem onDiscoverExpiry_upholds {s : State} {is : DiscoveryWait → Bool} {act : State → Nat → State}
    (h : ∀ t p, Lawful t (act t p)) : Upholds s (onDiscoverExpiry s is act) := by
  unfold onDiscoverExpiry
  obtain same | ⟨rest, gone | acted⟩ := onExpiry_cases s .discover
    (fun t => if is t.loop.wait then act t (t.loop.discovery.getD 0) else s)
  · rw [same]; exact upholds_refl s
  · rw [gone]; exact setNotices_upholds (.refl _)
  · rw [acted]
    split
    · exact setNotices_upholds (h _ _)
    · exact upholds_refl s

/-- A request whose effect is a chain of lawful operations. -/
theorem request_upholds {α : Type} {mine : Frame → Bool} {parse : Bytes → Option α} {own : State → α → State × ReplyBody}
    {s t : State} (h : ∀ a, Lawful s (own s a).1) (e : event s (serve mine parse own) = .next t) : Upholds s t :=
  event_upholds (serve_upholds fun a => (h a).upholds) e

/-- A notice whose effect is a chain of lawful operations. -/
theorem notice_upholds {s t : State} {p : Notice → Bool} {act : Notice → State → State} (h : ∀ n u, Lawful u (act n u))
    (e : event s (fun s => onNotice s p act) = .next t) : Upholds s t :=
  event_upholds (onNotice_upholds h) e

/-- An expiry whose effect is a chain of lawful operations. -/
theorem expiry_upholds {s t : State} {ch : Channel} {act : State → State} (h : ∀ u, Lawful u (act u))
    (e : event s (fun s => onExpiry s ch act) = .next t) : Upholds s t :=
  event_upholds (onExpiry_upholds h) e

theorem execLoopCycle_upholds {s t : State} {slots : List (Nat × SlotReport)} (e : execLoopCycle slots s = .next t) :
    Upholds s t := by
  refine event_upholds (Lawful.upholds ?_) e
  split
  · have cycled (x : LoopControl) (fs : List LoopError) (ns : List Notice) :=
      (((Lawful.refl s).setLoop x).takeFailures fs).send ns
    dsimp only
    split
    · exact (cycled _ _ _).send _
    · exact cycled _ _ _
  · exact .refl s

theorem execIdentityAnswer_upholds {s t : State} {ok : Bool} {kind : NodeKind} {serial : Word32}
    (e : execIdentityAnswer ok kind serial s = .next t) : Upholds s t := by
  refine event_upholds (Lawful.upholds ?_) e
  split
  · split
    · exact .refl s
    · dsimp only
      split
      · split
        · exact ((Lawful.refl s).setLoop _).diagnose _
        · exact ((Lawful.refl s).setLoop _).endDiscovery _
      · split
        · exact (Lawful.refl s).awaitDiscover _ _
        · exact (Lawful.refl s).stopDiscovery _ _ _
  all_goals exact .refl s

theorem execPowerUp_upholds {s t : State} (e : execPowerUp s = .next t) : Upholds s t := by
  cases e; exact comeUp_upholds rfl rfl rfl rfl

theorem execRestartComeUp_upholds {s t : State} (e : execRestartComeUp s = .next t) : Upholds s t := by
  have e : (if s.powered = true ∧ s.link.restarting = true ∧ s.link.backlog = [] then
    Host.Outcome.next (comeUp s) else .next s) = .next t := e
  split at e <;> cases e
  · exact comeUp_upholds rfl rfl rfl rfl
  · exact upholds_refl s

theorem execPowerLoss_upholds {s t : State} (e : execPowerLoss s = .next t) : Upholds s t := by
  cases e; exact powerLoss_upholds s

theorem execStartMark_upholds {s t : State} (ch : RxChar) (e : execStartMark ch s = .next t) : Upholds s t := by
  refine event_upholds ?_ e
  split
  · exact (upholds_refl s).setLink _ id
  · exact upholds_refl s

theorem execGoodFrameArrival_upholds {s t : State} (chars : List RxChar) (e : execGoodFrameArrival chars s = .next t) : Upholds s t :=
  event_upholds (goodFrame_upholds s chars) e

theorem execFrameDiscard_upholds {s t : State} (chars : List RxChar) (e : execFrameDiscard chars s = .next t) : Upholds s t := by
  refine event_upholds ?_ e
  split
  · exact discardFrame_upholds s
  · exact upholds_refl s

theorem execInterByteTimeout_upholds {s t : State} (e : execInterByteTimeout s = .next t) : Upholds s t := by
  refine event_upholds ?_ e
  split
  · exact discardFrame_upholds s
  · exact upholds_refl s

theorem execReplySent_upholds {s t : State} (e : execReplySent s = .next t) : Upholds s t := by
  refine event_upholds ?_ e
  split
  · exact upholds_refl s
  · exact (upholds_refl s).setLink _ id

theorem execIdentify_upholds {s t : State} (e : execIdentify s = .next t) : Upholds s t :=
  request_upholds (fun _ => .refl s) e

theorem execStatus_upholds {s t : State} (e : execStatus s = .next t) : Upholds s t :=
  request_upholds (fun _ => .refl s) e

theorem execSettingRead_upholds {s t : State} (e : execSettingRead s = .next t) : Upholds s t :=
  request_upholds (fun _ => .refl s) e

theorem execNodeList_upholds {s t : State} (e : execNodeList s = .next t) : Upholds s t :=
  request_upholds (fun _ => .refl s) e

theorem execStationReport_upholds {s t : State} (e : execStationReport s = .next t) : Upholds s t :=
  request_upholds (fun _ => .refl s) e

theorem execSetClock_upholds {s t : State} (e : execSetClock s = .next t) : Upholds s t :=
  request_upholds (fun _ => (Lawful.refl s).setClock _) e

theorem execSettingWrite_upholds {s t : State} (e : execSettingWrite s = .next t) : Upholds s t :=
  event_upholds (serve_upholds (settingWrite_upholds s)) e

theorem execLoopErrorKindsWrite_upholds {s t : State} (e : execLoopErrorKindsWrite s = .next t) : Upholds s t := by
  refine event_upholds (serve_upholds fun k => ?_) e
  exact setSettings_upholds s { s.settings with errorKinds := k } id

theorem execPitMapWrite_upholds {s t : State} (e : execPitMapWrite s = .next t) : Upholds s t := by
  refine event_upholds (serve_upholds fun _ => ?_) e
  split
  · exact upholds_refl s
  · exact setSettings_upholds s { s.settings with pitMap := _ } id

theorem execTakeAttention_upholds {s t : State} (e : execTakeAttention s = .next t) : Upholds s t := by
  refine event_upholds (serve_upholds fun _ => ?_) e
  split
  · exact upholds_refl s
  · exact setAttention_filter_upholds s _

theorem execRestart_upholds {s t : State} (e : execRestart s = .next t) : Upholds s t := by
  refine event_upholds ?_ e
  have served : Upholds s (serve (ofKind 7) parseNone (fun s _ =>
      if pitAtRest s then (s.setLink { s.link with restarting := true }, .done .empty) else refuse s .unsafe_) s) := by
    refine serve_upholds fun _ => ?_
    split
    · exact (upholds_refl s).setLink _ id
    · exact upholds_refl s
  dsimp only
  split
  · exact refuseWaiting_upholds served
  · exact served

theorem execHornMute_upholds {s t : State} (e : execHornMute s = .next t) : Upholds s t := by
  have refl := Lawful.refl s
  refine request_upholds (fun _ => ?_) e
  exact refl.setWarnings (retone { s.warnings with muted := true } s.uptime) fun table =>
    (congrArg List.length (retone_cells _ _)).trans table

theorem execPanelSet_upholds {s t : State} (e : execPanelSet s = .next t) : Upholds s t :=
  request_upholds (fun vs => (Lawful.refl s).setWarnings _ (length_panelCells _ vs).trans) e

theorem execLoopStart_upholds {s t : State} (e : execLoopStart s = .next t) : Upholds s t := by
  have refl := Lawful.refl s
  refine request_upholds (fun _ => ?_) e
  split
  · exact refl
  · exact refl.startLoopDark

theorem execMapAdopt_upholds {s t : State} (e : execMapAdopt s = .next t) : Upholds s t := by
  refine event_upholds (serve_upholds fun _ => ?_) e
  split
  · exact upholds_refl s
  · split
    · exact ((Lawful.refl _).assignRoles _).upholds_from id id id id (fun _ => rfl) rfl
    · exact upholds_refl s

theorem execLiftRaise_upholds {s t : State} (e : execLiftRaise s = .next t) : Upholds s t := by
  have refl := Lawful.refl s
  refine request_upholds (fun _ => ?_) e
  split
  · exact refl
  · exact (refl.setLift _).enterWarning

theorem execLiftLower_upholds {s t : State} (e : execLiftLower s = .next t) : Upholds s t := by
  have refl := Lawful.refl s
  refine request_upholds (fun _ => ?_) e
  split
  · exact refl
  · exact (refl.setLift _).enterWarning

theorem execLiftResume_upholds {s t : State} (e : execLiftResume s = .next t) : Upholds s t := by
  have refl := Lawful.refl s
  refine request_upholds (fun _ => ?_) e
  split
  · exact refl
  · exact refl.enterWarning

theorem execLiftStop_upholds {s t : State} (e : execLiftStop s = .next t) : Upholds s t := by
  have refl := Lawful.refl s
  refine request_upholds (fun _ => ?_) e
  split
  · exact refl.enterHolding _ _
  · exact refl

theorem execClampClose_upholds {s t : State} (e : execClampClose s = .next t) : Upholds s t := by
  have refl := Lawful.refl s
  refine request_upholds (fun st => ?_) e
  split
  · exact refl
  · exact (refl.moveClamp st _).startTimer _

theorem execClampOpen_upholds {s t : State} (e : execClampOpen s = .next t) : Upholds s t := by
  have refl := Lawful.refl s
  refine request_upholds (fun st => ?_) e
  split
  · exact refl
  · exact (refl.moveClamp st _).startTimer _

theorem execMount_upholds {s t : State} (e : execMount s = .next t) : Upholds s t := by
  refine event_upholds (serve_upholds fun f => ?_) e
  split
  · exact upholds_refl s
  · rename_i met
    refine mount_upholds s f.1 _ f.2 rfl ?_
    have apart := firstFailing_none_iff.mp met ((s.station (otherStation f.1)).occupant != some f.2, .alreadyMounted)
      (by simp [mountConditions])
    simpa using apart

theorem execDismount_upholds {s t : State} (e : execDismount s = .next t) : Upholds s t := by
  refine event_upholds (serve_upholds fun st => ?_) e
  split
  · exact upholds_refl s
  · exact dismount_upholds s st

theorem execStationPause_upholds {s t : State} (e : execStationPause s = .next t) : Upholds s t := by
  have refl := Lawful.refl s
  refine request_upholds (fun st => ?_) e
  split
  · exact refl.pauseStation st _
  · exact refl

theorem execStationResume_upholds {s t : State} (e : execStationResume s = .next t) : Upholds s t := by
  have refl := Lawful.refl s
  refine request_upholds (fun st => ?_) e
  split
  · exact refl
  · split
    · exact refl
    · exact refl.resumeStation st _

theorem execStationAbandon_upholds {s t : State} (e : execStationAbandon s = .next t) : Upholds s t := by
  have refl := Lawful.refl s
  refine request_upholds (fun st => ?_) e
  split
  · exact refl.abandonOperation st _
  · exact refl

theorem execInsertChanged_upholds {s t : State} (e : execInsertChanged s = .next t) : Upholds s t := by
  have refl := Lawful.refl s
  refine request_upholds (fun h => ?_) e
  split
  · refine lawful_frame_but (fun inv => ⟨inv.1, fun k => ?_⟩) id rfl rfl (fun _ => rfl) rfl (List.Subset.refl _)
    by_cases own : k = h
    · subst own
      rw [head_setHead_same]
      exact Nat.zero_le _
    · exact (congrArg Head.insertCount (headGet_headSet_ne s.heads.recs own _)).trans_le (inv.2 k)
  · exact refl

theorem execTrace_upholds {s t : State} (e : execTrace s = .next t) : Upholds s t := by
  have refl := Lawful.refl s
  refine request_upholds (fun st => ?_) e
  split
  · exact refl
  · exact refl.beginTrace st

theorem execSurvey_upholds {s t : State} (e : execSurvey s = .next t) : Upholds s t := by
  have refl := Lawful.refl s
  refine request_upholds (fun f => ?_) e
  split
  · exact refl
  · exact refl.beginSurvey _ _

theorem execProfileLoadClear_upholds {s t : State} (e : execProfileLoadClear s = .next t) : Upholds s t := by
  have refl := Lawful.refl s
  refine request_upholds (fun slot => ?_) e
  have emptied : Lawful s (setBuffer s none) := refl.setProfiles _
  dsimp only
  split
  · exact emptied
  · split
    · exact emptied
    · exact emptied.setProfiles _

theorem execProfileLoadFirstPart_upholds {s t : State} (e : execProfileLoadFirstPart s = .next t) : Upholds s t := by
  have refl := Lawful.refl s
  refine request_upholds (fun f => ?_) e
  have emptied : Lawful s (setBuffer s none) := refl.setProfiles _
  dsimp only
  split
  · exact emptied
  · split
    · split
      · exact emptied
      · exact emptied.setProfiles _
    · exact emptied.setProfiles _

theorem execProfileLoadSecondPart_upholds {s t : State} (e : execProfileLoadSecondPart s = .next t) : Upholds s t := by
  have refl := Lawful.refl s
  refine request_upholds (fun f => ?_) e
  have emptied : Lawful s (setBuffer s none) := refl.setProfiles _
  split
  · exact refl
  · split
    · exact refl
    · split
      · exact emptied
      · split
        · exact refl
        · exact emptied.setProfiles _

theorem execProfileRead_upholds {s t : State} (e : execProfileRead s = .next t) : Upholds s t := by
  have refl := Lawful.refl s
  refine request_upholds (fun f => ?_) e
  split
  · exact refl
  · split <;> exact refl

theorem execPlan_upholds {s t : State} (e : execPlan s = .next t) : Upholds s t := by
  have refl := Lawful.refl s
  refine request_upholds (fun st => ?_) e
  split
  · exact refl
  · split
    · exact refl
    · dsimp only
      split
      · exact refl
      · exact refl.makeSingle st _ _ _

theorem execPlanBoth_upholds {s t : State} (e : execPlanBoth s = .next t) : Upholds s t := by
  have refl := Lawful.refl s
  refine request_upholds (fun _ => ?_) e
  split
  · exact refl
  · split
    · dsimp only
      split
      · exact refl
      · exact refl.makeJoint _ _ _ _ _ _
    · exact refl
    · exact refl

theorem execApprove_upholds {s t : State} (e : execApprove s = .next t) : Upholds s t := by
  have refl := Lawful.refl s
  refine request_upholds (fun st => ?_) e
  split
  · split
    · exact refl
    · exact (refl.setShare st _).setStation st _ (by rfl)
  · exact refl

theorem execCutStart_upholds {s t : State} (e : execCutStart s = .next t) : Upholds s t := by
  have refl := Lawful.refl s
  refine request_upholds (fun st => ?_) e
  split
  · split
    · exact refl
    · split
      · exact refl.refuseCutStart _ _
      · exact refl.beginCut _ st
  · exact refl
  · exact refl

theorem execCutStartBoth_upholds {s t : State} (e : execCutStartBoth s = .next t) : Upholds s t := by
  have refl := Lawful.refl s
  refine request_upholds (fun _ => ?_) e
  split
  · split
    · split
      · exact refl.refuseCutStart _ _
      · exact Lawful.foldl (fun u st => (Lawful.refl u).beginCut _ st) _ refl
    · exact refl
  · exact refl
  · exact refl

theorem execAccept_upholds {s t : State} (e : execAccept s = .next t) : Upholds s t := by
  have refl := Lawful.refl s
  refine request_upholds (fun st => ?_) e
  split
  · split
    · exact refl
    · exact (refl.setStation st { s.station st with accepted := true } rfl).finishCut st _ _ _
  · exact refl

theorem execRecut_upholds {s t : State} (e : execRecut s = .next t) : Upholds s t := by
  have refl := Lawful.refl s
  refine request_upholds (fun st => ?_) e
  split
  · exact refl
  · dsimp only
    split
    · exact refl
    · exact refl.beginRecut st _ _ _

theorem execRecordEnter_upholds {s t : State} (e : execRecordEnter s = .next t) : Upholds s t := by
  have refl := Lawful.refl s
  refine request_upholds (fun f => ?_) e
  split
  · exact refl
  · rename_i met
    refine lawful_enterRecord f ?_
    simp only [enterConditions, List.cons_append, firstFailing] at met
    split at met
    · rename_i fresh
      exact Option.isNone_iff_eq_none.mp fresh
    · exact nomatch met

theorem execRecordRead_upholds {s t : State} (e : execRecordRead s = .next t) : Upholds s t := by
  have refl := Lawful.refl s
  refine request_upholds (fun f => ?_) e
  split
  · exact refl
  · split
    · exact refl
    · split <;> exact refl

theorem execRecordFit_upholds {s t : State} (e : execRecordFit s = .next t) : Upholds s t := by
  have refl := Lawful.refl s
  refine request_upholds (fun f => ?_) e
  split
  · exact refl
  · split
    · exact refl
    · split
      · exact refl
      · exact lawful_fitRecord _ _

theorem execRecordAmend_upholds {s t : State} (e : execRecordAmend s = .next t) : Upholds s t := by
  have refl := Lawful.refl s
  refine request_upholds (fun f => ?_) e
  split
  · exact refl
  · split
    · exact refl
    · dsimp only
      split
      · exact refl
      · exact refl.append_inPlace _ _ _ (goodChange_amendRecord f) fun _ => rfl

theorem execRecordRetire_upholds {s t : State} (e : execRecordRetire s = .next t) : Upholds s t := by
  refine event_upholds (serve_upholds fun serial => ?_) e
  split
  · exact upholds_refl s
  · rename_i r found
    split
    · exact upholds_refl s
    · rename_i met
      have own := findRecord_serial found
      subst own
      refine retire_upholds s r found fun st occupant => ?_
      simp only [firstFailing] at met
      split at met
      · rename_i alone
        have mem : st ∈ stationsOf s r.serial :=
          List.mem_filter.mpr ⟨by cases st <;> simp [stationIds], by simp [occupant]⟩
        simp [List.isEmpty_iff.mp alone] at mem
      · exact nomatch met

theorem execExportTake_upholds {s t : State} (e : execExportTake s = .next t) : Upholds s t := by
  refine event_upholds (serve_upholds fun _ => ?_) e
  split
  · exact upholds_refl s
  · rename_i waiting
    exact {
      link := id, attention := id, insert := id, panel := id, occupants := id
      store := fun inv => storeInv_taken inv waiting
      counter := le_rfl
      flags := fun _ flagged => .inr flagged
      told := fun _ _ _ _ found same other => absurd (Option.some.inj (same.symm.trans found)) other }

theorem execClockWrap_upholds {s t : State} (e : execClockWrap s = .next t) : Upholds s t := by
  have refl := Lawful.refl s
  refine event_upholds (Lawful.upholds ?_) e
  split
  · exact (refl.setClock _).post _ _ _
  · exact refl

theorem execClockAdvance_upholds {s t : State} (e : execClockAdvance s = .next t) : Upholds s t := by
  have refl := Lawful.refl s
  refine event_upholds (Lawful.upholds ?_) e
  split
  · exact (refl.setClock _).post _ _ _
  · split <;> exact refl.setClock _

theorem execAttentionPosting_upholds {s t : State} (n : Nat) (e : execAttentionPosting n s = .next t) : Upholds s t := by
  exact event_upholds (attentionPosting_upholds n s) e

theorem execReturnPending_upholds {s t : State} (input : PitInput) (safe : Bool) (e : execReturnPending input safe s = .next t) : Upholds s t := by
  have refl := Lawful.refl s
  refine event_upholds (Lawful.upholds ?_) e
  split
  · split
    · exact refl.setZone _
    · exact refl
  · split
    · exact refl.setZone _
    · exact refl

theorem execBreach_upholds {s t : State} (e : execBreach s = .next t) : Upholds s t := by
  have refl := Lawful.refl s
  refine event_upholds (Lawful.upholds ?_) e
  split
  · exact (refl.setZone _).send _
  · exact refl

theorem execClear_upholds {s t : State} (e : execClear s = .next t) : Upholds s t := by
  have refl := Lawful.refl s
  refine event_upholds (Lawful.upholds ?_) e
  split
  · exact (refl.setZone _).send _
  · exact refl

theorem execChainBreak_upholds {s t : State} (e : execChainBreak s = .next t) : Upholds s t := by
  have refl := Lawful.refl s
  refine event_upholds (Lawful.upholds ?_) e
  split
  · exact (refl.setZone _).send _
  · exact refl

theorem execHealthy_upholds {s t : State} (e : execHealthy s = .next t) : Upholds s t := by
  have refl := Lawful.refl s
  refine event_upholds (Lawful.upholds ?_) e
  split
  · exact (refl.setZone _).send _
  · exact refl

theorem execZoneGateClose_upholds {s t : State} (e : execZoneGateClose s = .next t) : Upholds s t :=
  notice_upholds (fun _ u => (Lawful.refl u).setTimers _) e

theorem execZoneGateOpen_upholds {s t : State} (e : execZoneGateOpen s = .next t) : Upholds s t :=
  notice_upholds (fun _ u => (Lawful.refl u).setTimers _) e

theorem execTimerExpiry_upholds {s t : State} (ch : Channel) (e : execTimerExpiry ch s = .next t) : Upholds s t := by
  have refl := Lawful.refl s
  refine event_upholds (Lawful.upholds ?_) e
  dsimp only
  split
  · exact (refl.setTimers _).send _
  · exact refl

theorem execWarnExpiry_upholds {s t : State} (e : execWarnExpiry s = .next t) : Upholds s t := by
  refine expiry_upholds (fun u => ?_) e
  split
  · split
    · exact (Lawful.refl u).enterRaising
    · exact (Lawful.refl u).enterLowering
  · exact .refl u

theorem execStepExpiry_upholds {s t : State} (e : execStepExpiry s = .next t) : Upholds s t := by
  refine expiry_upholds (fun u => ?_) e
  split
  · exact (Lawful.refl u).enterHolding _ _
  · exact .refl u

theorem execSettleExpiry_upholds {s t : State} (e : execSettleExpiry s = .next t) : Upholds s t := by
  refine expiry_upholds (fun u => ?_) e
  split
  · split
    · exact (Lawful.refl u).enterHolding _ _
    · exact ((Lawful.refl u).setLift _).post _ _ _
  · exact .refl u

theorem execPaceExpiry_upholds {s t : State} (e : execPaceExpiry s = .next t) : Upholds s t := by
  refine expiry_upholds (fun u => ?_) e
  split
  · exact (Lawful.refl u).paceStep
  · exact .refl u

theorem execClampTimerExpiry_upholds {s t : State} (st : StationId) (e : execClampTimerExpiry st s = .next t) : Upholds s t := by
  refine expiry_upholds (fun u => ?_) e
  split
  · exact (Lawful.refl u).faultClamp st _
  · exact .refl u

theorem execHeadTimerExpiry_upholds {s t : State} (h : HeadId) (e : execHeadTimerExpiry h s = .next t) : Upholds s t := by
  refine expiry_upholds (fun u => ?_) e
  split
  · exact (Lawful.refl u).faultHead h _
  · exact .refl u

theorem execDarkHoldExpiry_upholds {s t : State} (e : execDarkHoldExpiry s = .next t) : Upholds s t := by
  exact event_upholds (onDiscoverExpiry_upholds fun u _ => (Lawful.refl u).diagnose 1) e

theorem execDiagnosisTimeout_upholds {s t : State} (e : execDiagnosisTimeout s = .next t) : Upholds s t := by
  exact event_upholds (onDiscoverExpiry_upholds fun u p => (Lawful.refl u).stopDiscovery p _ _) e

theorem execIdentityQueryTimeout_upholds {s t : State} (e : execIdentityQueryTimeout s = .next t) : Upholds s t := by
  exact event_upholds (onDiscoverExpiry_upholds fun u p => ((Lawful.refl u).setLoop _).endDiscovery _) e

theorem execSegmentDiagnosis_upholds {s t : State} (outcome : SegmentOutcome) (localized : Bool) (e : execSegmentDiagnosis outcome localized s = .next t) : Upholds s t := by
  have refl := Lawful.refl s
  refine event_upholds (Lawful.upholds ?_) e
  split
  · dsimp only
    split
    · exact (refl.setLoop _).awaitDiscover _ _
    · exact refl.stopDiscovery _ _ _
  · exact refl

theorem execLoopDownNotice_upholds {s t : State} (owner : LoopOwner) (e : execLoopDownNotice owner s = .next t) : Upholds s t := by
  refine notice_upholds (fun _ u => ?_) e
  cases owner with
  | lift => exact (Lawful.refl u).setLift _
  | clamps => exact (Lawful.refl u).setClamps _
  | heads => exact (Lawful.refl u).setHeads _ rfl

theorem execLiftLoopUp_upholds {s t : State} (e : execLiftLoopUp s = .next t) : Upholds s t := by
  refine notice_upholds (fun _ u => ?_) e
  dsimp only
  split
  · exact (Lawful.refl u).setLift _
  · exact ((Lawful.refl u).setLift _).post _ _ _

theorem execClampLoopUp_upholds {s t : State} (e : execClampLoopUp s = .next t) : Upholds s t := by
  exact notice_upholds (fun n u => (((Lawful.refl u).setClamps _).deriveClamp _ .A).deriveClamp _ .B) e

theorem execHeadLoopUp_upholds {s t : State} (e : execHeadLoopUp s = .next t) : Upholds s t := by
  refine notice_upholds (fun n u => ?_) e
  exact Lawful.foldl (fun v k => (Lawful.refl v).deriveHead _ k) _
    ((Lawful.refl u).setHeads { u.heads with loopUp := true } rfl)

theorem execColumnReport_upholds {s t : State} (c : Column) (e : execColumnReport c s = .next t) : Upholds s t := by
  refine notice_upholds (fun n u => ?_) e
  split
  · exact .refl u
  · exact ((Lawful.refl u).setLift _).liftCheck

theorem execColumnLost_upholds {s t : State} (c : Column) (e : execColumnLost c s = .next t) : Upholds s t := by
  refine notice_upholds (fun _ u => ?_) e
  have recorded := (Lawful.refl u).setLift
    { u.lift with columns := u.lift.columns.set c { u.lift.columns.get c with condition := .lost } }
  dsimp only
  split
  · exact recorded
  · exact recorded
  · exact recorded.post _ _ _
  all_goals exact recorded.enterLiftFaulted c

theorem execColumnRegained_upholds {s t : State} (c : Column) (e : execColumnRegained c s = .next t) : Upholds s t := by
  refine notice_upholds (fun n u => ?_) e
  dsimp only
  split <;> exact (Lawful.refl u).setLift _

theorem execLiftBreachNotice_upholds {s t : State} (e : execLiftBreachNotice s = .next t) : Upholds s t := by
  refine notice_upholds (fun _ u => ?_) e
  dsimp only
  split
  · exact ((Lawful.refl u).setLift _).enterHolding _ _
  · exact (Lawful.refl u).setLift _

theorem execLiftBreakNotice_upholds {s t : State} (e : execLiftBreakNotice s = .next t) : Upholds s t := by
  refine notice_upholds (fun _ u => ?_) e
  dsimp only
  split
  · exact ((Lawful.refl u).setLift _).enterHolding _ _
  · exact (Lawful.refl u).setLift _

theorem execClampReport_upholds {s t : State} (st : StationId) (e : execClampReport st s = .next t) : Upholds s t := by
  refine notice_upholds (fun n u => ?_) e
  split
  · exact (Lawful.refl u).clampReported st _ _ _
  all_goals exact .refl u

theorem execClampBreakNotice_upholds {s t : State} (e : execClampBreakNotice s = .next t) : Upholds s t := by
  refine notice_upholds (fun _ u => ?_) e
  have viewed := (Lawful.refl u).setClamps { u.clamps with view := { u.clamps.view with stop := u.zone.stop } }
  dsimp only
  split
  · split
    · exact (viewed.faultClamp _ _).faultClamp _ _
    · exact viewed.faultClamp _ _
  · split
    · exact viewed.faultClamp _ _
    · exact viewed

theorem execClampLost_upholds {s t : State} (st : StationId) (e : execClampLost st s = .next t) : Upholds s t := by
  refine notice_upholds (fun _ u => ?_) e
  have recorded := (Lawful.refl u).setClamp st { u.clamp st with condition := .lost }
  dsimp only
  split
  · exact recorded.faultClamp st _
  · exact recorded.faultClamp st _
  · exact (recorded.faultClamp st _).send _
  · exact recorded
  · exact recorded

theorem execClampRegained_upholds {s t : State} (st : StationId) (e : execClampRegained st s = .next t) : Upholds s t := by
  refine notice_upholds (fun n u => ?_) e
  dsimp only
  split <;> exact (Lawful.refl u).setClamp st _

theorem execHeadReport_upholds {s t : State} (h : HeadId) (e : execHeadReport h s = .next t) : Upholds s t := by
  refine notice_upholds (fun n u => ?_) e
  split
  · exact (Lawful.refl u).headReported h _
  all_goals exact .refl u

theorem execTaskHanded_upholds {s t : State} (h : HeadId) (e : execTaskHanded h s = .next t) : Upholds s t := by
  refine notice_upholds (fun n u => ?_) e
  split
  · exact (Lawful.refl u).takeTask h _
  · exact .refl u

theorem execHeadBreachNotice_upholds {s t : State} (e : execHeadBreachNotice s = .next t) : Upholds s t := by
  refine notice_upholds (fun _ u => ?_) e
  exact Lawful.foldl (fun v k => (Lawful.refl v).haltHead k) _
    ((Lawful.refl u).setHeads { u.heads with view := { u.heads.view with zone := u.zone.zone } } rfl)

theorem execHaltNotice_upholds {s t : State} (st : StationId) (e : execHaltNotice st s = .next t) : Upholds s t := by
  exact notice_upholds (fun _ u => Lawful.foldl (fun v k => (Lawful.refl v).haltHead k) _ (Lawful.refl u)) e

theorem execHeadBreakNotice_upholds {s t : State} (e : execHeadBreakNotice s = .next t) : Upholds s t := by
  refine notice_upholds (fun _ u => ?_) e
  exact Lawful.foldl (fun v k => (Lawful.refl v).withdrawHead k) _
    ((Lawful.refl u).setHeads { u.heads with view := { u.heads.view with stop := u.zone.stop } } rfl)

theorem execWithdrawNotice_upholds {s t : State} (st : StationId) (e : execWithdrawNotice st s = .next t) : Upholds s t := by
  exact notice_upholds (fun _ u => Lawful.foldl (fun v k => (Lawful.refl v).withdrawHead k) _ (Lawful.refl u)) e

theorem execHeadLost_upholds {s t : State} (h : HeadId) (e : execHeadLost h s = .next t) : Upholds s t := by
  refine notice_upholds (fun _ u => ?_) e
  have recorded := (Lawful.refl u).setHead h { u.head h with condition := .lost } rfl
  dsimp only
  split
  · exact recorded
  · exact recorded.faultHead h _

theorem execHeadRegained_upholds {s t : State} (h : HeadId) (e : execHeadRegained h s = .next t) : Upholds s t := by
  refine notice_upholds (fun n u => ?_) e
  dsimp only
  split
  · exact (Lawful.refl u).setHead h _ (by rfl)
  · exact (Lawful.refl u).setHead h _ (insertCount_recordHead _ _)

theorem execTraceSamples_upholds {s t : State} (h : HeadId) (e : execTraceSamples h s = .next t) : Upholds s t := by
  refine notice_upholds (fun n u => ?_) e
  split
  · dsimp only
    split
    · exact .refl u
    · exact (Lawful.refl u).setTraceUnit _ _
  · exact .refl u

theorem execScanSamples_upholds {s t : State} (h : HeadId) (e : execScanSamples h s = .next t) : Upholds s t := by
  refine notice_upholds (fun n u => ?_) e
  split
  · dsimp only
    split
    · exact .refl u
    · exact (Lawful.refl u).setTraceUnit _ _
  · exact .refl u

theorem execWalkEnd_upholds {s t : State} (h : HeadId) (e : execWalkEnd h s = .next t) : Upholds s t := by
  refine notice_upholds (fun _ u => ?_) e
  dsimp only
  split
  · exact .refl u
  · have marked (x : TraceUnit) := ((Lawful.refl u).setTraceUnit h.station x).markPart h
    split
    · exact (marked _).completeTrace _
    · exact marked _

theorem execPassCompletion_upholds {s t : State} (h : HeadId) (e : execPassCompletion h s = .next t) : Upholds s t := by
  refine notice_upholds (fun n u => ?_) e
  split
  · dsimp only
    split
    · split
      · exact .refl u
      · exact (Lawful.refl u).setStation _ _ (by rfl)
    · exact .refl u
  · exact .refl u

theorem execCutPartComplete_upholds {s t : State} (h : HeadId) (e : execCutPartComplete h s = .next t) : Upholds s t := by
  refine notice_upholds (fun _ u => ?_) e
  split
  · dsimp only
    split
    · exact ((Lawful.refl u).markPart h).beginVerify _
    · exact (Lawful.refl u).markPart h
  · exact .refl u

theorem execScanTaskEnd_upholds {s t : State} (h : HeadId) (e : execScanTaskEnd h s = .next t) : Upholds s t := by
  refine notice_upholds (fun _ u => ?_) e
  have ended := (Lawful.refl u).endScanWheel h
  dsimp only
  split
  · split
    · exact ended.completeSurvey _
    · exact ended.endVerify _
  · exact ended

theorem execStationBreachNotice_upholds {s t : State} (st : StationId) (e : execStationBreachNotice st s = .next t) : Upholds s t := by
  refine notice_upholds (fun _ u => ?_) e
  have viewed := (Lawful.refl u).setStation st
    { u.station st with view := { (u.station st).view with zone := u.zone.zone } } rfl
  dsimp only
  split
  · exact viewed.pauseStation st _
  · exact viewed

theorem execStationBreakNotice_upholds {s t : State} (st : StationId) (e : execStationBreakNotice st s = .next t) : Upholds s t := by
  exact notice_upholds (fun _ u => ((Lawful.refl u).setStation st _ (by rfl)).forceAbandon st _) e

theorem execLiftFaultedNotice_upholds {s t : State} (st : StationId) (e : execLiftFaultedNotice st s = .next t) : Upholds s t :=
  notice_upholds (fun _ u => (Lawful.refl u).forceAbandon st _) e

theorem execClampFailedNotice_upholds {s t : State} (st : StationId) (e : execClampFailedNotice st s = .next t) : Upholds s t :=
  notice_upholds (fun _ u => (Lawful.refl u).forceAbandon st _) e

theorem execHeadFailedNotice_upholds {s t : State} (st : StationId) (e : execHeadFailedNotice st s = .next t) : Upholds s t :=
  notice_upholds (fun _ u => (Lawful.refl u).forceAbandon st _) e

theorem execRecordChangedNotice_upholds {s t : State} (st : StationId) (e : execRecordChangedNotice st s = .next t) : Upholds s t := by
  refine notice_upholds (fun n u => ?_) e
  split
  · split
    · split
      · split
        · exact .refl u
        · exact (Lawful.refl u).withdrawShare st _
      · exact .refl u
      · exact .refl u
    · exact .refl u
  · exact .refl u

theorem execWarningViewNotice_upholds {s t : State} (src : ViewSource) (e : execWarningViewNotice src s = .next t) : Upholds s t := by
  refine notice_upholds (fun n u => ?_) e
  split
  · exact (Lawful.refl u).setWarnings _ fun table => by
      rw [takeView, retone_cells]
      exact length_lampTable _ _ table
  · exact .refl u

theorem execPanelRefresh_upholds {s t : State} (e : execPanelRefresh s = .next t) : Upholds s t := by
  refine event_upholds (Lawful.upholds ?_) e
  exact (Lawful.refl s).setWarnings { s.warnings with shown := s.warnings.cells } id

/-- Every command keeps the invariants and tells the stations (R184). -/
theorem exec_upholds {c : Instr} {s t : State} (e : exec c s = .next t) : Upholds s t := by
  cases c with
  | powerUp => exact execPowerUp_upholds e
  | restartComeUp => exact execRestartComeUp_upholds e
  | powerLoss => exact execPowerLoss_upholds e
  | startMark ch => exact execStartMark_upholds _ e
  | goodFrameArrival chars => exact execGoodFrameArrival_upholds _ e
  | frameDiscard chars => exact execFrameDiscard_upholds _ e
  | interByteTimeout => exact execInterByteTimeout_upholds e
  | replySent => exact execReplySent_upholds e
  | identify => exact execIdentify_upholds e
  | status => exact execStatus_upholds e
  | settingRead => exact execSettingRead_upholds e
  | nodeList => exact execNodeList_upholds e
  | stationReport => exact execStationReport_upholds e
  | setClock => exact execSetClock_upholds e
  | settingWrite => exact execSettingWrite_upholds e
  | loopErrorKindsWrite => exact execLoopErrorKindsWrite_upholds e
  | pitMapWrite => exact execPitMapWrite_upholds e
  | takeAttention => exact execTakeAttention_upholds e
  | restart => exact execRestart_upholds e
  | hornMute => exact execHornMute_upholds e
  | panelSet => exact execPanelSet_upholds e
  | loopStart => exact execLoopStart_upholds e
  | mapAdopt => exact execMapAdopt_upholds e
  | liftRaise => exact execLiftRaise_upholds e
  | liftLower => exact execLiftLower_upholds e
  | liftResume => exact execLiftResume_upholds e
  | liftStop => exact execLiftStop_upholds e
  | clampClose => exact execClampClose_upholds e
  | clampOpen => exact execClampOpen_upholds e
  | mount => exact execMount_upholds e
  | dismount => exact execDismount_upholds e
  | stationPause => exact execStationPause_upholds e
  | stationResume => exact execStationResume_upholds e
  | stationAbandon => exact execStationAbandon_upholds e
  | insertChanged => exact execInsertChanged_upholds e
  | trace => exact execTrace_upholds e
  | survey => exact execSurvey_upholds e
  | profileLoadClear => exact execProfileLoadClear_upholds e
  | profileLoadFirstPart => exact execProfileLoadFirstPart_upholds e
  | profileLoadSecondPart => exact execProfileLoadSecondPart_upholds e
  | profileRead => exact execProfileRead_upholds e
  | plan => exact execPlan_upholds e
  | planBoth => exact execPlanBoth_upholds e
  | approve => exact execApprove_upholds e
  | cutStart => exact execCutStart_upholds e
  | cutStartBoth => exact execCutStartBoth_upholds e
  | accept => exact execAccept_upholds e
  | recut => exact execRecut_upholds e
  | recordEnter => exact execRecordEnter_upholds e
  | recordRead => exact execRecordRead_upholds e
  | recordFit => exact execRecordFit_upholds e
  | recordAmend => exact execRecordAmend_upholds e
  | recordRetire => exact execRecordRetire_upholds e
  | exportTake => exact execExportTake_upholds e
  | clockWrap => exact execClockWrap_upholds e
  | clockAdvance => exact execClockAdvance_upholds e
  | attentionPosting n => exact execAttentionPosting_upholds _ e
  | returnPending input safe => exact execReturnPending_upholds _ _ e
  | breach => exact execBreach_upholds e
  | clear => exact execClear_upholds e
  | chainBreak => exact execChainBreak_upholds e
  | healthy => exact execHealthy_upholds e
  | zoneGateClose => exact execZoneGateClose_upholds e
  | zoneGateOpen => exact execZoneGateOpen_upholds e
  | timerExpiry ch => exact execTimerExpiry_upholds _ e
  | warnExpiry => exact execWarnExpiry_upholds e
  | stepExpiry => exact execStepExpiry_upholds e
  | settleExpiry => exact execSettleExpiry_upholds e
  | paceExpiry => exact execPaceExpiry_upholds e
  | clampTimerExpiry st => exact execClampTimerExpiry_upholds _ e
  | headTimerExpiry h => exact execHeadTimerExpiry_upholds _ e
  | darkHoldExpiry => exact execDarkHoldExpiry_upholds e
  | diagnosisTimeout => exact execDiagnosisTimeout_upholds e
  | identityQueryTimeout => exact execIdentityQueryTimeout_upholds e
  | segmentDiagnosis outcome localized => exact execSegmentDiagnosis_upholds _ _ e
  | identityAnswer ok kind serial => exact execIdentityAnswer_upholds e
  | loopCycle slots => exact execLoopCycle_upholds e
  | loopDownNotice owner => exact execLoopDownNotice_upholds _ e
  | liftLoopUp => exact execLiftLoopUp_upholds e
  | clampLoopUp => exact execClampLoopUp_upholds e
  | headLoopUp => exact execHeadLoopUp_upholds e
  | columnReport c => exact execColumnReport_upholds _ e
  | columnLost c => exact execColumnLost_upholds _ e
  | columnRegained c => exact execColumnRegained_upholds _ e
  | liftBreachNotice => exact execLiftBreachNotice_upholds e
  | liftBreakNotice => exact execLiftBreakNotice_upholds e
  | clampReport st => exact execClampReport_upholds _ e
  | clampBreakNotice => exact execClampBreakNotice_upholds e
  | clampLost st => exact execClampLost_upholds _ e
  | clampRegained st => exact execClampRegained_upholds _ e
  | headReport h => exact execHeadReport_upholds _ e
  | taskHanded h => exact execTaskHanded_upholds _ e
  | headBreachNotice => exact execHeadBreachNotice_upholds e
  | haltNotice st => exact execHaltNotice_upholds _ e
  | headBreakNotice => exact execHeadBreakNotice_upholds e
  | withdrawNotice st => exact execWithdrawNotice_upholds _ e
  | headLost h => exact execHeadLost_upholds _ e
  | headRegained h => exact execHeadRegained_upholds _ e
  | traceSamples h => exact execTraceSamples_upholds _ e
  | scanSamples h => exact execScanSamples_upholds _ e
  | walkEnd h => exact execWalkEnd_upholds _ e
  | passCompletion h => exact execPassCompletion_upholds _ e
  | cutPartComplete h => exact execCutPartComplete_upholds _ e
  | scanTaskEnd h => exact execScanTaskEnd_upholds _ e
  | stationBreachNotice st => exact execStationBreachNotice_upholds _ e
  | stationBreakNotice st => exact execStationBreakNotice_upholds _ e
  | liftFaultedNotice st => exact execLiftFaultedNotice_upholds _ e
  | clampFailedNotice st => exact execClampFailedNotice_upholds _ e
  | headFailedNotice st => exact execHeadFailedNotice_upholds _ e
  | recordChangedNotice st => exact execRecordChangedNotice_upholds _ e
  | warningViewNotice src => exact execWarningViewNotice_upholds _ e
  | panelRefresh => exact execPanelRefresh_upholds e

end Sys2Proof.Machine

namespace Sys2Proof.Machine

/-! ### Every step -/

theorem step_idle {s : State} (waiting : s.pending = []) : step s = .next (idle s) := by
  rw [step, waiting]

theorem step_front {s : State} {c : Instr} {rest : List Instr} (waiting : s.pending = c :: rest) :
    step s = exec c (s.setPending rest) := by
  rw [step, waiting]

/-- A step runs a command or idles, and keeps what both keep. -/
theorem step_upholds {s t : State} (e : step s = .next t) : Upholds s t := by
  cases waiting : s.pending with
  | nil =>
    rw [step_idle waiting] at e
    cases e
    exact idle_upholds s
  | cons c rest =>
    rw [step_front waiting] at e
    obtain ⟨link, attention, insert, panel, occupants, store, counter, flags, told⟩ := exec_upholds e
    exact ⟨link, attention, insert, panel, occupants, store, counter, flags, told⟩

/-- Settles O3: each of the five is one of the things that every event keeps. -/
theorem boundsAndPairingsKept : Obligations.BoundsAndPairingsKept :=
  ⟨fun _ _ inv e => (step_upholds e).link inv, fun _ _ inv e => (step_upholds e).attention inv,
    fun _ _ inv e => (step_upholds e).insert inv, fun _ _ inv e => (step_upholds e).occupants inv,
    fun _ _ inv e => (step_upholds e).panel inv⟩

/-- Settles O4: the store's invariant goes through every append, change, retirement and entering of a record. -/
theorem historyStoreKept : Obligations.HistoryStoreKept :=
  fun _ _ inv e => (step_upholds e).store inv

/-- Settles O5: no append or change unsets CONDEMNED or lowers the counter, and a retirement removes the record. -/
theorem condemnedAndCounterNeverFallBack : Obligations.CondemnedAndCounterNeverFallBack :=
  ⟨fun _ _ serial flagged e => (step_upholds e).flags serial flagged, fun _ _ e => (step_upholds e).counter⟩

/-- Settles O1: the queue's front decides. -/
theorem stepRunsFrontCommand : Obligations.StepRunsFrontCommand :=
  fun _ _ _ waiting => step_front waiting

end Sys2Proof.Machine

/-! The room of the Export Queue and the stations' fit (R96, R97, R147, R156, R184, R187 to R190). -/

namespace Sys2Proof.Machine

/-! ### The two stations -/

theorem otherStation_ne (st : StationId) : otherStation st ≠ st := by cases st <;> decide

@[simp] theorem otherStation_otherStation (st : StationId) : otherStation (otherStation st) = st := by cases st <;> rfl

theorem station_cases (st x : StationId) : x = st ∨ x = otherStation st := by cases st <;> cases x <;> simp [otherStation]

@[simp] theorem station_setStation_same (s : State) (st : StationId) (x : Station) : (s.setStation st x).station st = x :=
  PerStation.get_set_same s.stations st x

theorem station_setStation_ne (s : State) {st o : StationId} (h : o ≠ st) (x : Station) :
    (s.setStation st x).station o = s.station o :=
  PerStation.get_set_ne s.stations h x

@[simp] theorem station_setStation_other (s : State) (st : StationId) (x : Station) :
    (s.setStation st x).station (otherStation st) = s.station (otherStation st) :=
  station_setStation_ne s (otherStation_ne st) x

theorem totalReservation_eq (s : State) (st : StationId) :
    totalReservation s = stationReserved (s.station st) + stationReserved (s.station (otherStation st)) := by
  cases st
  · rfl
  · exact Nat.add_comm _ _

/-! ### Plans and shares -/

@[simp] theorem Planner.get_set_same (p : Planner) (slot : PlanSlot) (x : Option Plan) : (p.set slot x).get slot = x := by
  cases slot <;> rfl

theorem Planner.get_set_ne (p : Planner) {slot other : PlanSlot} (h : other ≠ slot) (x : Option Plan) :
    (p.set slot x).get other = p.get other := by
  cases slot <;> cases other <;> first | rfl | exact absurd rfl h

/-- The plan under a slot's name as a station of the state with that planner finds it. -/
theorem planOf_eq (s : State) (st : StationId) : planOf s st = (s.station st).plan.bind s.planner.get := rfl

theorem shareOf_eq (s : State) (st : StationId) : shareOf s st = (planOf s st).bind (·.shares.get st) := rfl

theorem planOf_none_of_plan {s : State} {st : StationId} (none : (s.station st).plan = none) : planOf s st = .none := by
  rw [planOf_eq, none]; rfl

theorem shareOf_none_of_plan {s : State} {st : StationId} (none : (s.station st).plan = none) : shareOf s st = .none := by
  rw [shareOf_eq, planOf_none_of_plan none]; rfl

/-- The share that a station finds in `t` is the one that it found in `s`, in a plan with the same reservation. -/
def shareKept (s t : State) (st : StationId) : Prop :=
  ∀ p' y, planOf t st = some p' → p'.shares.get st = some y →
    ∃ p, planOf s st = some p ∧ p.shares.get st = some y ∧ cutReservation p' st = cutReservation p st

theorem shareKept_refl (s : State) (st : StationId) : shareKept s s st := fun p _ plan share => ⟨p, plan, share, rfl⟩

theorem shareKept_trans {s t u : State} {st : StationId} (h : shareKept s t st) (k : shareKept t u st) : shareKept s u st := by
  intro p'' y plan share
  obtain ⟨p', plan', share', same'⟩ := k p'' y plan share
  obtain ⟨p, plan, share, same⟩ := h p' y plan' share'
  exact ⟨p, plan, share, same'.trans same⟩

theorem shareKept_of_planOf {s t : State} {st : StationId} (same : planOf t st = planOf s st) : shareKept s t st :=
  fun p _ plan share => ⟨p, same ▸ plan, share, rfl⟩

theorem shareKept_gone {s t : State} {st : StationId} (none : planOf t st = none) : shareKept s t st :=
  fun _ _ plan => nomatch none ▸ plan

theorem shareOf_of_shareKept {s t : State} {st : StationId} (h : shareKept s t st) {y : Share} (share : shareOf t st = some y) :
    shareOf s st = some y := by
  obtain ⟨p', plan, share⟩ := Option.bind_eq_some_iff.mp share
  obtain ⟨p, plan, share, -⟩ := h p' y plan share
  rw [shareOf_eq, plan]
  exact share

/-! ### The release of a share (R147, R148) -/

/-- Where a station has no plan its release changes nothing. -/
theorem releaseShare_planless {s : State} {st : StationId} (none : (s.station st).plan = none) : releaseShare s st = s := by
  rw [releaseShare, none]

/-- A released share's station has no plan reference, and is otherwise as it was. -/
theorem releaseShare_own (s : State) (st : StationId) :
    (releaseShare s st).station st = { s.station st with plan := none } := by
  cases plan : (s.station st).plan with
  | none =>
    rw [releaseShare_planless plan]
    cases h : s.station st
    simp_all
  | some slot =>
    unfold releaseShare
    rw [plan]
    dsimp only
    split
    · exact station_setStation_same _ _ _
    · split
      · rw [station_setStation_ne _ (otherStation_ne st).symm]
        exact station_setStation_same s st _
      · split <;> exact station_setStation_same s st _

/-- The other station keeps all but, where its own share is CONDEMNED, its plan reference. -/
theorem releaseShare_other (s : State) (st : StationId) :
    (releaseShare s st).station (otherStation st) = s.station (otherStation st) ∨
    (releaseShare s st).station (otherStation st) = { s.station (otherStation st) with plan := none } := by
  cases plan : (s.station st).plan with
  | none => rw [releaseShare_planless plan]; exact .inl rfl
  | some slot =>
    unfold releaseShare
    rw [plan]
    dsimp only
    split
    · exact .inl (station_setStation_other _ _ _)
    · split
      · right
        rw [station_setStation_same]
        exact congrArg (fun x : Station => { x with plan := none }) (station_setStation_other s st _)
      · left
        split <;> exact station_setStation_other s st _

/-- The release of a share leaves the other station its share, or takes it away whole (R147, R148). -/
theorem releaseShare_shareKept (s : State) (st : StationId) : shareKept s (releaseShare s st) (otherStation st) := by
  cases plan : (s.station st).plan with
  | none => rw [releaseShare_planless plan]; exact shareKept_refl _ _
  | some slot =>
    unfold releaseShare
    rw [plan]
    dsimp only
    split
    · refine shareKept_of_planOf ?_
      rw [planOf_eq, station_setStation_other, setStation_planner]
      rfl
    · rename_i p found
      split
      · exact shareKept_gone (planOf_none_of_plan (by rw [station_setStation_same]))
      · by_cases here : (s.station (otherStation st)).plan = some slot
        · split
          · refine shareKept_gone ?_
            rw [planOf_eq, State.setPlanner_planner]
            rw [show ((s.setStation st { s.station st with plan := none }).setPlanner (s.planner.set slot none)).station
              (otherStation st) = s.station (otherStation st) from station_setStation_other s st _, here]
            exact Planner.get_set_same _ _ _
          · intro p' y found' share
            rw [planOf_eq, State.setPlanner_planner, show ((s.setStation st { s.station st with plan := none }).setPlanner
              (s.planner.set slot (some { p with shares := p.shares.set st none }))).station
              (otherStation st) = s.station (otherStation st) from station_setStation_other s st _, here] at found'
            have same : some { p with shares := p.shares.set st none } = some p' :=
              (Planner.get_set_same _ _ _).symm.trans found'
            cases same
            refine ⟨p, ?_, ?_, rfl⟩
            · rw [planOf_eq, here]; exact found
            · exact (PerStation.get_set_ne p.shares (otherStation_ne st) none).symm.trans share
        · have kept (x : Option Plan) : shareKept s ((s.setStation st { s.station st with plan := none }).setPlanner
              (s.planner.set slot x)) (otherStation st) := by
            refine shareKept_of_planOf ?_
            rw [planOf_eq, planOf_eq, State.setPlanner_planner, show ((s.setStation st
              { s.station st with plan := none }).setPlanner (s.planner.set slot x)).station (otherStation st) =
              s.station (otherStation st) from station_setStation_other s st _]
            cases plan' : (s.station (otherStation st)).plan with
            | none => rfl
            | some slot' => exact Planner.get_set_ne _ (fun same => here (plan'.trans (congrArg some same))) _
          split <;> exact kept _

end Sys2Proof.Machine

namespace Sys2Proof.Machine

/-! ### A station as its fit and its room see it -/

/-- The fields of a station's record of which `workFits`, `shareFits` and `roomInv` speak, but for its plan reference and its
deferred ceiling. -/
def Station.core (x : Station) :
    WorkState × Option Operation × Option WorkState × Option HeldReason × Nat × Bool :=
  (x.work, x.operation, x.prior, x.held, x.reservation, x.claim)

theorem core_eq_iff (x y : Station) : x.core = y.core ↔ x.work = y.work ∧ x.operation = y.operation ∧ x.prior = y.prior ∧
    x.held = y.held ∧ x.reservation = y.reservation ∧ x.claim = y.claim := by
  simp [Station.core]

/-- One station fits its work state and its share. -/
def fitsAt (s : State) (st : StationId) : Prop := workFits (s.station st) ∧ shareFits s st

/-- A station holds the claim of its trace and the reservation of its cut. -/
def heldAt (s : State) (st : StationId) : Prop :=
  (s.powered = true → (s.station st).operation = some .trace → (s.station st).claim = true) ∧
    (cutUnderWay (s.station st) → 1 ≤ (s.station st).reservation ∧
      ∀ p y, planOf s st = some p → p.shares.get st = some y → cutReservation p st ≤ (s.station st).reservation)

/-- The slots of the Export Queue that are filled or reserved. -/
def roomUsed (s : State) : Nat := s.history.exportQueue.length + totalReservation s

/-- The station stands as it did, with the share that it had or none. -/
structure Rests (s t : State) (st : StationId) : Prop where
  core : (t.station st).core = (s.station st).core
  share : shareKept s t st

theorem Rests.refl (s : State) (st : StationId) : Rests s s st := ⟨rfl, shareKept_refl s st⟩

theorem Rests.trans {s t u : State} {st : StationId} (h : Rests s t st) (k : Rests t u st) : Rests s u st :=
  ⟨k.core.trans h.core, shareKept_trans h.share k.share⟩

theorem Rests.fits {s t : State} {st : StationId} (h : Rests s t st) (fits : fitsAt s st) : fitsAt t st := by
  obtain ⟨work, operation, prior, held, reservation, claim⟩ := (core_eq_iff _ _).mp h.core
  obtain ⟨fitsWork, fitsShare⟩ := fits
  refine ⟨by rwa [workFits, work, operation, prior], fun condemned => ?_⟩
  rw [work, operation]
  refine fitsShare ?_
  cases share : shareOf t st with
  | none => rw [share] at condemned; exact nomatch condemned
  | some y => rwa [shareOf_of_shareKept h.share share, ← share]

theorem cutUnderWay_congr {x y : Station} (h : x.core = y.core) (cut : cutUnderWay x) : cutUnderWay y := by
  obtain ⟨work, operation, -, held, -, -⟩ := (core_eq_iff _ _).mp h
  rwa [cutUnderWay, heldAfterCut, work, operation, held] at cut

theorem Rests.holds {s t : State} {st : StationId} (h : Rests s t st) (powered : t.powered = s.powered)
    (holds : heldAt s st) : heldAt t st := by
  obtain ⟨-, operation, -, -, reservation, claim⟩ := (core_eq_iff _ _).mp h.core
  obtain ⟨claims, cuts⟩ := holds
  refine ⟨by rwa [powered, operation, claim], fun cut => ?_⟩
  obtain ⟨one, all⟩ := cuts (cutUnderWay_congr h.core cut)
  rw [reservation]
  refine ⟨one, fun p' y plan share => ?_⟩
  obtain ⟨p, plan, share, same⟩ := h.share p' y plan share
  exact same ▸ all p y plan share

/-- The station, PLANNED or HELD with no cut in hand, has become TRACED with no share (R94, R112, R164, R167). -/
structure Idles (s t : State) (st : StationId) : Prop where
  was : (s.station st).work = .planned ∨ (s.station st).work = .held
  core : (t.station st).core = { s.station st with work := .traced, held := none }.core
  plan : (t.station st).plan = none

/-- The station stands as it did, or has become TRACED from PLANNED or HELD. -/
def Yields (s t : State) (st : StationId) : Prop := Rests s t st ∨ Idles s t st

theorem workFits_idle {x : Station} (fits : workFits x) (was : x.work = .planned ∨ x.work = .held) : x.operation = none := by
  by_contra some
  have working := fits.2.2.2.1 some
  rcases was with was | was <;> simp [was] at working

theorem Idles.operation {s t : State} {st : StationId} (h : Idles s t st) (fits : fitsAt s st) :
    (t.station st).work = .traced ∧ (t.station st).operation = none ∧ (t.station st).prior = (s.station st).prior := by
  obtain ⟨work, operation, prior, -⟩ := (core_eq_iff _ _).mp h.core
  exact ⟨work, operation.trans (workFits_idle fits.1 h.was : (s.station st).operation = none), prior⟩

/-- A station with no operation in hand, in a state that calls for none, fits; a CONDEMNED share is none of PLANNED's or
HELD's. -/
theorem fitsAt_idle {t : State} {st : StationId} (operation : (t.station st).operation = none)
    (work : (t.station st).work ≠ .tracing ∧ (t.station st).work ≠ .cutting ∧ (t.station st).work ≠ .scanning)
    (prior : ∀ w, (t.station st).prior = some w → surveyable w = true)
    (share : shareCondemned (shareOf t st) = true → (t.station st).work ≠ .planned ∧ (t.station st).work ≠ .held) :
    fitsAt t st :=
  ⟨⟨fun h => absurd h work.1, fun h => absurd h work.2.1, fun h => absurd h work.2.2, fun h => absurd operation h, prior⟩,
    fun condemned => ⟨(share condemned).1, (share condemned).2, by simp [operation], by simp [operation]⟩⟩

/-- A station with no operation in hand that is not HELD after a cut owes no claim and no reservation. -/
theorem heldAt_idle {t : State} {st : StationId} (operation : (t.station st).operation = none)
    (held : heldAfterCut (t.station st) = false) : heldAt t st :=
  ⟨fun _ h => by simp [operation] at h, fun cut => by simp [cutUnderWay, operation, held] at cut⟩

theorem heldAfterCut_of_work {x : Station} (h : x.work ≠ .held) : heldAfterCut x = false := by
  simp [heldAfterCut, h]

theorem Yields.fits {s t : State} {st : StationId} (h : Yields s t st) (fits : fitsAt s st) : fitsAt t st := by
  rcases h with rests | idles
  · exact rests.fits fits
  · obtain ⟨work, operation, prior⟩ := idles.operation fits
    exact fitsAt_idle operation (by simp [work]) (prior ▸ fits.1.2.2.2.2) fun _ => by simp [work]

theorem Yields.holds {s t : State} {st : StationId} (h : Yields s t st) (powered : t.powered = s.powered)
    (fits : fitsAt s st) (holds : heldAt s st) : heldAt t st := by
  rcases h with rests | idles
  · exact rests.holds powered holds
  · obtain ⟨work, operation, -⟩ := idles.operation fits
    exact heldAt_idle operation (heldAfterCut_of_work (by simp [work]))

/-! ### What an event makes of the fit and of the room -/

/-- An event keeps the stations' fit and the queue's room (R187 to R189). -/
structure Fitting (s t : State) : Prop where
  fits : stationsFit s → stationsFit t
  room : stationsFit s → roomInv s → roomInv t

theorem Fitting.refl (s : State) : Fitting s s := ⟨id, fun _ => id⟩

theorem Fitting.trans {s t u : State} (h : Fitting s t) (k : Fitting t u) : Fitting s u :=
  ⟨k.fits ∘ h.fits, fun fits room => k.room (h.fits fits) (h.room fits room)⟩

/-- An event at one station, at which the other yields. -/
theorem fitting_own {s t : State} (st : StationId) (powered : t.powered = s.powered) (other : Yields s t (otherStation st))
    (fits : fitsAt s st → fitsAt t st) (holds : fitsAt s st → heldAt s st → heldAt t st)
    (room : fitsAt s st → heldAt s st → roomUsed s ≤ 96 → roomUsed t ≤ 96) : Fitting s t := by
  refine ⟨fun fit x => ?_, fun fit inv => ⟨room (fit st) (inv.2 st) inv.1, fun x => ?_⟩⟩
  · rcases station_cases st x with rfl | rfl
    · exact fits (fit _)
    · exact other.fits (fit _)
  · rcases station_cases st x with rfl | rfl
    · exact holds (fit _) (inv.2 _)
    · exact other.holds powered (fit _) (inv.2 _)

/-- An event at which both stations yield, and no more room is used. -/
theorem fitting_yields {s t : State} (powered : t.powered = s.powered) (yields : ∀ st, Yields s t st)
    (room : roomUsed s ≤ 96 → roomUsed t ≤ 96) : Fitting s t :=
  ⟨fun fit st => (yields st).fits (fit st),
    fun fit inv => ⟨room inv.1, fun st => (yields st).holds powered (fit st) (inv.2 st)⟩⟩

/-- Two states with the stations' cores, plans and deferred ceilings, the planner, the queue and power alike. -/
structure Quiet (s t : State) : Prop where
  core : ∀ st, (t.station st).core = (s.station st).core
  plan : ∀ st, (t.station st).plan = (s.station st).plan
  deferred : ∀ st, (t.station st).deferred = (s.station st).deferred
  planner : t.planner = s.planner
  queue : t.history.exportQueue.length = s.history.exportQueue.length
  powered : t.powered = s.powered

theorem Quiet.refl (s : State) : Quiet s s := ⟨fun _ => rfl, fun _ => rfl, fun _ => rfl, rfl, rfl, rfl⟩

theorem Quiet.trans {s t u : State} (h : Quiet s t) (k : Quiet t u) : Quiet s u :=
  ⟨fun st => (k.core st).trans (h.core st), fun st => (k.plan st).trans (h.plan st),
    fun st => (k.deferred st).trans (h.deferred st), k.planner.trans h.planner, k.queue.trans h.queue,
    k.powered.trans h.powered⟩

theorem stationReserved_congr {x y : Station} (core : x.core = y.core) (deferred : x.deferred = y.deferred) :
    stationReserved x = stationReserved y := by
  obtain ⟨-, -, -, -, reservation, claim⟩ := (core_eq_iff _ _).mp core
  rw [stationReserved, stationReserved, reservation, claim, deferred]

theorem Quiet.planOf {s t : State} (h : Quiet s t) (st : StationId) : planOf t st = planOf s st := by
  rw [planOf_eq, planOf_eq, h.plan, h.planner]

theorem Quiet.rests {s t : State} (h : Quiet s t) (st : StationId) : Rests s t st :=
  ⟨h.core st, shareKept_of_planOf (h.planOf st)⟩

theorem Quiet.roomUsed {s t : State} (h : Quiet s t) : roomUsed t = roomUsed s := by
  have same (st : StationId) := stationReserved_congr (h.core st) (h.deferred st)
  simp only [Machine.roomUsed, h.queue, totalReservation_eq _ .A, same]

theorem Quiet.fitting {s t : State} (h : Quiet s t) : Fitting s t :=
  fitting_yields h.powered (fun st => .inl (h.rests st)) h.roomUsed.le.trans

/-- An update that leaves stations, planner, store and power. -/
theorem quiet_frame {s t : State} (stations : t.stations = s.stations) (planner : t.planner = s.planner)
    (history : t.history = s.history) (powered : t.powered = s.powered) : Quiet s t := by
  have same (st : StationId) : t.station st = s.station st := congrArg (PerStation.get · st) stations
  exact ⟨fun st => by rw [same], fun st => by rw [same], fun st => by rw [same], planner, by rw [history], powered⟩

/-- A station's record replaced by one that its fit and its room see alike. -/
theorem Quiet.setStation {s t : State} (h : Quiet s t) (st : StationId) (x : Station) (core : x.core = (t.station st).core)
    (plan : x.plan = (t.station st).plan) (deferred : x.deferred = (t.station st).deferred) :
    Quiet s (t.setStation st x) := by
  refine h.trans ⟨fun y => ?_, fun y => ?_, fun y => ?_, rfl, rfl, rfl⟩ <;>
  · by_cases own : y = st
    · subst own
      simpa using ‹_›
    · rw [station_setStation_ne t own]

end Sys2Proof.Machine

/-! What each operation leaves as it was, part by part. -/

namespace Sys2Proof.Machine

theorem onlyChanges_refl (ps : List Part) (s : State) : onlyChanges ps s s :=
  ⟨rfl, rfl, rfl, fun p _ => by cases p <;> rfl⟩

theorem agree_trans {s t u : State} {p : Part} (h : agree s t p) (k : agree t u p) : agree s u p := by
  cases p <;> exact Eq.trans k h

theorem onlyChanges.trans {s t u : State} {ps : List Part} (h : onlyChanges ps s t) (k : onlyChanges ps t u) :
    onlyChanges ps s u :=
  ⟨k.1.trans h.1, k.2.1.trans h.2.1, k.2.2.1.trans h.2.2.1, fun p out => agree_trans (h.2.2.2 p out) (k.2.2.2 p out)⟩

theorem onlyChanges.mono {s t : State} {ps qs : List Part} (h : onlyChanges ps s t) (sub : ps ⊆ qs) : onlyChanges qs s t :=
  ⟨h.1, h.2.1, h.2.2.1, fun p out => h.2.2.2 p fun mem => out (sub mem)⟩

/-- An update of one part. -/
theorem onlyChanges_of_part {s t : State} (q : Part) (powered : t.powered = s.powered) (uptime : t.uptime = s.uptime)
    (pending : t.pending = s.pending) (others : ∀ p, p ≠ q → agree s t p) {ps : List Part} (mem : q ∈ ps) :
    onlyChanges ps s t :=
  ⟨powered, uptime, pending, fun p out => others p fun same => out (same ▸ mem)⟩

section
variable {s t : State} {ps : List Part} (h : onlyChanges ps s t)
include h

theorem onlyChanges.setClock (clock : Part.clock ∈ ps) (x : Stamp) : onlyChanges ps s (t.setClock x) :=
  h.trans <| by
    refine onlyChanges_of_part (s := t) (t := t.setClock x) .clock rfl rfl rfl (fun p other => ?_) clock
    cases p <;> first | rfl | exact absurd rfl other

theorem onlyChanges.setLink (link : Part.link ∈ ps) (x : Link) : onlyChanges ps s (t.setLink x) :=
  h.trans <| by
    refine onlyChanges_of_part (s := t) (t := t.setLink x) .link rfl rfl rfl (fun p other => ?_) link
    cases p <;> first | rfl | exact absurd rfl other

theorem onlyChanges.setAttention (attention : Part.attention ∈ ps) (x : List AttentionItem) : onlyChanges ps s (t.setAttention x) :=
  h.trans <| by
    refine onlyChanges_of_part (s := t) (t := t.setAttention x) .attention rfl rfl rfl (fun p other => ?_) attention
    cases p <;> first | rfl | exact absurd rfl other

theorem onlyChanges.setSettings (settings : Part.settings ∈ ps) (x : Settings) : onlyChanges ps s (t.setSettings x) :=
  h.trans <| by
    refine onlyChanges_of_part (s := t) (t := t.setSettings x) .settings rfl rfl rfl (fun p other => ?_) settings
    cases p <;> first | rfl | exact absurd rfl other

theorem onlyChanges.setLoop (loop : Part.loop ∈ ps) (x : LoopControl) : onlyChanges ps s (t.setLoop x) :=
  h.trans <| by
    refine onlyChanges_of_part (s := t) (t := t.setLoop x) .loop rfl rfl rfl (fun p other => ?_) loop
    cases p <;> first | rfl | exact absurd rfl other

theorem onlyChanges.setZone (zone : Part.zone ∈ ps) (x : ZoneMonitor) : onlyChanges ps s (t.setZone x) :=
  h.trans <| by
    refine onlyChanges_of_part (s := t) (t := t.setZone x) .zone rfl rfl rfl (fun p other => ?_) zone
    cases p <;> first | rfl | exact absurd rfl other

theorem onlyChanges.setTimers (timers : Part.timers ∈ ps) (x : TimerBank) : onlyChanges ps s (t.setTimers x) :=
  h.trans <| by
    refine onlyChanges_of_part (s := t) (t := t.setTimers x) .timers rfl rfl rfl (fun p other => ?_) timers
    cases p <;> first | rfl | exact absurd rfl other

theorem onlyChanges.setWarnings (warnings : Part.warnings ∈ ps) (x : Warnings) : onlyChanges ps s (t.setWarnings x) :=
  h.trans <| by
    refine onlyChanges_of_part (s := t) (t := t.setWarnings x) .warnings rfl rfl rfl (fun p other => ?_) warnings
    cases p <;> first | rfl | exact absurd rfl other

theorem onlyChanges.setLift (lift : Part.lift ∈ ps) (x : Lift) : onlyChanges ps s (t.setLift x) :=
  h.trans <| by
    refine onlyChanges_of_part (s := t) (t := t.setLift x) .lift rfl rfl rfl (fun p other => ?_) lift
    cases p <;> first | rfl | exact absurd rfl other

theorem onlyChanges.setClamps (clamps : Part.clamps ∈ ps) (x : ClampControl) : onlyChanges ps s (t.setClamps x) :=
  h.trans <| by
    refine onlyChanges_of_part (s := t) (t := t.setClamps x) .clamps rfl rfl rfl (fun p other => ?_) clamps
    cases p <;> first | rfl | exact absurd rfl other

theorem onlyChanges.setStations (stations : Part.stations ∈ ps) (x : PerStation Station) : onlyChanges ps s (t.setStations x) :=
  h.trans <| by
    refine onlyChanges_of_part (s := t) (t := t.setStations x) .stations rfl rfl rfl (fun p other => ?_) stations
    cases p <;> first | rfl | exact absurd rfl other

theorem onlyChanges.setHeads (heads : Part.heads ∈ ps) (x : HeadControl) : onlyChanges ps s (t.setHeads x) :=
  h.trans <| by
    refine onlyChanges_of_part (s := t) (t := t.setHeads x) .heads rfl rfl rfl (fun p other => ?_) heads
    cases p <;> first | rfl | exact absurd rfl other

theorem onlyChanges.setTraces (traces : Part.traces ∈ ps) (x : PerStation TraceUnit) : onlyChanges ps s (t.setTraces x) :=
  h.trans <| by
    refine onlyChanges_of_part (s := t) (t := t.setTraces x) .traces rfl rfl rfl (fun p other => ?_) traces
    cases p <;> first | rfl | exact absurd rfl other

theorem onlyChanges.setProfiles (profiles : Part.profiles ∈ ps) (x : ProfileTable) : onlyChanges ps s (t.setProfiles x) :=
  h.trans <| by
    refine onlyChanges_of_part (s := t) (t := t.setProfiles x) .profiles rfl rfl rfl (fun p other => ?_) profiles
    cases p <;> first | rfl | exact absurd rfl other

theorem onlyChanges.setPlanner (planner : Part.planner ∈ ps) (x : Planner) : onlyChanges ps s (t.setPlanner x) :=
  h.trans <| by
    refine onlyChanges_of_part (s := t) (t := t.setPlanner x) .planner rfl rfl rfl (fun p other => ?_) planner
    cases p <;> first | rfl | exact absurd rfl other

theorem onlyChanges.setHistory (history : Part.history ∈ ps) (x : History) : onlyChanges ps s (t.setHistory x) :=
  h.trans <| by
    refine onlyChanges_of_part (s := t) (t := t.setHistory x) .history rfl rfl rfl (fun p other => ?_) history
    cases p <;> first | rfl | exact absurd rfl other

theorem onlyChanges.setNotices (ns : List Notice) : onlyChanges ps s (t.setNotices ns) :=
  h.trans ⟨rfl, rfl, rfl, fun p _ => by cases p <;> rfl⟩

theorem onlyChanges.send (ns : List Notice) : onlyChanges ps s (send t ns) := h.setNotices _

theorem onlyChanges.post (k : AttentionKind) (src : Source) (d : Detail) : onlyChanges ps s (post t k src d) := h.send _

theorem onlyChanges.settle (o : State) : onlyChanges ps s (settle o t) := h.send _

theorem onlyChanges.answer (link : Part.link ∈ ps) (f : Frame) (b : ReplyBody) :
    onlyChanges ps s (answer t f b) := h.setLink link _

theorem onlyChanges.setStation (stations : Part.stations ∈ ps) (st : StationId) (x : Station) :
    onlyChanges ps s (t.setStation st x) := h.setStations stations _

theorem onlyChanges.setClamp (clamps : Part.clamps ∈ ps) (st : StationId) (x : Clamp) :
    onlyChanges ps s (t.setClamp st x) := h.setClamps clamps _

theorem onlyChanges.setHead (heads : Part.heads ∈ ps) (k : HeadId) (x : Head) :
    onlyChanges ps s (t.setHead k x) := h.setHeads heads _

theorem onlyChanges.setTraceUnit (traces : Part.traces ∈ ps) (st : StationId) (x : TraceUnit) :
    onlyChanges ps s (t.setTraceUnit st x) := h.setTraces traces _

theorem onlyChanges.startChannel (timers : Part.timers ∈ ps) (ch : Channel) (ms : Nat) :
    onlyChanges ps s (startChannel t ch ms) := h.setTimers timers _

theorem onlyChanges.startTimer (timers : Part.timers ∈ ps) (ch : Channel) :
    onlyChanges ps s (startTimer t ch) := h.setTimers timers _

theorem onlyChanges.cancelTimer (timers : Part.timers ∈ ps) (ch : Channel) :
    onlyChanges ps s (cancelTimer t ch) := h.setTimers timers _

theorem onlyChanges.cancelRunning (timers : Part.timers ∈ ps) (ch : Channel) :
    onlyChanges ps s (cancelRunning t ch) := by
  unfold Machine.cancelRunning
  split
  · exact h
  · exact h.cancelTimer timers ch

theorem onlyChanges.cancelLift (timers : Part.timers ∈ ps) : onlyChanges ps s (cancelLift t) :=
  (((h.cancelRunning timers _).cancelRunning timers _).cancelRunning timers _).cancelRunning timers _

end

theorem onlyChanges.foldl {α : Type} {s : State} {ps : List Part} {f : State → α → State}
    (h : ∀ t a, onlyChanges ps t (f t a)) (l : List α) {t : State} (start : onlyChanges ps s t) :
    onlyChanges ps s (l.foldl f t) := by
  induction l generalizing t with
  | nil => exact start
  | cons a as ih => exact ih (start.trans (h t a))

/-! ### The pit loop -/

section
variable {s t : State} {ps : List Part} (h : onlyChanges ps s t)
include h

theorem onlyChanges.awaitDiscover (loop : Part.loop ∈ ps) (timers : Part.timers ∈ ps) (w : DiscoveryWait) (ms : Nat) :
    onlyChanges ps s (awaitDiscover t w ms) :=
  (h.setLoop loop _).startChannel timers _ _

theorem onlyChanges.endWait (loop : Part.loop ∈ ps) (timers : Part.timers ∈ ps) :
    onlyChanges ps s (endWait t) := (h.setLoop loop _).cancelTimer timers _

theorem onlyChanges.stopDiscovery (loop : Part.loop ∈ ps) (timers : Part.timers ∈ ps) (p : Nat) (o : SegmentOutcome) (localized : Bool) :
    onlyChanges ps s (stopDiscovery t p o localized) :=
  ((h.endWait loop timers).setLoop loop _).send _

theorem onlyChanges.assignRoles (loop : Part.loop ∈ ps) (m : PitMap) :
    onlyChanges ps s (assignRoles t m) := h.setLoop loop _

theorem onlyChanges.endDiscovery (loop : Part.loop ∈ ps) (timers : Part.timers ∈ ps) (n : Nat) :
    onlyChanges ps s (endDiscovery t n) := by
  unfold Machine.endDiscovery
  dsimp only
  split
  · exact ((h.endWait loop timers).setLoop loop _).assignRoles loop _
  · exact (((h.endWait loop timers).setLoop loop _).setLoop loop _).post _ _ _

theorem onlyChanges.diagnose (loop : Part.loop ∈ ps) (timers : Part.timers ∈ ps) (p : Nat) :
    onlyChanges ps s (diagnose t p) := (h.setLoop loop _).awaitDiscover loop timers _ _

theorem onlyChanges.takeFailures (loop : Part.loop ∈ ps) (fs : List LoopError) :
    onlyChanges ps s (takeFailures t fs) := by
  unfold Machine.takeFailures
  dsimp only
  split
  · exact (h.setLoop loop _).post _ _ _
  · exact h.setLoop loop _

theorem onlyChanges.startLoopDark (loop : Part.loop ∈ ps) (timers : Part.timers ∈ ps) :
    onlyChanges ps s (startLoopDark t) := by
  unfold Machine.startLoopDark
  refine (onlyChanges.setLoop ?_ loop _).awaitDiscover loop timers _ _
  split
  · split
    · exact h.send _
    · exact (h.send _).cancelTimer timers _
  · split
    · exact h
    · exact h.cancelTimer timers _

end

/-! ### The lift -/

section
variable {s t : State} {ps : List Part} (h : onlyChanges ps s t)
include h

theorem onlyChanges.enterHolding (lift : Part.lift ∈ ps) (timers : Part.timers ∈ ps) (reason : HoldReason) (p : Particulars) :
    onlyChanges ps s (enterHolding t reason p) :=
  ((h.cancelLift timers).setLift lift _).post _ _ _

theorem onlyChanges.enterLiftFaulted (lift : Part.lift ∈ ps) (timers : Part.timers ∈ ps) (c : Column) :
    onlyChanges ps s (enterLiftFaulted t c) :=
  (((h.cancelLift timers).setLift lift _).post _ _ _).send _

theorem onlyChanges.enterWarning (lift : Part.lift ∈ ps) (timers : Part.timers ∈ ps) :
    onlyChanges ps s (enterWarning t) := (h.setLift lift _).startTimer timers _

theorem onlyChanges.offerStep (lift : Part.lift ∈ ps) (timers : Part.timers ∈ ps) (setpoint : Nat) :
    onlyChanges ps s (offerStep t setpoint) := (h.setLift lift _).startTimer timers _

theorem onlyChanges.enterRaising (lift : Part.lift ∈ ps) (timers : Part.timers ∈ ps) :
    onlyChanges ps s (enterRaising t) := (h.setLift lift _).offerStep lift timers _

theorem onlyChanges.enterSettling (lift : Part.lift ∈ ps) (timers : Part.timers ∈ ps) :
    onlyChanges ps s (enterSettling t) := (h.setLift lift _).startTimer timers _

theorem onlyChanges.stepCheck (lift : Part.lift ∈ ps) (timers : Part.timers ∈ ps) :
    onlyChanges ps s (stepCheck t) := by
  unfold Machine.stepCheck
  have cancelled := h.cancelTimer timers .step
  split
  · dsimp only
    split
    · exact cancelled.enterHolding lift timers _ _
    · split
      · exact cancelled.enterSettling lift timers
      · exact cancelled.offerStep lift timers _
  · exact h

theorem onlyChanges.issueStep (lift : Part.lift ∈ ps) (setpoint : Nat) :
    onlyChanges ps s (issueStep t setpoint) := h.setLift lift _

theorem onlyChanges.enterLowering (lift : Part.lift ∈ ps) (timers : Part.timers ∈ ps) :
    onlyChanges ps s (enterLowering t) := ((h.setLift lift _).issueStep lift _).startTimer timers _

theorem onlyChanges.completionCheck (lift : Part.lift ∈ ps) (timers : Part.timers ∈ ps) :
    onlyChanges ps s (completionCheck t) := by
  unfold Machine.completionCheck
  split
  · exact h
  · split
    · exact ((h.cancelTimer timers .pace).setLift lift _).post _ _ _
    · exact h

theorem onlyChanges.paceStep (lift : Part.lift ∈ ps) (timers : Part.timers ∈ ps) :
    onlyChanges ps s (paceStep t) := by
  unfold Machine.paceStep
  dsimp only
  split
  · exact h.enterHolding lift timers _ _
  · split
    · exact h.issueStep lift _
    · exact h.setLift lift _

theorem onlyChanges.liftCheck (lift : Part.lift ∈ ps) (timers : Part.timers ∈ ps) :
    onlyChanges ps s (liftCheck t) := by
  unfold Machine.liftCheck
  split
  case h_1 => exact h.stepCheck lift timers
  case h_2 => exact h.completionCheck lift timers
  all_goals exact h

end

/-! ### The clamps -/

section
variable {s t : State} {ps : List Part} (h : onlyChanges ps s t)
include h

theorem onlyChanges.faultClamp (clamps : Part.clamps ∈ ps) (timers : Part.timers ∈ ps) (st : StationId) (cause : ClampCause) :
    onlyChanges ps s (faultClamp t st cause) :=
  ((h.cancelTimer timers _).setClamp clamps st _).post _ _ _

theorem onlyChanges.moveClamp (clamps : Part.clamps ∈ ps) (st : StationId) (x : ClampState) :
    onlyChanges ps s (moveClamp t st x) := h.setClamp clamps st _

theorem onlyChanges.clampReported (clamps : Part.clamps ∈ ps) (timers : Part.timers ∈ ps) (st : StationId) (jaw : Jaw) (force holding : Nat) :
    onlyChanges ps s (clampReported t st jaw force holding) := by
  have recorded := h.setClamp clamps st (recordClamp (t.clamp st) jaw force holding)
  unfold Machine.clampReported
  dsimp only
  split
  · split
    · exact (recorded.moveClamp clamps st _).cancelTimer timers _
    · exact recorded
  · split
    · exact (recorded.moveClamp clamps st _).cancelTimer timers _
    · exact recorded
  · split
    · exact recorded
    · exact (recorded.faultClamp clamps timers st _).send _
  · exact recorded
  · exact recorded

theorem onlyChanges.deriveClamp (clamps : Part.clamps ∈ ps) (timers : Part.timers ∈ ps) (outs : List (Role × CycleOutcome)) (st : StationId) : onlyChanges ps s (deriveClamp outs t st) := by
  unfold Machine.deriveClamp
  dsimp only
  split
  · split
    · exact (h.setClamp clamps st _).moveClamp clamps st _
    · split
      · exact (h.setClamp clamps st _).moveClamp clamps st _
      · exact (h.setClamp clamps st _).faultClamp clamps timers st _
  all_goals exact (h.setClamp clamps st _).faultClamp clamps timers st _

end

/-! ### The heads -/

section
variable {s t : State} {ps : List Part} (h : onlyChanges ps s t)
include h

theorem onlyChanges.startTask (heads : Part.heads ∈ ps) (timers : Part.timers ∈ ps) (k : HeadId) (x : HeadTask) :
    onlyChanges ps s (startTask t k x) :=
  (h.setHead heads k _).startTimer timers _

theorem onlyChanges.takeTaskParked (heads : Part.heads ∈ ps) (timers : Part.timers ∈ ps) (k : HeadId) (x : HeadTask) :
    onlyChanges ps s (takeTaskParked t k x) := by
  unfold Machine.takeTaskParked
  split
  · exact h
  · split
    · exact h.startTask heads timers k x
    · exact h.setHead heads k _

theorem onlyChanges.takeTask (heads : Part.heads ∈ ps) (timers : Part.timers ∈ ps) (k : HeadId) (x : HeadTask) :
    onlyChanges ps s (takeTask t k x) := by
  unfold Machine.takeTask
  split
  · exact h.takeTaskParked heads timers k x
  · exact h.setHead heads k _
  · split
    · exact h.startTask heads timers k x
    · exact h.setHead heads k _
  all_goals exact h

theorem onlyChanges.cancelHead (timers : Part.timers ∈ ps) (k : HeadId) :
    onlyChanges ps s (cancelHead t k) := h.cancelTimer timers _

theorem onlyChanges.haltHead (heads : Part.heads ∈ ps) (timers : Part.timers ∈ ps) (k : HeadId) :
    onlyChanges ps s (haltHead t k) := by
  have dropped := h.setHead heads k { t.head k with pendingTask := none }
  unfold Machine.haltHead
  dsimp only
  split
  · exact (dropped.setHead heads k _).cancelHead timers k
  · exact dropped

theorem onlyChanges.withdrawHead (heads : Part.heads ∈ ps) (timers : Part.timers ∈ ps) (k : HeadId) :
    onlyChanges ps s (withdrawHead t k) := by
  have dropped := h.setHead heads k { t.head k with pendingTask := none }
  unfold Machine.withdrawHead
  dsimp only
  split
  · exact (dropped.setHead heads k _).startTimer timers _
  · exact dropped

theorem onlyChanges.faultHead (heads : Part.heads ∈ ps) (timers : Part.timers ∈ ps) (k : HeadId) (cause : HeadCause) :
    onlyChanges ps s (faultHead t k cause) := by
  unfold Machine.faultHead
  dsimp only
  split
  · exact ((h.cancelHead timers k).setHead heads k _).send _
  · exact (h.cancelHead timers k).setHead heads k _

theorem onlyChanges.handOn (k : HeadId) (ns : List Notice) :
    onlyChanges ps s (handOn t k ns) := by
  unfold Machine.handOn
  split
  · exact h.send _
  · exact h

theorem onlyChanges.endTask (heads : Part.heads ∈ ps) (timers : Part.timers ∈ ps) (k : HeadId) :
    onlyChanges ps s (endTask t k) := by
  unfold Machine.endTask
  split
  · exact h
  · exact (((h.cancelHead timers k).setHead heads k _).handOn k _).startTimer timers _

theorem onlyChanges.parkHead (heads : Part.heads ∈ ps) (timers : Part.timers ∈ ps) (k : HeadId) :
    onlyChanges ps s (parkHead t k) := by
  have parked := (h.cancelHead timers k).setHead heads k { t.head k with state := .parked, order := .halt, pendingTask := none }
  unfold Machine.parkHead
  dsimp only
  split
  · exact parked
  · exact parked.takeTask heads timers k _

theorem onlyChanges.deriveHead (heads : Part.heads ∈ ps) (outs : List (Role × CycleOutcome)) (k : HeadId) : onlyChanges ps s (deriveHead outs t k) := by
  unfold Machine.deriveHead
  dsimp only
  split
  · split <;> exact h.setHead heads k _
  all_goals exact h.setHead heads k _

end


/-- An operation that touches neither stations, planner nor store is seen by none of them. -/
theorem onlyChanges.quiet {s t : State} {ps : List Part} (h : onlyChanges ps s t)
    (apart : Part.stations ∉ ps ∧ Part.planner ∉ ps ∧ Part.history ∉ ps) : Quiet s t :=
  quiet_frame (h.2.2.2 _ apart.1) (h.2.2.2 _ apart.2.1) (h.2.2.2 _ apart.2.2) h.1

end Sys2Proof.Machine

namespace Sys2Proof.Machine

/-! ### What the station's operations leave of a station's record -/

section
variable (s : State) (x : StationId)

@[simp] theorem station_send (ns : List Notice) : (send s ns).station x = s.station x := rfl
@[simp] theorem station_post (k : AttentionKind) (src : Source) (d : Detail) : (post s k src d).station x = s.station x := rfl
@[simp] theorem station_settle (o : State) : (settle o s).station x = s.station x := rfl
@[simp] theorem station_answer (f : Frame) (b : ReplyBody) : (answer s f b).station x = s.station x := rfl
@[simp] theorem station_setNotices (ns : List Notice) : (s.setNotices ns).station x = s.station x := rfl
@[simp] theorem station_setTraceUnit (st : StationId) (u : TraceUnit) : (s.setTraceUnit st u).station x = s.station x := rfl
@[simp] theorem station_setPlanner (p : Planner) : (s.setPlanner p).station x = s.station x := rfl
@[simp] theorem station_setHistory (h : History) : (s.setHistory h).station x = s.station x := rfl

@[simp] theorem station_append (serial : Serial) (body : EntryBody) (upd : WheelsetRecord → WheelsetRecord) :
    (append s serial body upd).station x = s.station x := by
  rw [State.station, append_stations]; rfl

@[simp] theorem station_changeRecord (serial : Serial) (upd : WheelsetRecord → WheelsetRecord) :
    (changeRecord s serial upd).station x = s.station x := by
  rw [State.station, changeRecord_stations]; rfl

end

theorem planOf_congr {s t : State} {x : StationId} (station : (t.station x).plan = (s.station x).plan)
    (planner : t.planner = s.planner) : planOf t x = planOf s x := by
  rw [planOf_eq, planOf_eq, station, planner]

/-! ### Quiet operations -/

section
variable {s t : State} (h : Quiet s t)
include h

theorem Quiet.send (ns : List Notice) : Quiet s (send t ns) := h.trans (quiet_frame rfl rfl rfl rfl)

theorem Quiet.post (k : AttentionKind) (src : Source) (d : Detail) : Quiet s (post t k src d) := h.send _

theorem Quiet.setNotices (ns : List Notice) : Quiet s (t.setNotices ns) := h.trans (quiet_frame rfl rfl rfl rfl)

theorem Quiet.setTraceUnit (st : StationId) (u : TraceUnit) : Quiet s (t.setTraceUnit st u) :=
  h.trans (quiet_frame rfl rfl rfl rfl)

theorem Quiet.setHead (k : HeadId) (x : Head) : Quiet s (t.setHead k x) := h.trans (quiet_frame rfl rfl rfl rfl)

theorem Quiet.startTimer (ch : Channel) : Quiet s (startTimer t ch) := h.trans (quiet_frame rfl rfl rfl rfl)

theorem Quiet.cancelHead (k : HeadId) : Quiet s (cancelHead t k) := h.trans (quiet_frame rfl rfl rfl rfl)

theorem Quiet.changeRecord (serial : Serial) (upd : WheelsetRecord → WheelsetRecord) :
    Quiet s (changeRecord t serial upd) := by
  obtain ⟨queue, -, stations⟩ := changeRecord_room t serial upd
  have same (x : StationId) := station_changeRecord t x serial upd
  exact h.trans ⟨fun x => by rw [same], fun x => by rw [same], fun x => by rw [same], changeRecord_planner _ _ _,
    by rw [queue], changeRecord_powered _ _ _⟩

theorem Quiet.handTask (k : HeadId) (x : HeadTask) : Quiet s (handTask t k x) := by
  unfold Machine.handTask
  dsimp only
  refine Quiet.send ?_ _
  exact h.setStation _ _ rfl rfl rfl

theorem Quiet.handTasks (st : StationId) (x : Side → HeadTask) : Quiet s (handTasks t st x) :=
  (h.handTask _ _).handTask _ _

theorem Quiet.markPart (k : HeadId) : Quiet s (markPart t k) := h.setStation _ _ rfl rfl rfl

theorem Quiet.keepResults (st : StationId) : Quiet s (keepResults t st) :=
  (h.setTraceUnit st _).setStation st _ rfl rfl rfl

theorem Quiet.discardTrace (st : StationId) : Quiet s (discardTrace t st) :=
  (h.setTraceUnit st _).setStation st _ rfl rfl rfl

theorem Quiet.recordCursor (k : HeadId) (c : Option Cursor) : Quiet s (recordCursor t k c) := by
  unfold Machine.recordCursor
  split
  · exact h
  · split
    · exact h.setStation _ _ rfl rfl rfl
    · exact h

theorem Quiet.handOn (k : HeadId) (ns : List Notice) : Quiet s (handOn t k ns) := by
  unfold Machine.handOn
  split
  · exact h.send _
  · exact h

theorem Quiet.countPass (k : HeadId) : Quiet s (countPass t k) := by
  unfold Machine.countPass
  dsimp only
  generalize (if decide (t.settings.insertLife ≤ (t.head k).insertCount) = true then (t.head k).insertCount
    else (t.head k).insertCount + 1) = worn
  split
  · exact (h.setHead k _).post _ _ _
  · exact h.setHead k _

theorem Quiet.handPass (k : HeadId) (p : Option Nat) : Quiet s (handPass t k p) := by
  cases p with
  | none => exact h
  | some n => exact ((h.setHead k _).countPass k).handOn k _

theorem Quiet.endTask (k : HeadId) : Quiet s (endTask t k) := by
  unfold Machine.endTask
  split
  · exact h
  · exact (((h.cancelHead k).setHead k _).handOn k _).startTimer _

theorem Quiet.headProgress (k : HeadId) (before : Option HeadLatest) (r : HeadReadings) :
    Quiet s (headProgress t k before r) := by
  have passed := ((h.handOn k (sampleNotices k (t.head k).task r)).recordCursor k r.cursor).handPass k r.passDone
  unfold Machine.headProgress
  dsimp only
  split
  · split
    · exact (passed.startTimer _).endTask k
    · exact passed.endTask k
  · split
    · exact passed.startTimer _
    · exact passed

theorem Quiet.headReported (k : HeadId) (r : HeadReadings) : Quiet s (headReported t k r) := by
  have recorded := h.setHead k (recordHead (t.head k) (.head r))
  have worn : Quiet s (if r.passDone.isSome then Machine.countPass (t.setHead k (recordHead (t.head k) (.head r))) k
      else t.setHead k (recordHead (t.head k) (.head r))) := by
    split
    · exact recorded.countPass k
    · exact recorded
  unfold Machine.headReported
  dsimp only
  split
  case h_5 =>
    split
    · refine worn.trans (onlyChanges.quiet (ps := [.heads, .timers]) ?_ (by simp))
      exact (onlyChanges_refl _ _).parkHead (by simp) (by simp) k
    · exact worn
  case h_6 => exact worn
  case h_7 => exact worn
  all_goals exact recorded.headProgress k _ r

end

theorem Quiet.foldl {α : Type} {s : State} {f : State → α → State} (h : ∀ t a, Quiet t (f t a)) (l : List α) {t : State}
    (start : Quiet s t) : Quiet s (l.foldl f t) := by
  induction l generalizing t with
  | nil => exact start
  | cons a as ih => exact ih (start.trans (h t a))

theorem quiet_handRemainder (op : Operation) (t : State) (k : HeadId) : Quiet t (handRemainder op t k) := by
  unfold handRemainder
  split
  · exact .refl t
  · exact (Quiet.refl t).handTask k _

/-! ### The discarding of a plan -/

theorem releaseShare_onlyChanges (s : State) (st : StationId) : onlyChanges [.stations, .planner] s (releaseShare s st) := by
  have start := onlyChanges_refl [.stations, .planner] s
  unfold releaseShare
  split
  · exact start
  · dsimp only
    split
    · exact start.setStation (by simp) st _
    · split
      · exact ((start.setStation (by simp) st _).setPlanner (by simp) _).setStation (by simp) _ _
      · split
        · exact (start.setStation (by simp) st _).setPlanner (by simp) _
        · exact (start.setStation (by simp) st _).setPlanner (by simp) _

theorem releaseShare_history (s : State) (st : StationId) : (releaseShare s st).history = s.history :=
  (releaseShare_onlyChanges s st).2.2.2 .history (by simp)

theorem releaseShare_powered (s : State) (st : StationId) : (releaseShare s st).powered = s.powered :=
  (releaseShare_onlyChanges s st).1

/-- All that the other station can lose by the release of a share is its plan reference. -/
theorem releaseShare_other_eq (s : State) (st : StationId) :
    ∃ plan, (releaseShare s st).station (otherStation st) = { s.station (otherStation st) with plan := plan } := by
  rcases releaseShare_other s st with same | gone
  · exact ⟨_, same⟩
  · exact ⟨none, gone⟩

theorem releaseShare_planOf (s : State) (st : StationId) : planOf (releaseShare s st) st = none :=
  planOf_none_of_plan (by rw [releaseShare_own])

theorem releaseShare_rests (s : State) (st x : StationId) : Rests s (releaseShare s st) x := by
  rcases station_cases st x with rfl | rfl
  · exact ⟨by rw [releaseShare_own]; rfl, shareKept_gone (releaseShare_planOf s _)⟩
  · obtain ⟨plan, same⟩ := releaseShare_other_eq s st
    exact ⟨by rw [same]; rfl, releaseShare_shareKept s st⟩

theorem releaseShare_reserved (s : State) (st x : StationId) :
    stationReserved ((releaseShare s st).station x) = stationReserved (s.station x) := by
  rcases station_cases st x with rfl | rfl
  · rw [releaseShare_own]; rfl
  · obtain ⟨plan, same⟩ := releaseShare_other_eq s st
    rw [same]; rfl

theorem releaseShare_roomUsed (s : State) (st : StationId) : roomUsed (releaseShare s st) = roomUsed s := by
  rw [roomUsed, roomUsed, releaseShare_history, totalReservation_eq _ st, totalReservation_eq _ st, releaseShare_reserved,
    releaseShare_reserved]

/-- An idle partner becomes TRACED, its share gone (R94, R112, R164). -/
def idled (s : State) (o : StationId) : State := becomeTraced (releaseShare s o) o

theorem idled_own (s : State) (o : StationId) :
    (idled s o).station o = { s.station o with plan := none, work := .traced, held := none } := by
  rw [idled, becomeTraced, station_setStation_same, releaseShare_own]

theorem idled_other (s : State) (o : StationId) :
    (idled s o).station (otherStation o) = (releaseShare s o).station (otherStation o) :=
  station_setStation_other _ _ _

theorem idled_rests_other (s : State) (o : StationId) : Rests s (idled s o) (otherStation o) := by
  refine (releaseShare_rests s o (otherStation o)).trans ⟨by rw [idled_other], ?_⟩
  exact shareKept_of_planOf (planOf_congr (congrArg Station.plan (station_setStation_other _ _ _)) rfl)

theorem idled_idles {s : State} {o : StationId} (was : (s.station o).work = .planned ∨ (s.station o).work = .held) :
    Idles s (idled s o) o :=
  ⟨was, by rw [idled_own]; rfl, by rw [idled_own]⟩

theorem idled_roomUsed (s : State) (o : StationId) : roomUsed (idled s o) = roomUsed s := by
  have own : stationReserved ((idled s o).station o) = stationReserved (s.station o) := by rw [idled_own]; rfl
  have other : stationReserved ((idled s o).station (otherStation o)) = stationReserved (s.station (otherStation o)) := by
    rw [idled_other, releaseShare_reserved]
  rw [roomUsed, roomUsed, totalReservation_eq _ o, totalReservation_eq s o, own, other]
  exact congrArg (fun h : History => h.exportQueue.length + _) (releaseShare_history s o)

theorem idled_powered (s : State) (o : StationId) : (idled s o).powered = s.powered := releaseShare_powered s o

theorem discardPlan_eq (s : State) (st : StationId) : discardPlan s st =
    if idlePartner s st = true then idled (releaseShare s st) (otherStation st) else releaseShare s st := rfl

theorem idlePartner_was {s : State} {st : StationId} (idle : idlePartner s st = true) :
    (s.station (otherStation st)).work = .planned ∨ (s.station (otherStation st)).work = .held := by
  simp only [idlePartner, Bool.and_eq_true, Bool.or_eq_true, beq_iff_eq] at idle
  exact idle.1.2

/-- The station of a discarded plan, or share, is left without one, and is otherwise as it was. -/
theorem discardPlan_own (s : State) (st : StationId) :
    (discardPlan s st).station st = { s.station st with plan := none } := by
  have own := releaseShare_own s st
  rw [discardPlan_eq]
  split
  · have other := idled_other (releaseShare s st) (otherStation st)
    rw [otherStation_otherStation] at other
    rcases releaseShare_other (releaseShare s st) (otherStation st) with same | gone
    · rw [otherStation_otherStation, own] at same
      exact other.trans same
    · rw [otherStation_otherStation, own] at gone
      exact other.trans gone
  · exact own

theorem discardPlan_planOf (s : State) (st : StationId) : planOf (discardPlan s st) st = none :=
  planOf_none_of_plan (by rw [discardPlan_own])

theorem discardPlan_yields (s : State) (st : StationId) : Yields s (discardPlan s st) (otherStation st) := by
  rw [discardPlan_eq]
  split
  · rename_i idle
    right
    have was := idlePartner_was idle
    obtain ⟨plan, same⟩ := releaseShare_other_eq s st
    exact ⟨was, by rw [idled_own, same]; rfl, by rw [idled_own]⟩
  · exact .inl (releaseShare_rests s st _)

theorem discardPlan_roomUsed (s : State) (st : StationId) : roomUsed (discardPlan s st) = roomUsed s := by
  rw [discardPlan_eq]
  split
  · rw [idled_roomUsed, releaseShare_roomUsed]
  · exact releaseShare_roomUsed s st

theorem discardPlan_powered (s : State) (st : StationId) : (discardPlan s st).powered = s.powered := by
  rw [discardPlan_eq]
  split
  · rw [idled_powered, releaseShare_powered]
  · exact releaseShare_powered s st

end Sys2Proof.Machine

namespace Sys2Proof.Machine

/-! ### The room that an operation uses -/

theorem roomUsed_setStation (s : State) (st : StationId) (x : Station) :
    roomUsed (s.setStation st x) + stationReserved (s.station st) = roomUsed s + stationReserved x := by
  rw [roomUsed, roomUsed, totalReservation_eq _ st, totalReservation_eq s st, station_setStation_same,
    station_setStation_other, setStation_history]
  omega

/-- Two stations with one claim and one deferred ceiling's slot differ by their cuts' reservations. -/
theorem stationReserved_add {x y : Station} (claim : y.claim = x.claim) (deferred : y.deferred.isSome = x.deferred.isSome) :
    stationReserved y + x.reservation = stationReserved x + y.reservation := by
  rw [stationReserved, stationReserved, claim, deferred]
  omega

/-- A station's record replaced by one that sets aside no more than `n` slots beyond the former's. -/
theorem roomUsed_setStation_le {s : State} {st : StationId} {x : Station} {n : Nat}
    (reserved : stationReserved x ≤ stationReserved (s.station st) + n) :
    roomUsed (s.setStation st x) ≤ roomUsed s + n := by
  have := roomUsed_setStation s st x
  omega

/-- A station's record replaced by one that sets aside `n` slots fewer. -/
theorem roomUsed_setStation_freed {s : State} {st : StationId} {x : Station} (n : Nat)
    (freed : stationReserved x + n ≤ stationReserved (s.station st)) : roomUsed (s.setStation st x) + n ≤ roomUsed s := by
  have := roomUsed_setStation s st x
  omega

theorem roomUsed_append (s : State) (serial : Serial) (body : EntryBody) (upd : WheelsetRecord → WheelsetRecord) :
    roomUsed (append s serial body upd) ≤ roomUsed s + 1 := by
  have queue := append_queue_length s serial body upd
  have reserved : totalReservation (append s serial body upd) = totalReservation s := by
    rw [totalReservation, totalReservation, append_stations]
  rw [roomUsed, roomUsed, reserved]
  omega

theorem roomUsed_frame {s t : State} (stations : t.stations = s.stations) (history : t.history = s.history) :
    roomUsed t = roomUsed s := by
  rw [roomUsed, roomUsed, totalReservation, totalReservation, stations, history]

@[simp] theorem roomUsed_send (s : State) (ns : List Notice) : roomUsed (send s ns) = roomUsed s := rfl

@[simp] theorem roomUsed_post (s : State) (k : AttentionKind) (src : Source) (d : Detail) :
    roomUsed (post s k src d) = roomUsed s := rfl

@[simp] theorem roomUsed_changeRecord (s : State) (serial : Serial) (upd : WheelsetRecord → WheelsetRecord) :
    roomUsed (changeRecord s serial upd) = roomUsed s :=
  ((Quiet.refl s).changeRecord serial upd).roomUsed

@[simp] theorem roomUsed_handTasks (s : State) (st : StationId) (x : Side → HeadTask) :
    roomUsed (handTasks s st x) = roomUsed s :=
  ((Quiet.refl s).handTasks st x).roomUsed

/-- What RECORD ENTER, PLAN and every other request that writes entries asks of the Export Queue (R188). -/
theorem roomUsed_of_roomFor {s : State} {n : Nat} (room : (roomFor s n).1 = true) (within : roomUsed s ≤ 96) :
    roomUsed s + n ≤ 96 := by
  have asked : totalReservation s + n ≤ roomCount s := of_decide_eq_true room
  rw [roomCount, freeSlots] at asked
  rw [roomUsed] at *
  omega

/-! ### The station that rests through an operation -/

section
variable {s t : State} {x : StationId} (h : Rests s t x)
include h

theorem Rests.quiet {u : State} (k : Quiet t u) : Rests s u x := h.trans (k.rests x)

/-- The other station's record replaced. -/
theorem Rests.setStation_other {st : StationId} (ne : x ≠ st) (y : Station) : Rests s (t.setStation st y) x := by
  have same := station_setStation_ne t ne y
  exact h.trans ⟨by rw [same], shareKept_of_planOf (planOf_congr (by rw [same]) rfl)⟩

theorem Rests.append (serial : Serial) (body : EntryBody) (upd : WheelsetRecord → WheelsetRecord) :
    Rests s (append t serial body upd) x := by
  have same := station_append t x serial body upd
  exact h.trans ⟨by rw [same], shareKept_of_planOf (planOf_congr (by rw [same]) (append_planner t serial body upd))⟩

theorem Rests.releaseShare (st : StationId) : Rests s (releaseShare t st) x := h.trans (releaseShare_rests t st x)

end

/-- What the operation in progress leaves of a station that yields (R94, R112). -/
theorem Yields.trans_rests {s t u : State} {x : StationId} (h : Yields s t x) (k : Rests t u x)
    (plan : (u.station x).plan = (t.station x).plan) : Yields s u x := by
  rcases h with rests | idles
  · exact .inl (rests.trans k)
  · refine .inr ⟨idles.was, k.core.trans idles.core, plan.trans idles.plan⟩

theorem Yields.quiet {s t u : State} {x : StationId} (h : Yields s t x) (k : Quiet t u) : Yields s u x :=
  h.trans_rests (k.rests x) (k.plan x)

theorem Yields.setStation_other {s t : State} {x st : StationId} (h : Yields s t x) (ne : x ≠ st) (y : Station) :
    Yields s (t.setStation st y) x :=
  h.trans_rests ((Rests.refl t x).setStation_other ne y) (by rw [station_setStation_ne t ne])

theorem Rests.yields {s t u : State} {x : StationId} (h : Rests s t x) (k : Yields t u x) : Yields s u x := by
  rcases k with rests | idles
  · exact .inl (h.trans rests)
  · obtain ⟨work, operation, prior, held, reservation, claim⟩ := (core_eq_iff _ _).mp h.core
    refine .inr ⟨work ▸ idles.was, idles.core.trans ?_, idles.plan⟩
    exact (core_eq_iff _ _).mpr ⟨rfl, operation, prior, rfl, reservation, claim⟩

/-! ### A station's own end of a fitting event -/

/-- A station at work on an operation: its work state is the operation's or PAUSED, and a cut or a verify is none of a
CONDEMNED share. -/
theorem fitsAt_working {t : State} {st : StationId} {op : Operation} (operation : (t.station st).operation = some op)
    (work : (t.station st).work = .paused ∨ (t.station st).work = resumedState op)
    (prior : ∀ w, (t.station st).prior = some w → surveyable w = true)
    (share : shareCondemned (shareOf t st) = true → op ≠ .cut ∧ op ≠ .verify) : fitsAt t st := by
  refine ⟨⟨?_, ?_, ?_, ?_, prior⟩, fun condemned => ?_⟩
  all_goals rcases work with work | work
  all_goals cases op
  all_goals simp_all [resumedState]

end Sys2Proof.Machine

namespace Sys2Proof.Machine

/-! ### The deferred ceiling of a station (R181) -/

/-- The record's CEILING entry, where one is written. -/
theorem applyDeferred_eq (s : State) (st : StationId) : ∃ t, (t = s ∨ ∃ r d, t = writeCeiling s r d true) ∧
    ((s.station st).deferred = none ∧ applyDeferred s st = s ∨
      (s.station st).deferred.isSome = true ∧
        applyDeferred s st = t.setStation st { t.station st with deferred := none }) := by
  unfold applyDeferred
  cases (s.station st).deferred with
  | none => exact ⟨s, .inl rfl, .inl ⟨rfl, rfl⟩⟩
  | some d =>
    dsimp only
    split
    · exact ⟨_, .inl rfl, .inr ⟨rfl, rfl⟩⟩
    · split
      · exact ⟨_, .inl rfl, .inr ⟨rfl, rfl⟩⟩
      · exact ⟨_, .inr ⟨_, d, rfl⟩, .inr ⟨rfl, rfl⟩⟩

@[simp] theorem station_writeCeiling (s : State) (r : WheelsetRecord) (d : Deferred) (b : Bool) (x : StationId) :
    (writeCeiling s r d b).station x = s.station x := station_append _ _ _ _ _

theorem applyDeferred_own (s : State) (st : StationId) :
    (applyDeferred s st).station st = { s.station st with deferred := none } := by
  obtain ⟨t, made, ⟨none, same⟩ | ⟨-, same⟩⟩ := applyDeferred_eq s st
  · rw [same, ← none]
  · have own : t.station st = s.station st := by
      rcases made with rfl | ⟨r, d, rfl⟩
      · rfl
      · exact station_writeCeiling _ _ _ _ _
    rw [same, station_setStation_same, own]

theorem applyDeferred_other (s : State) (st : StationId) :
    (applyDeferred s st).station (otherStation st) = s.station (otherStation st) := by
  obtain ⟨t, made, ⟨-, same⟩ | ⟨-, same⟩⟩ := applyDeferred_eq s st
  · rw [same]
  · rw [same, station_setStation_other]
    rcases made with rfl | ⟨r, d, rfl⟩
    · rfl
    · exact station_writeCeiling _ _ _ _ _

theorem applyDeferred_planner (s : State) (st : StationId) : (applyDeferred s st).planner = s.planner := by
  obtain ⟨t, made, ⟨-, same⟩ | ⟨-, same⟩⟩ := applyDeferred_eq s st
  · rw [same]
  · rw [same, setStation_planner]
    rcases made with rfl | ⟨r, d, rfl⟩
    · rfl
    · exact append_planner _ _ _ _

theorem applyDeferred_powered (s : State) (st : StationId) : (applyDeferred s st).powered = s.powered := by
  obtain ⟨t, made, ⟨-, same⟩ | ⟨-, same⟩⟩ := applyDeferred_eq s st
  · rw [same]
  · rw [same, setStation_powered]
    rcases made with rfl | ⟨r, d, rfl⟩
    · rfl
    · exact append_powered _ _ _ _

/-- The slot that a deferred ceiling held is released, and its entry takes at most one. -/
theorem applyDeferred_roomUsed (s : State) (st : StationId) : roomUsed (applyDeferred s st) ≤ roomUsed s := by
  obtain ⟨t, made, ⟨-, same⟩ | ⟨some, same⟩⟩ := applyDeferred_eq s st
  · rw [same]
  · have used : roomUsed t ≤ roomUsed s + 1 := by
      rcases made with rfl | ⟨r, d, rfl⟩
      · omega
      · exact roomUsed_append _ _ _ _
    have own : t.station st = s.station st := by
      rcases made with rfl | ⟨r, d, rfl⟩
      · rfl
      · exact station_writeCeiling _ _ _ _ _
    have freed := roomUsed_setStation t st { t.station st with deferred := none }
    rw [same]
    simp only [own, stationReserved, some, if_true, Option.isSome_none] at *
    simp at freed
    omega

theorem applyDeferred_planOf (s : State) (st x : StationId) : planOf (applyDeferred s st) x = planOf s x := by
  refine planOf_congr ?_ (applyDeferred_planner s st)
  rcases station_cases st x with rfl | rfl
  · rw [applyDeferred_own]
  · rw [applyDeferred_other]

theorem applyDeferred_rests (s : State) (st x : StationId) : Rests s (applyDeferred s st) x := by
  refine ⟨?_, shareKept_of_planOf (applyDeferred_planOf s st x)⟩
  rcases station_cases st x with rfl | rfl
  · rw [applyDeferred_own]; rfl
  · rw [applyDeferred_other]

/-! ### The interruption of a cut (R100) -/

/-- The record's part of an interruption: its CUT-INTERRUPTED entry and its lowering. -/
def interruptedHistory (s : State) (st : StationId) (cause : AbandonCause) : State :=
  match findRecord s.history ((s.station st).occupant.getD []) with
  | none => s
  | some r =>
    changeRecord (append s ((s.station st).occupant.getD [])
      (.cutInterrupted cause (s.station st).recuts
        ⟨interruptedWheel (s.station st) r .L, interruptedWheel (s.station st) r .R⟩) id)
      ((s.station st).occupant.getD []) (loweredRecord (s.station st))

/-- The station's own part of an interruption, before its share is released. -/
def interruptedStation (x : Station) : Station :=
  { endOperation x with reservation := 0, recuts := 0, progress := noProgress, held := none, accepted := false }

theorem interruptCut_eq (s : State) (st : StationId) (cause : AbandonCause) :
    let t := (interruptedHistory s st cause).setStation st (interruptedStation ((interruptedHistory s st cause).station st))
    let u := releaseShare (discardTrace t st) st
    interruptCut s st cause = applyDeferred (u.setStation st { u.station st with work := .mounted }) st := rfl

theorem interruptedHistory_station (s : State) (st x : StationId) (cause : AbandonCause) :
    (interruptedHistory s st cause).station x = s.station x := by
  unfold interruptedHistory
  split
  · rfl
  · rw [station_changeRecord, station_append]

theorem interruptedHistory_powered (s : State) (st : StationId) (cause : AbandonCause) :
    (interruptedHistory s st cause).powered = s.powered := by
  unfold interruptedHistory
  split
  · rfl
  · rw [changeRecord_powered, append_powered]

theorem interruptedHistory_rests (s : State) (st x : StationId) (cause : AbandonCause) :
    Rests s (interruptedHistory s st cause) x := by
  unfold interruptedHistory
  split
  · exact .refl s x
  · exact ((Rests.refl s x).append _ _ _).quiet ((Quiet.refl _).changeRecord _ _)

theorem interruptedHistory_roomUsed (s : State) (st : StationId) (cause : AbandonCause) :
    roomUsed (interruptedHistory s st cause) ≤ roomUsed s + 1 := by
  unfold interruptedHistory
  split
  · omega
  · rw [roomUsed_changeRecord]; exact roomUsed_append _ _ _ _

@[simp] theorem discardTrace_station_own (s : State) (st : StationId) :
    (discardTrace s st).station st = { s.station st with results := none } :=
  station_setStation_same (s.setTraceUnit st emptyTrace) st _

@[simp] theorem discardTrace_station_other (s : State) (st : StationId) :
    (discardTrace s st).station (otherStation st) = s.station (otherStation st) :=
  station_setStation_other (s.setTraceUnit st emptyTrace) st _

/-- The station of an interrupted cut: MOUNTED, with nothing of the operation and no share. -/
theorem interruptCut_own (s : State) (st : StationId) (cause : AbandonCause) :
    (interruptCut s st cause).station st =
      { interruptedStation (s.station st) with results := none, plan := none, work := .mounted, deferred := none } := by
  simp only [interruptCut_eq, applyDeferred_own, station_setStation_same, releaseShare_own, discardTrace_station_own,
    interruptedHistory_station]

/-- The other station of an interrupted cut loses at most its CONDEMNED share's plan reference. -/
theorem interruptCut_rests_other (s : State) (st : StationId) (cause : AbandonCause) :
    Rests s (interruptCut s st cause) (otherStation st) := by
  have ne := otherStation_ne st
  rw [interruptCut_eq]
  refine Rests.trans ?_ (applyDeferred_rests _ _ _)
  refine Rests.setStation_other ?_ ne _
  refine Rests.releaseShare ?_ _
  exact ((interruptedHistory_rests s st _ cause).setStation_other ne _).quiet ((Quiet.refl _).discardTrace st)

theorem interruptCut_other (s : State) (st : StationId) (cause : AbandonCause) :
    ∃ plan, (plan = none ∨ plan = (s.station (otherStation st)).plan) ∧
      (interruptCut s st cause).station (otherStation st) = { s.station (otherStation st) with plan := plan } := by
  rw [interruptCut_eq]
  dsimp only
  rw [applyDeferred_other, station_setStation_other]
  rcases releaseShare_other (discardTrace ((interruptedHistory s st cause).setStation st
    (interruptedStation ((interruptedHistory s st cause).station st))) st) st with same | gone
  · refine ⟨_, .inr rfl, ?_⟩
    rw [same, discardTrace_station_other, station_setStation_other, interruptedHistory_station]
  · refine ⟨none, .inl rfl, ?_⟩
    rw [gone, discardTrace_station_other, station_setStation_other, interruptedHistory_station]

theorem interruptCut_powered (s : State) (st : StationId) (cause : AbandonCause) :
    (interruptCut s st cause).powered = s.powered := by
  simp only [interruptCut_eq, applyDeferred_powered, setStation_powered, releaseShare_powered]
  exact interruptedHistory_powered s st cause

theorem interruptCut_roomUsed {s : State} {st : StationId} (cause : AbandonCause) (cut : 1 ≤ (s.station st).reservation) :
    roomUsed (interruptCut s st cause) ≤ roomUsed s := by
  have written := interruptedHistory_roomUsed s st cause
  rw [interruptCut_eq]
  set h := interruptedHistory s st cause
  have own : h.station st = s.station st := interruptedHistory_station s st st cause
  have freed : roomUsed (h.setStation st (interruptedStation (h.station st))) + 1 ≤ roomUsed h :=
    roomUsed_setStation_freed 1 <| by
      have reserved := stationReserved_add (x := s.station st) (y := interruptedStation (s.station st)) rfl rfl
      have none : (interruptedStation (s.station st)).reservation = 0 := rfl
      rw [own]
      omega
  set t := h.setStation st (interruptedStation (h.station st))
  have discarded : roomUsed (discardTrace t st) = roomUsed t := ((Quiet.refl t).discardTrace st).roomUsed
  dsimp only
  set u := releaseShare (discardTrace t st) st
  calc roomUsed (applyDeferred (u.setStation st { u.station st with work := .mounted }) st)
      ≤ roomUsed (u.setStation st { u.station st with work := .mounted }) := applyDeferred_roomUsed _ _
    _ ≤ roomUsed u := roomUsed_setStation_le (n := 0) (Nat.le_refl _)
    _ = roomUsed (discardTrace t st) := releaseShare_roomUsed _ _
    _ ≤ roomUsed s := by omega

/-- The interruption of a cut in hand. -/
theorem interruptCut_fitting {s : State} {st : StationId} (cause : AbandonCause)
    (cut : fitsAt s st → heldAt s st → 1 ≤ (s.station st).reservation) : Fitting s (interruptCut s st cause) := by
  have own := interruptCut_own s st cause
  have operation : ((interruptCut s st cause).station st).operation = none := by rw [own]; rfl
  have work : ((interruptCut s st cause).station st).work = .mounted := by rw [own]
  have prior : ((interruptCut s st cause).station st).prior = none := by rw [own]; rfl
  refine fitting_own st (interruptCut_powered s st cause) (.inl (interruptCut_rests_other s st cause)) (fun _ => ?_)
    (fun _ _ => ?_) fun fits holds within => ?_
  · exact fitsAt_idle operation (by simp [work]) (by simp [prior]) fun _ => by simp [work]
  · exact heldAt_idle operation (heldAfterCut_of_work (by simp [work]))
  · exact (interruptCut_roomUsed cause (cut fits holds)).trans within

end Sys2Proof.Machine

namespace Sys2Proof.Machine

/-! ### The slots that a finished cut uses (R177 to R181) -/

/-- A station with `n` reserved slots fewer, and its deferred ceiling replaced. -/
def spent (x : Station) (n : Nat) (d : Option Deferred) : Station := { x with reservation := x.reservation - n, deferred := d }

/-- A part of a finish at station `st`, which uses, passes on or releases `n` of its reserved slots. -/
structure Spends (st : StationId) (n : Nat) (s t : State) : Prop where
  own : ∃ d, t.station st = spent (s.station st) n d
  other : Rests s t (otherStation st)
  powered : t.powered = s.powered
  room : n ≤ (s.station st).reservation → roomUsed t ≤ roomUsed s

theorem Spends.refl (st : StationId) (s : State) : Spends st 0 s s :=
  ⟨⟨_, rfl⟩, .refl s _, rfl, fun _ => Nat.le_refl _⟩

theorem Spends.reservation {st : StationId} {n : Nat} {s t : State} (h : Spends st n s t) :
    (t.station st).reservation = (s.station st).reservation - n := by
  obtain ⟨d, own⟩ := h.own
  rw [own, spent]

theorem Spends.occupant {st : StationId} {n : Nat} {s t : State} (h : Spends st n s t) :
    (t.station st).occupant = (s.station st).occupant := by
  obtain ⟨d, own⟩ := h.own
  rw [own, spent]

theorem Spends.trans {st : StationId} {m n : Nat} {s t u : State} (h : Spends st m s t) (k : Spends st n t u) :
    Spends st (m + n) s u where
  own := by
    obtain ⟨c, first⟩ := h.own
    obtain ⟨d, second⟩ := k.own
    exact ⟨d, by rw [second, first]; simp only [spent, Nat.sub_sub]⟩
  other := h.other.trans k.other
  powered := k.powered.trans h.powered
  room within := by
    have reservation := h.reservation
    exact (k.room (by omega)).trans (h.room (by omega))

/-- A part of a finish that uses no slot. -/
theorem Quiet.spends {st : StationId} {s t : State} (h : Quiet s t) (own : t.station st = s.station st) : Spends st 0 s t :=
  ⟨⟨_, own⟩, h.rests _, h.powered, fun _ => h.roomUsed.le⟩

/-- A reserved slot released unused. -/
theorem spends_useSlot (s : State) (st : StationId) : Spends st 1 s (useSlot s st) where
  own := ⟨_, by rw [useSlot, station_setStation_same]; rfl⟩
  other := (Rests.refl s _).setStation_other (otherStation_ne st) _
  powered := rfl
  room within := roomUsed_setStation_le (n := 0) (by simp only [stationReserved]; omega)

/-- A reserved slot used for an entry. -/
theorem spends_append (s : State) (st : StationId) (serial : Serial) (body : EntryBody) (upd : WheelsetRecord → WheelsetRecord) :
    Spends st 1 s (useSlot (append s serial body upd) st) where
  own := ⟨_, by rw [useSlot, station_setStation_same, station_append]; rfl⟩
  other := ((Rests.refl s _).append serial body upd).setStation_other (otherStation_ne st) _
  powered := append_powered s serial body upd
  room within := by
    have written := roomUsed_append s serial body upd
    have same := station_append s st serial body upd
    have freed : roomUsed (useSlot (append s serial body upd) st) + 1 ≤ roomUsed (append s serial body upd) :=
      roomUsed_setStation_freed 1 (by simp only [stationReserved, same]; omega)
    omega

/-- A deferred ceiling takes one slot. -/
theorem stationReserved_deferred_le (x : Station) (d : Option Deferred) :
    stationReserved { x with deferred := d } ≤ stationReserved x + 1 := by
  have slot (b : Bool) : (if b = true then 1 else 0 : Nat) ≤ 1 := by cases b <;> decide
  have held := slot d.isSome
  simp only [stationReserved]
  omega

/-- A reserved slot passed on to the other station's deferred ceiling (R180). -/
theorem spends_defer (s : State) (st : StationId) (d : Option Deferred) :
    Spends st 1 s ((useSlot s st).setStation (otherStation st)
      { (useSlot s st).station (otherStation st) with deferred := d }) where
  own := ⟨_, by rw [station_setStation_ne _ (otherStation_ne st).symm, useSlot, station_setStation_same]; rfl⟩
  other := by
    refine (spends_useSlot s st).other.trans ⟨by rw [station_setStation_same]; rfl, shareKept_of_planOf ?_⟩
    exact planOf_congr (by rw [station_setStation_same]) rfl
  powered := rfl
  room within := by
    have freed : roomUsed (useSlot s st) + 1 ≤ roomUsed s :=
      roomUsed_setStation_freed 1 (by simp only [stationReserved]; omega)
    have passed : roomUsed ((useSlot s st).setStation (otherStation st)
        { (useSlot s st).station (otherStation st) with deferred := d }) ≤ roomUsed (useSlot s st) + 1 :=
      roomUsed_setStation_le (stationReserved_deferred_le _ d)
    omega

theorem spends_applyDeferred (s : State) (st : StationId) : Spends st 0 s (applyDeferred s st) where
  own := ⟨none, applyDeferred_own s st⟩
  other := applyDeferred_rests s st _
  powered := applyDeferred_powered s st
  room _ := applyDeferred_roomUsed s st

theorem cuttingStation_occupant {s : State} {serial : Serial} {st : StationId} (found : cuttingStation s serial = some st) :
    (s.station st).occupant = some serial := by
  have mem := List.mem_of_find?_eq_some found
  simp only [stationsOf, List.mem_filter, beq_iff_eq] at mem
  exact mem.2

/-- The slots that a partner place takes: one where its capture item is not EMPTY. -/
def placeSlots (c : Capture) : Nat := if c.captured.isSome then 1 else 0

/-- One partner place of a finish (R179, R180). -/
theorem partnerCeiling_spends {p : Plan} {st : StationId} {own : Serial} {df : Geometry} (f : Finish) (c : Capture)
    (occupant : (f.state.station st).occupant.getD [] = own) :
    Spends st (placeSlots c) f.state (partnerCeiling p st own df f c).state := by
  cases captured : c.captured with
  | none =>
    simp only [placeSlots, captured]
    unfold partnerCeiling
    rw [captured]
    exact .refl st _
  | some z =>
    simp only [placeSlots, captured]
    unfold partnerCeiling
    rw [captured]
    cases c.position with
    | none => exact spends_useSlot _ _
    | some q =>
      dsimp only
      cases recordAt f.state.history q with
      | none => exact spends_useSlot _ _
      | some r =>
        dsimp only
        by_cases examined : r.serial = own ∨ ceilingNotNeeded r (df + (placeTolerance p c.place).2) = true
        · rw [if_pos examined]
          exact spends_useSlot _ _
        · rw [if_neg examined]
          cases cutting : cuttingStation f.state r.serial with
          | none => exact spends_append _ _ _ _ _
          | some o =>
            have theirs := cuttingStation_occupant cutting
            rcases station_cases st o with rfl | rfl
            · rw [theirs] at occupant
              exact absurd (.inl occupant) examined
            · exact spends_defer _ _ _

/-- All of a station's partner places. -/
theorem partnerCeilings_spends {p : Plan} {st : StationId} {own : Serial} {df : Geometry} (cs : List Capture) (f : Finish)
    (occupant : (f.state.station st).occupant.getD [] = own) :
    Spends st (cs.filter (fun c => c.captured.isSome)).length f.state (cs.foldl (partnerCeiling p st own df) f).state := by
  induction cs generalizing f with
  | nil => exact .refl st _
  | cons c cs ih =>
    have first := partnerCeiling_spends (p := p) (df := df) f c occupant
    have rest := ih (partnerCeiling p st own df f c) (by rw [first.occupant]; exact occupant)
    have count : ((c :: cs).filter (fun c => c.captured.isSome)).length =
        placeSlots c + (cs.filter (fun c => c.captured.isSome)).length := by
      simp only [List.filter_cons, placeSlots]
      split <;> simp [Nat.add_comm]
    rw [count]
    exact first.trans rest

/-- The state of a finish once its partner ceilings are seen to. -/
def ceilingsSeenTo (s : State) (st : StationId) (p : Plan) (y : Share) (ws : PerSide WheelPlan) : State :=
  let own := (s.station st).occupant.getD []
  let fin := finishedDiameters (s.station st) ws
  let df := min fin.l fin.r
  let t := useSlot (append s own (cutBody (s.station st) p y ws) id) st
  let t := applyDeferred (changeRecord t own (finishedRecord fin df (y.profileUsed.getD y.profileTried))) st
  ((partnerCaptures p st).foldl (partnerCeiling p st own df) { state := t, fates := [], written := [] }).state

/-- A finish uses no more slots than its cut reserved (R168, R179 to R181). -/
theorem ceilingsSeenTo_spends (s : State) (st : StationId) (p : Plan) (y : Share) (ws : PerSide WheelPlan) :
    Spends st (cutReservation p st) s (ceilingsSeenTo s st p y ws) := by
  unfold ceilingsSeenTo
  dsimp only
  set own := (s.station st).occupant.getD [] with hown
  have written := spends_append s st own (cutBody (s.station st) p y ws) id
  set t := useSlot (append s own (cutBody (s.station st) p y ws) id) st
  set upd := finishedRecord (finishedDiameters (s.station st) ws) (min (finishedDiameters (s.station st) ws).l
    (finishedDiameters (s.station st) ws).r) (y.profileUsed.getD y.profileTried)
  have finished : Spends st 0 t (changeRecord t own upd) :=
    ((Quiet.refl t).changeRecord own upd).spends (station_changeRecord t st own upd)
  have applied := spends_applyDeferred (changeRecord t own upd) st
  have before := (written.trans finished).trans applied
  have ceilings := partnerCeilings_spends (p := p) (own := own)
    (df := min (finishedDiameters (s.station st) ws).l (finishedDiameters (s.station st) ws).r) (partnerCaptures p st)
    { state := applyDeferred (changeRecord t own upd) st, fates := [], written := [] }
    (congrArg (Option.getD · []) before.occupant)
  exact before.trans ceilings

/-- The station of a finish, before its share is released. -/
def finishedStation (x : Station) : Station :=
  { endOperation x with reservation := 0, recuts := 0, progress := noProgress, held := none, accepted := false }

theorem finishCut_quiet (s : State) (st : StationId) (p : Plan) (y : Share) (ws : PerSide WheelPlan) :
    let c := ceilingsSeenTo s st p y ws
    let t := releaseShare (c.setStation st (finishedStation (c.station st))) st
    Quiet (t.setStation st { t.station st with work := .finished }) (finishCut s st p y ws).1 := by
  refine Quiet.post ?_ _ _ _
  exact .refl _

/-- A finish whose cut holds its reservation. -/
theorem finishCut_fitting {s : State} {st : StationId} {p : Plan} {y : Share} {ws : PerSide WheelPlan}
    (reserved : fitsAt s st → heldAt s st → cutReservation p st ≤ (s.station st).reservation) :
    Fitting s (finishCut s st p y ws).1 := by
  have spends := ceilingsSeenTo_spends s st p y ws
  have quiet := finishCut_quiet s st p y ws
  dsimp only at quiet
  set c := ceilingsSeenTo s st p y ws
  set t := c.setStation st (finishedStation (c.station st)) with tdef
  set u := releaseShare t st with udef
  have core := quiet.core st
  rw [station_setStation_same, udef, releaseShare_own, tdef, station_setStation_same] at core
  have plan := quiet.plan st
  rw [station_setStation_same, udef, releaseShare_own] at plan
  obtain ⟨work, operation, prior, -⟩ := (core_eq_iff _ _).mp core
  have ne := otherStation_ne st
  have other : Rests s (finishCut s st p y ws).1 (otherStation st) :=
    (((spends.other.setStation_other ne _).releaseShare st).setStation_other ne _).quiet quiet
  refine fitting_own st ?_ (.inl other) (fun _ => ?_) (fun _ _ => ?_) fun fits holds within => ?_
  · rw [quiet.powered, setStation_powered, udef, releaseShare_powered, tdef, setStation_powered, spends.powered]
  · exact fitsAt_idle operation (by simp [work]) (by simp [prior, finishedStation, endOperation]) fun _ => by simp [work]
  · exact heldAt_idle operation (heldAfterCut_of_work (by simp [work]))
  · calc roomUsed (finishCut s st p y ws).1
        = roomUsed (u.setStation st { u.station st with work := .finished }) := quiet.roomUsed
      _ ≤ roomUsed u := roomUsed_setStation_le (n := 0) (Nat.le_refl _)
      _ = roomUsed t := releaseShare_roomUsed _ _
      _ ≤ roomUsed c := roomUsed_setStation_le (n := 0) (by
          have := stationReserved_add (x := c.station st) (y := finishedStation (c.station st)) rfl rfl
          have none : (finishedStation (c.station st)).reservation = 0 := rfl
          omega)
      _ ≤ roomUsed s := spends.room (reserved fits holds)
      _ ≤ 96 := within

end Sys2Proof.Machine

namespace Sys2Proof.Machine

/-! ### The operations of a station and its room -/

/-- A fitting event may be judged from stations that fit. -/
theorem fitting_of_fits {s t : State} (h : stationsFit s → Fitting s t) : Fitting s t :=
  ⟨fun fits => (h fits).fits fits, fun fits => (h fits).room fits⟩

/-- An event that replaces one station's record. -/
theorem fitting_setStation {s t : State} {st : StationId} {x : Station} (powered : t.powered = s.powered)
    (other : Yields s t (otherStation st)) (fits : fitsAt s st → fitsAt (t.setStation st x) st)
    (holds : fitsAt s st → heldAt s st → heldAt (t.setStation st x) st)
    (room : fitsAt s st → heldAt s st → roomUsed s ≤ 96 → roomUsed (t.setStation st x) ≤ 96) :
    Fitting s (t.setStation st x) :=
  fitting_own st powered (other.setStation_other (otherStation_ne st) x) fits holds room

theorem planOf_setStation {s : State} {st : StationId} {x : Station} (plan : x.plan = (s.station st).plan) :
    planOf (s.setStation st x) st = planOf s st :=
  planOf_congr (by rw [station_setStation_same, plan]) rfl

theorem shareOf_setStation {s : State} {st : StationId} {x : Station} (plan : x.plan = (s.station st).plan) :
    shareOf (s.setStation st x) st = shareOf s st := by
  rw [shareOf_eq, shareOf_eq, planOf_setStation plan]

section
variable {t : State} {st : StationId} {x : Station}

/-- A station left with no operation in hand, and in a state of none and of no plan, fits. -/
theorem fitsAt_setStation_idle (operation : x.operation = none) (prior : x.prior = none)
    (working : x.work ≠ .tracing ∧ x.work ≠ .cutting ∧ x.work ≠ .scanning)
    (planned : x.work ≠ .planned ∧ x.work ≠ .held) : fitsAt (t.setStation st x) st := by
  have same := station_setStation_same t st x
  refine fitsAt_idle ?_ ?_ ?_ ?_ <;> rw [same]
  · exact operation
  · exact working
  · rw [prior]; exact fun _ h => nomatch h
  · exact fun _ => planned

/-- A station left at work on an operation fits. -/
theorem fitsAt_setStation_working {op : Operation} (operation : x.operation = some op)
    (work : x.work = .paused ∨ x.work = resumedState op) (prior : ∀ w, x.prior = some w → surveyable w = true)
    (plan : x.plan = (t.station st).plan) (share : shareCondemned (shareOf t st) = true → op ≠ .cut ∧ op ≠ .verify) :
    fitsAt (t.setStation st x) st := by
  have same := station_setStation_same t st x
  refine fitsAt_working (op := op) ?_ ?_ ?_ ?_
  · rw [same, operation]
  · rw [same]; exact work
  · rw [same]; exact prior
  · rw [shareOf_setStation plan]; exact share

/-- A station left HELD fits, its share none of a CONDEMNED wheelset. -/
theorem fitsAt_setStation_held (operation : x.operation = none) (work : x.work = .held) (prior : x.prior = none)
    (plan : x.plan = (t.station st).plan) (share : shareCondemned (shareOf t st) = false) :
    fitsAt (t.setStation st x) st := by
  have same := station_setStation_same t st x
  refine fitsAt_idle ?_ ?_ ?_ ?_
  · rw [same, operation]
  · rw [same, work]; exact ⟨nofun, nofun, nofun⟩
  · rw [same, prior]; exact fun _ h => nomatch h
  · rw [shareOf_setStation plan, share]; exact fun h => nomatch h

/-- A station without a cut owes no reservation. -/
theorem heldAt_setStation_uncut (claim : x.operation = some .trace → x.claim = true)
    (cut : x.operation ≠ some .cut ∧ x.operation ≠ some .verify) (held : heldAfterCut x = false) :
    heldAt (t.setStation st x) st := by
  have same := station_setStation_same t st x
  refine ⟨fun _ => by rw [same]; exact claim, fun h => ?_⟩
  rw [same, cutUnderWay, held] at h
  rcases h with h | h | h
  · exact absurd h cut.1
  · exact absurd h cut.2
  · exact nomatch h

theorem heldAt_setStation_idle (operation : x.operation = none) (held : x.work ≠ .held) :
    heldAt (t.setStation st x) st :=
  heldAt_setStation_uncut (by simp [operation]) (by simp [operation]) (heldAfterCut_of_work held)

end

/-- What a station in a surveyable state is not. -/
theorem surveyable_idle {w : WorkState} (h : surveyable w = true) :
    (w ≠ .tracing ∧ w ≠ .cutting ∧ w ≠ .scanning) ∧ w ≠ .planned ∧ w ≠ .held := by
  cases w <;> simp_all [surveyable]

theorem surveyable_tracePrior {x : Station} (h : traceable x = true) : surveyable (tracePrior x.work) = true := by
  unfold traceable at h
  cases work : x.work <;> simp_all [tracePrior, surveyable]

/-- The claim of a trace takes one slot. -/
theorem stationReserved_claim_le {x y : Station} (reservation : y.reservation = x.reservation)
    (deferred : y.deferred = x.deferred) : stationReserved y ≤ stationReserved x + 1 := by
  have slot (b : Bool) : (if b = true then 1 else 0 : Nat) ≤ 1 := by cases b <;> decide
  have held := slot y.claim
  rw [stationReserved, stationReserved, reservation, deferred]
  omega

/-- A claim released, or kept, takes no slot. -/
theorem stationReserved_claim_kept {x y : Station} (reservation : y.reservation = x.reservation)
    (deferred : y.deferred = x.deferred) (claim : y.claim = true → x.claim = true) :
    stationReserved y ≤ stationReserved x := by
  have slot : (if y.claim = true then 1 else 0 : Nat) ≤ if x.claim = true then 1 else 0 := by
    cases h : y.claim with
    | false => simp
    | true => simp [claim h]
  rw [stationReserved, stationReserved, reservation, deferred]
  omega

theorem stationReserved_claim_released {x y : Station} (reservation : y.reservation = x.reservation)
    (deferred : y.deferred = x.deferred) (was : x.claim = true) (claim : y.claim = false) :
    stationReserved y + 1 ≤ stationReserved x := by
  simp only [stationReserved, reservation, deferred, was, claim, if_true, Bool.false_eq_true, if_false]
  omega

/-- A trace begins (R111, R112). -/
theorem beginTrace_fitting {s : State} {st : StationId} (taken : traceable (s.station st) = true)
    (room : (roomFor s 1).1 = true) : Fitting s (beginTrace s st) := by
  set t := (discardPlan s st).setTraceUnit st { (discardPlan s st).traceUnit st with walk := some (.both newTraceRecord) }
    with ht
  have none : shareOf t st = .none := by rw [shareOf_eq, show planOf t st = .none from discardPlan_planOf s st]; rfl
  unfold beginTrace
  dsimp only
  refine Fitting.trans ?_ ((Quiet.refl _).handTasks st _).fitting
  refine fitting_setStation (t := t) (discardPlan_powered s st)
    ((discardPlan_yields s st).quiet ((Quiet.refl _).setTraceUnit st _)) (fun _ => ?_)
    (fun _ _ => heldAt_setStation_uncut (fun _ => rfl) ⟨nofun, nofun⟩ (heldAfterCut_of_work nofun)) fun _ _ within => ?_
  · refine fitsAt_setStation_working (op := .trace) rfl (.inr rfl) ?_ rfl (by rw [none]; nofun)
    rintro w ⟨⟩
    exact surveyable_tracePrior taken
  · have used : roomUsed t = roomUsed s := discardPlan_roomUsed s st
    exact (roomUsed_setStation_le (by exact stationReserved_claim_le rfl rfl)).trans
      (used.symm ▸ roomUsed_of_roomFor room within)

/-- A survey begins (R144). -/
theorem beginSurvey_fitting {s : State} {st : StationId} (slot : Nat) (taken : surveyable (s.station st).work = true) :
    Fitting s (beginSurvey s st slot) := by
  set t := s.setTraceUnit st { s.traceUnit st with scan := some (newScan .survey slot) }
  unfold beginSurvey
  dsimp only
  refine Fitting.trans ?_ ((Quiet.refl _).handTasks st _).fitting
  refine fitting_setStation (t := t) rfl (.inl (((Quiet.refl s).setTraceUnit st _).rests _)) (fun _ => ?_)
    (fun _ _ => heldAt_setStation_uncut nofun ⟨nofun, nofun⟩ (heldAfterCut_of_work nofun))
    fun _ _ within => (roomUsed_setStation_le (s := t) (n := 0) (by exact Nat.le_refl _)).trans within
  refine fitsAt_setStation_working (op := .survey) rfl (.inr rfl) ?_ rfl fun _ => ⟨nofun, nofun⟩
  rintro w ⟨⟩
  exact taken

/-- A trace completes (R127). -/
theorem completeTrace_fitting {s : State} {st : StationId} (powered : s.powered = true)
    (tracing : (s.station st).operation = some .trace) : Fitting s (completeTrace s st) := by
  unfold completeTrace
  split
  · exact .refl s
  · rename_i ws _
    dsimp only
    generalize formTrace ws (occupantProfile s st) s.clock = tr
    set t := s.setTraceUnit st { s.traceUnit st with held := some tr, walk := none }
    generalize (t.station st).occupant.getD [] = serial
    set u := append t serial (tracedBody tr) id
    have kept : Quiet u (if tr.usable then changeRecord u serial (tracedRecord tr) else u) := by
      split
      · exact (Quiet.refl u).changeRecord _ _
      · exact .refl u
    generalize (if tr.usable then changeRecord u serial (tracedRecord tr) else u) = v at kept
    have core : (v.station st).core = (s.station st).core := (kept.core st).trans (congrArg _ (station_append t st _ _ _))
    have other : Rests s v (otherStation st) :=
      Rests.quiet (t := u) (Rests.append (t := t) (((Quiet.refl s).setTraceUnit st _).rests _) serial (tracedBody tr) id) kept
    have used : roomUsed v ≤ roomUsed s + 1 := kept.roomUsed ▸ roomUsed_append t serial _ _
    obtain ⟨-, -, -, -, -, claim⟩ := (core_eq_iff _ _).mp core
    refine Fitting.trans ?_ ((Quiet.refl _).post _ _ _).fitting
    refine fitting_setStation (kept.powered.trans (append_powered t _ _ _)) (.inl other)
      (fun _ => fitsAt_setStation_idle rfl rfl ⟨nofun, nofun, nofun⟩ ⟨nofun, nofun⟩)
      (fun _ _ => heldAt_setStation_idle rfl nofun) fun _ holds within => ?_
    have claimed : (v.station st).claim = true := claim.trans (holds.1 powered tracing)
    refine (Nat.le_of_add_le_add_right (b := 1) ((roomUsed_setStation_freed 1 ?_).trans used)).trans within
    exact stationReserved_claim_released rfl rfl claimed rfl

/-- A survey completes (R145). -/
theorem completeSurvey_fitting {s : State} {st : StationId} : Fitting s (completeSurvey s st) := by
  unfold completeSurvey
  split
  · exact .refl s
  · dsimp only
    have kept := (Quiet.refl s).keepResults st
    set t := keepResults s st
    obtain ⟨-, -, prior, -⟩ := (core_eq_iff _ _).mp (kept.core st)
    have free (fits : fitsAt s st) : surveyable ((t.station st).prior.getD .traced) = true := by
      rw [prior]
      cases was : (s.station st).prior with
      | none => rfl
      | some w => exact fits.1.2.2.2.2 w was
    refine Fitting.trans ?_ ((Quiet.refl _).post _ _ _).fitting
    refine fitting_setStation kept.powered (.inl (kept.rests _)) (fun fits => ?_) (fun fits _ => ?_) fun _ _ within => ?_
    · obtain ⟨working, planned⟩ := surveyable_idle (free fits)
      exact fitsAt_setStation_idle rfl rfl working planned
    · exact heldAt_setStation_idle rfl (surveyable_idle (free fits)).2.2
    · exact (roomUsed_setStation_le (n := 0) (by exact Nat.le_refl _)).trans (kept.roomUsed.trans_le within)

/-- A station goes on with its cut in hand: the share and the reservation stay. -/
theorem fitting_cut {s t : State} {st : StationId} {x : Station} (kept : Quiet s t)
    (cut : cutUnderWay (s.station st)) (reservation : x.reservation = (t.station st).reservation)
    (claim : x.claim = (t.station st).claim) (deferred : x.deferred = (t.station st).deferred)
    (plan : x.plan = (t.station st).plan) (trace : x.operation ≠ some .trace)
    (fits : fitsAt s st → shareCondemned (shareOf s st) = false → fitsAt (t.setStation st x) st) :
    Fitting s (t.setStation st x) := by
  have whole : shareOf t st = shareOf s st := by rw [shareOf_eq, shareOf_eq, kept.planOf]
  obtain ⟨-, -, -, -, reserved, -⟩ := (core_eq_iff _ _).mp (kept.core st)
  refine fitting_setStation kept.powered (.inl (kept.rests _)) (fun was => fits was ?_) (fun _ holds => ?_)
    fun _ _ within => ?_
  · by_contra condemned
    obtain ⟨planned, held, isCut, isVerify⟩ := was.2 (by simpa using condemned)
    rcases cut with h | h | h
    · exact isCut h
    · exact isVerify h
    · simp [heldAfterCut, held] at h
  · obtain ⟨-, cuts⟩ := holds
    obtain ⟨one, all⟩ := cuts cut
    refine ⟨fun _ op => absurd (by rwa [station_setStation_same] at op) trace, fun _ => ?_⟩
    rw [planOf_setStation plan, station_setStation_same, reservation, reserved, kept.planOf]
    exact ⟨one, all⟩
  · refine (roomUsed_setStation_le (n := 0) ?_).trans (kept.roomUsed.trans_le within)
    rw [stationReserved, stationReserved, reservation, claim, deferred]
    exact Nat.le_refl _

/-- A verify begins (R170). -/
theorem beginVerify_fitting {s : State} {st : StationId} (cutting : (s.station st).operation = some .cut) :
    Fitting s (beginVerify s st) := by
  have kept := (Quiet.refl s).setTraceUnit st
    { s.traceUnit st with scan := some (newScan .verify (((shareOf s st).bind (·.profileUsed)).getD 0)) }
  unfold beginVerify
  dsimp only
  refine Fitting.trans ?_ ((Quiet.refl _).handTasks st _).fitting
  refine fitting_cut kept (.inl cutting) rfl rfl rfl rfl nofun fun fits share => ?_
  refine fitsAt_setStation_working (op := .verify) rfl (.inr rfl) fits.1.2.2.2.2 rfl ?_
  rw [show shareOf (s.setTraceUnit st _) st = shareOf s st from rfl, share]
  nofun

/-- The verify's end (R171, R177). -/
theorem endVerify_fitting {s : State} {st : StationId} (verifying : (s.station st).operation = some .verify) :
    Fitting s (endVerify s st) := by
  have kept := (Quiet.refl s).keepResults st
  obtain ⟨-, operation, -⟩ := (core_eq_iff _ _).mp (kept.core st)
  unfold endVerify
  split
  · exact .refl s
  · dsimp only
    split
    · split
      · exact kept.fitting
      · rename_i q parts
        refine kept.fitting.trans (finishCut_fitting fun _ holds => ?_)
        obtain ⟨-, all⟩ := holds.2 (.inr (.inl (operation.trans verifying)))
        obtain ⟨p, plan, rest⟩ := Option.bind_eq_some_iff.mp parts
        obtain ⟨y, share, rest⟩ := Option.bind_eq_some_iff.mp rest
        obtain ⟨ws, -, rfl⟩ := Option.map_eq_some_iff.mp rest
        exact all p y plan share
    · refine Fitting.trans ?_ ((Quiet.refl _).post _ _ _).fitting
      refine fitting_cut kept (.inr (.inl verifying)) rfl rfl rfl rfl nofun fun fits share => ?_
      refine fitsAt_setStation_held rfl rfl rfl rfl ?_
      rw [shareOf_eq, kept.planOf, ← shareOf_eq, share]

/-- An operation goes on to its next phase or its end (R97). -/
theorem completeOperation_fitting {s : State} {st : StationId} (powered : s.powered = true) :
    Fitting s (completeOperation s st) := by
  unfold completeOperation
  split
  · exact completeTrace_fitting powered ‹_›
  · exact beginVerify_fitting ‹_›
  · exact endVerify_fitting ‹_›
  · exact completeSurvey_fitting
  · exact .refl s

theorem withdrawHeads_quiet (s : State) (st : StationId) : Quiet s (withdrawHeads s st) :=
  ((Quiet.refl s).setNotices _).send _

/-- A trace or a survey abandoned (R99). -/
theorem fitting_abandoned {s t : State} {st : StationId} {b : Bool} (kept : Quiet s t)
    (claim : b = true → (t.station st).claim = true) :
    Fitting s (t.setStation st { endOperation (t.station st) with
      claim := b, work := (t.station st).prior.getD .mounted }) := by
  obtain ⟨-, -, prior, -⟩ := (core_eq_iff _ _).mp (kept.core st)
  have free (fits : fitsAt s st) : surveyable ((t.station st).prior.getD .mounted) = true := by
    rw [prior]
    cases was : (s.station st).prior with
    | none => rfl
    | some w => exact fits.1.2.2.2.2 w was
  refine fitting_setStation kept.powered (.inl (kept.rests _)) (fun fits => ?_) (fun fits _ => ?_) fun _ _ within => ?_
  · obtain ⟨working, planned⟩ := surveyable_idle (free fits)
    exact fitsAt_setStation_idle rfl rfl working planned
  · exact heldAt_setStation_idle rfl (surveyable_idle (free fits)).2.2
  · refine (roomUsed_setStation_le (n := 0) ?_).trans (kept.roomUsed.trans_le within)
    exact stationReserved_claim_kept rfl rfl claim

/-- The operation in hand is abandoned (R98 to R100). -/
theorem abandonOperation_fitting (s : State) (st : StationId) (cause : AbandonCause) :
    Fitting s (abandonOperation s st cause) := by
  have kept := withdrawHeads_quiet s st
  have same : (withdrawHeads s st).station st = s.station st := rfl
  unfold abandonOperation
  dsimp only
  split
  · exact .refl s
  · exact (fitting_abandoned (b := false) (kept.setTraceUnit st _) nofun).trans ((Quiet.refl _).post _ _ _).fitting
  · exact (fitting_abandoned (b := (s.station st).claim) (kept.setTraceUnit st _) id).trans
      ((Quiet.refl _).post _ _ _).fitting
  · rename_i verify
    refine Fitting.trans ?_ ((Quiet.refl _).post _ _ _).fitting
    refine fitting_cut (kept.setTraceUnit st _) (.inr (.inl verify)) rfl rfl rfl rfl nofun fun fits share => ?_
    exact fitsAt_setStation_held rfl rfl rfl rfl share
  · rename_i cut
    refine kept.fitting.trans (Fitting.trans (interruptCut_fitting cause fun _ holds => ?_)
      ((Quiet.refl _).post _ _ _).fitting)
    exact (holds.2 (.inl cut)).1

theorem forceAbandon_fitting (s : State) (st : StationId) (cause : AbandonCause) :
    Fitting s (forceAbandon s st cause) := by
  unfold forceAbandon
  split
  · exact abandonOperation_fitting s st cause
  · exact .refl s

end Sys2Proof.Machine

namespace Sys2Proof.Machine

/-! ### MOUNT, DISMOUNT, pausing and resuming -/

/-- A serial is mounted at a VACANT station (R93). -/
theorem fitting_mounted {s : State} {st : StationId} {serial : Serial} (vacant : (s.station st).work = .vacant) :
    Fitting s (s.setStation st { s.station st with
      occupant := some serial, work := .mounted, reservation := 0, recuts := 0, progress := noProgress, prior := none
      held := none }) := by
  have idle (fits : fitsAt s st) : (s.station st).operation = none := by
    by_contra some
    have working := fits.1.2.2.2.1 some
    simp [vacant] at working
  refine fitting_setStation rfl (.inl (.refl s _))
    (fun fits => fitsAt_setStation_idle (idle fits) rfl ⟨nofun, nofun, nofun⟩ ⟨nofun, nofun⟩)
    (fun fits _ => heldAt_setStation_idle (idle fits) nofun) fun _ _ within => ?_
  refine (roomUsed_setStation_le (n := 0) ?_).trans within
  have reserved := stationReserved_add (x := s.station st) (y := { s.station st with
    occupant := some serial, work := .mounted, reservation := 0, recuts := 0, progress := noProgress, prior := none
    held := none }) rfl rfl
  dsimp only at reserved ⊢
  omega

/-- DISMOUNT (R94): the station is emptied, and its partner yields. -/
theorem dismountStation_fitting (s : State) (st : StationId) : Fitting s (dismountStation s st) := by
  have ne := otherStation_ne st
  have interrupted : ∃ t, (if 0 < (s.station st).reservation then
      postInterrupted (interruptCut s st .host) st true .host (s.station st).progress else s) = t ∧
      Rests s t (otherStation st) ∧ t.powered = s.powered ∧ roomUsed t ≤ roomUsed s := by
    refine ⟨_, rfl, ?_⟩
    split
    · have quiet := (Quiet.refl (interruptCut s st .host)).post .cutStopped (.station st)
        (.cutAbandoned true .host (s.station st).progress)
      exact ⟨(interruptCut_rests_other s st .host).quiet quiet, interruptCut_powered s st .host,
        interruptCut_roomUsed .host ‹_›⟩
    · exact ⟨.refl s _, rfl, Nat.le_refl _⟩
  obtain ⟨t, made, rests, powered, used⟩ := interrupted
  unfold dismountStation
  dsimp only
  rw [made]
  have discarded := (Quiet.refl t).discardTrace st
  set u := releaseShare (discardTrace t st) st with hu
  have restsU : Rests s u (otherStation st) := (rests.quiet discarded).releaseShare st
  have usedU : roomUsed u ≤ roomUsed s := (releaseShare_roomUsed _ st).trans_le (discarded.roomUsed.trans_le used)
  have poweredU : u.powered = s.powered := (releaseShare_powered _ st).trans (discarded.powered.trans powered)
  have yields : ∃ v, (if idlePartner s st then becomeTraced (releaseShare u (otherStation st)) (otherStation st) else u) = v ∧
      Yields s v (otherStation st) ∧ v.powered = s.powered ∧ roomUsed v ≤ roomUsed s := by
    refine ⟨_, rfl, ?_⟩
    split
    · rename_i idle
      obtain ⟨work, -⟩ := (core_eq_iff _ _).mp restsU.core
      refine ⟨restsU.yields (.inr (idled_idles (o := otherStation st) ?_)), (idled_powered u _).trans poweredU,
        (idled_roomUsed u (otherStation st)).trans_le usedU⟩
      rw [work]
      exact idlePartner_was idle
    · exact ⟨.inl restsU, poweredU, usedU⟩
  obtain ⟨v, made, yields, powered, used⟩ := yields
  rw [made]
  refine fitting_setStation powered yields
    (fun _ => fitsAt_setStation_idle rfl rfl ⟨nofun, nofun, nofun⟩ ⟨nofun, nofun⟩)
    (fun _ _ => heldAt_setStation_idle rfl nofun) fun _ _ within => ?_
  refine (roomUsed_setStation_le (n := 0) ?_).trans (used.trans within)
  exact Nat.zero_le _

/-- A working station pauses, or a PAUSED one takes up its operation: only its work state changes (R96, R97). -/
theorem fitting_work {s : State} {st : StationId} {op : Operation} {w : WorkState}
    (operation : fitsAt s st → (s.station st).operation = some op) (work : w = .paused ∨ w = resumedState op) :
    Fitting s (s.setStation st { s.station st with work := w }) := by
  have free : w ≠ .held := by
    rcases work with rfl | rfl
    · nofun
    · cases op <;> nofun
  refine fitting_setStation rfl (.inl (.refl s _)) (fun fits => ?_) (fun fits holds => ?_)
    fun _ _ within => (roomUsed_setStation_le (n := 0) (by exact Nat.le_refl _)).trans within
  · refine fitsAt_setStation_working (operation fits) work fits.1.2.2.2.2 rfl fun condemned => ?_
    obtain ⟨-, -, isCut, isVerify⟩ := fits.2 condemned
    rw [operation fits] at isCut isVerify
    exact ⟨fun h => isCut (h ▸ rfl), fun h => isVerify (h ▸ rfl)⟩
  · obtain ⟨claims, cuts⟩ := holds
    refine ⟨fun powered => by rw [station_setStation_same]; exact claims powered, fun cut => ?_⟩
    rw [station_setStation_same, cutUnderWay, heldAfterCut_of_work free] at cut
    rw [planOf_setStation, station_setStation_same]
    · refine cuts ?_
      rcases cut with h | h | h
      · exact .inl h
      · exact .inr (.inl h)
      · exact nomatch h
    · rfl

/-- What a working station has in hand. -/
theorem operation_of_working {s : State} {st : StationId} (working : stationWorking (s.station st).work = true)
    (fits : fitsAt s st) : (s.station st).operation ≠ none := by
  obtain ⟨tracing, cutting, scanning, -⟩ := fits.1
  simp only [stationWorking, Bool.or_eq_true, beq_iff_eq] at working
  rcases working with (work | work) | work
  · simp [tracing work]
  · simp [cutting work]
  · rcases scanning work with op | op <;> simp [op]

theorem pauseStation_fitting {s : State} {st : StationId} (byZone : Bool)
    (working : stationWorking (s.station st).work = true) : Fitting s (pauseStation s st byZone) := by
  unfold pauseStation
  refine Fitting.trans ?_ (((Quiet.refl _).send [.halt st]).post _ _ _).fitting
  cases op : (s.station st).operation with
  | none =>
    exact fitting_of_fits fun fits => absurd op (operation_of_working working (fits st))
  | some o => exact fitting_work (fun _ => op) (.inl rfl)

theorem resumeStation_fitting {s : State} {st : StationId} {op : Operation} (powered : s.powered = true)
    (operation : (s.station st).operation = some op) : Fitting s (resumeStation s st op) := by
  unfold resumeStation
  refine (fitting_work (fun _ => operation) (.inr rfl)).trans ?_
  dsimp only
  split
  · exact completeOperation_fitting powered
  · exact (Quiet.foldl (quiet_handRemainder op) _ (.refl _)).fitting

/-! ### CUT START, ACCEPT and RECUT -/

/-- The share of a plan that a station's reference names. -/
theorem shareOf_of_planOf {s : State} {st : StationId} {p : Plan} (plan : planOf s st = some p) :
    shareOf s st = p.shares.get st := by
  rw [shareOf_eq, plan]; rfl

/-- One station's cut begins (R168): judged with the room that the cuts begun in one event take together. -/
structure Begins (n : Nat) (s t : State) : Prop where
  fits : stationsFit s → stationsFit t
  holds : stationsFit s → (∀ st, heldAt s st) → ∀ st, heldAt t st
  room : roomUsed t ≤ roomUsed s + n

theorem Begins.trans {m n : Nat} {s t u : State} (h : Begins m s t) (k : Begins n t u) : Begins (m + n) s u :=
  ⟨k.fits ∘ h.fits, fun fits holds => k.holds (h.fits fits) (h.holds fits holds), by have := h.room; have := k.room; omega⟩

theorem Begins.refl (s : State) : Begins 0 s s := ⟨id, fun _ => id, Nat.le_refl _⟩

theorem Begins.fitting {n : Nat} {s t : State} (h : Begins n s t) (room : roomUsed s ≤ 96 → roomUsed s + n ≤ 96) :
    Fitting s t :=
  ⟨h.fits, fun fits inv => ⟨h.room.trans (room inv.1), h.holds fits inv.2⟩⟩

theorem beginCut_begins {p : Plan} {s : State} {st : StationId} (plan : planOf s st = some p)
    (planned : (s.station st).work = .planned) : Begins (cutReservation p st) s (beginCut p s st) := by
  have quiet (t : State) (x : Side → HeadTask) := (Quiet.refl t).handTasks st x
  unfold beginCut
  dsimp only
  set t := s.setStation st { s.station st with
    reservation := cutReservation p st, recuts := 0, progress := noProgress, deferred := none, operation := some .cut
    work := .cutting, held := none, accepted := false } with ht
  have rests : Rests s t (otherStation st) := (Rests.refl s _).setStation_other (otherStation_ne st) _
  have tasks := quiet t fun d => .passes (stationPasses t st d) 0
  refine ⟨fun fits x => (tasks.rests x).fits ?_, fun _ holds x => (tasks.rests x).holds tasks.powered ?_, ?_⟩
  · rcases station_cases st x with rfl | rfl
    · refine fitsAt_setStation_working (op := .cut) rfl (.inr rfl) (fits _).1.2.2.2.2 rfl fun condemned => ?_
      exact absurd planned ((fits _).2 condemned).1
    · exact rests.fits (fits _)
  · rcases station_cases st x with rfl | rfl
    · refine ⟨fun _ op => by rw [station_setStation_same] at op; exact (nomatch op), fun _ => ?_⟩
      rw [planOf_setStation, station_setStation_same, plan]
      · refine ⟨Nat.le_add_right 1 _, ?_⟩
        rintro q y ⟨⟩ -
        exact Nat.le_refl _
      · rfl
    · exact rests.holds rfl (holds _)
  · refine (tasks.roomUsed).trans_le (roomUsed_setStation_le ?_)
    simp only [stationReserved, Option.isSome_none]
    simp
    omega

/-- CUT START of one station (R166, R168). -/
theorem beginCut_fitting {p : Plan} {s : State} {st : StationId} (plan : planOf s st = some p)
    (planned : (s.station st).work = .planned) (room : (roomFor s (cutReservation p st)).1 = true) :
    Fitting s (beginCut p s st) :=
  (beginCut_begins plan planned).fitting (roomUsed_of_roomFor room)

/-- The beginning of a cut leaves the other station's work state and plan. -/
theorem beginCut_other (p : Plan) (s : State) (st : StationId) :
    ((beginCut p s st).station (otherStation st)).work = (s.station (otherStation st)).work ∧
      planOf (beginCut p s st) (otherStation st) = planOf s (otherStation st) := by
  unfold beginCut
  dsimp only
  set t := s.setStation st { s.station st with
    reservation := cutReservation p st, recuts := 0, progress := noProgress, deferred := none, operation := some .cut
    work := .cutting, held := none, accepted := false }
  have tasks := (Quiet.refl t).handTasks st fun d => .passes (stationPasses t st d) 0
  obtain ⟨work, -⟩ := (core_eq_iff _ _).mp (tasks.core (otherStation st))
  rw [work, tasks.planOf, station_setStation_other]
  exact ⟨rfl, planOf_congr (by rw [station_setStation_other]) rfl⟩

/-- CUT START naming BOTH (R166, R168): each survivor's cut begins. -/
theorem beginCuts_fitting {p : Plan} {s : State} (plan : ∀ st, planOf s st = some p)
    (planned : ∀ st ∈ survivors p, (s.station st).work = .planned)
    (room : (roomFor s (((survivors p).map (cutReservation p)).foldl (· + ·) 0)).1 = true) :
    Fitting s ((survivors p).foldl (beginCut p) s) := by
  refine Begins.fitting (n := ((survivors p).map (cutReservation p)).foldl (· + ·) 0) ?_ (roomUsed_of_roomFor room)
  have order : survivors p = [] ∨ survivors p = [.A] ∨ survivors p = [.B] ∨ survivors p = [.A, .B] := by
    simp only [survivors, stationIds, List.filter_cons, List.filter_nil]
    split <;> split <;> simp
  rcases order with list | list | list | list <;> rw [list] at planned ⊢
  · exact .refl s
  · simpa using beginCut_begins (plan .A) (planned .A (by simp))
  · simpa using beginCut_begins (plan .B) (planned .B (by simp))
  · obtain ⟨work, kept⟩ := beginCut_other p s .A
    have first := beginCut_begins (plan .A) (planned .A (by simp))
    have second : Begins (cutReservation p .B) (beginCut p s .A) (beginCut p (beginCut p s .A) .B) :=
      beginCut_begins (kept.trans (plan .B)) (work.trans (planned .B (by simp)))
    simpa using first.trans second

/-- A share of the plan discarded by a CUT START refused STALE-PLAN (R167). -/
theorem dropStale_fitting (slot : PlanSlot) (s : State) (st : StationId) : Fitting s (dropStale slot s st) := by
  unfold dropStale
  dsimp only
  split
  · rename_i stale
    refine fitting_yields (idled_powered s st) (fun x => ?_) (idled_roomUsed s st).le.trans
    rcases station_cases st x with rfl | rfl
    · exact .inr (idled_idles stale.2.1)
    · exact .inl (idled_rests_other s st)
  · exact .refl s

theorem Fitting.foldl {α : Type} {f : State → α → State} (h : ∀ t a, Fitting t (f t a)) (l : List α) (s : State) :
    Fitting s (l.foldl f s) := by
  induction l generalizing s with
  | nil => exact .refl s
  | cons a as ih => exact (h s a).trans (ih _)

theorem refuseCutStart_fitting (s : State) (slot : PlanSlot) (r : Reason × RefusalDetail) :
    Fitting s (refuseCutStart s slot r).1 := by
  unfold refuseCutStart
  split
  · exact Fitting.foldl (dropStale_fitting slot) _ s
  · exact .refl s

/-! ### A share replaced in its plan -/

theorem setShare_eq (s : State) (st : StationId) (x : Share) : ∃ planner, setShare s st x = s.setPlanner planner := by
  unfold setShare
  split
  · exact ⟨s.planner, rfl⟩
  · split
    · exact ⟨s.planner, rfl⟩
    · exact ⟨_, rfl⟩

@[simp] theorem station_setShare (s : State) (st x : StationId) (y : Share) : (setShare s st y).station x = s.station x := by
  obtain ⟨planner, same⟩ := setShare_eq s st y
  rw [same, station_setPlanner]

theorem setShare_roomUsed (s : State) (st : StationId) (y : Share) : roomUsed (setShare s st y) = roomUsed s := by
  obtain ⟨planner, same⟩ := setShare_eq s st y
  rw [same]; rfl

theorem setShare_powered (s : State) (st : StationId) (y : Share) : (setShare s st y).powered = s.powered := by
  obtain ⟨planner, same⟩ := setShare_eq s st y
  rw [same]; rfl

/-- Where a station has a plan, the share replaced stands in it. -/
theorem setShare_planner {s : State} {st : StationId} {slot : PlanSlot} {p : Plan} (ref : (s.station st).plan = some slot)
    (plan : s.planner.get slot = some p) (y : Share) :
    (setShare s st y).planner = s.planner.set slot (some { p with shares := p.shares.set st (some y) }) := by
  unfold setShare
  rw [ref]
  dsimp only
  rw [plan]
  rfl

theorem planOf_setShare {s : State} {st : StationId} {p : Plan} (plan : planOf s st = some p) (y : Share) :
    planOf (setShare s st y) st = some { p with shares := p.shares.set st (some y) } := by
  obtain ⟨slot, ref, found⟩ := Option.bind_eq_some_iff.mp plan
  rw [planOf_eq, station_setShare, ref, setShare_planner ref found]
  exact Planner.get_set_same _ _ _

theorem shareOf_setShare {s : State} {st : StationId} {p : Plan} (plan : planOf s st = some p) (y : Share) :
    shareOf (setShare s st y) st = some y := by
  rw [shareOf_of_planOf (planOf_setShare plan y)]
  exact PerStation.get_set_same p.shares st (some y)

/-- The other station's share stays, in the same plan (R163, R176). -/
theorem setShare_rests_other (s : State) (st : StationId) (y : Share) : Rests s (setShare s st y) (otherStation st) := by
  refine ⟨by rw [station_setShare], fun p' z plan share => ?_⟩
  cases own : planOf s st with
  | none =>
    have same : setShare s st y = s := by
      unfold setShare
      rw [planOf_eq] at own
      split
      · rfl
      · rename_i slot ref
        rw [ref, Option.bind_some] at own
        rw [own]
    rw [same] at plan
    exact ⟨p', plan, share, rfl⟩
  | some p =>
    obtain ⟨slot, ref, found⟩ := Option.bind_eq_some_iff.mp own
    rw [planOf_eq, station_setShare, setShare_planner ref found] at plan
    by_cases here : (s.station (otherStation st)).plan = some slot
    · rw [here, Option.bind_some, Planner.get_set_same] at plan
      cases plan
      refine ⟨p, by rw [planOf_eq, here, Option.bind_some, found], ?_, rfl⟩
      exact (PerStation.get_set_ne p.shares (otherStation_ne st) _).symm.trans share
    · refine ⟨p', ?_, share, rfl⟩
      cases ref' : (s.station (otherStation st)).plan with
      | none => rw [ref'] at plan; exact nomatch plan
      | some slot' =>
        rw [ref', Option.bind_some, Planner.get_set_ne _ (fun same => here (ref'.trans (congrArg some same)))] at plan
        rw [planOf_eq, ref', Option.bind_some, plan]

/-- APPROVE (R163): the share becomes PLANNED, and the station with it. -/
theorem fitting_approved {s : State} {st : StationId} {y : Share} {z : Share} (share : shareOf s st = some y)
    (held : (s.station st).work = .held) (planned : z.outcome = .planned) :
    Fitting s ((setShare s st z).setStation st { (setShare s st z).station st with work := .planned, held := none }) := by
  obtain ⟨p, plan, -⟩ := Option.bind_eq_some_iff.mp share
  have idle (fits : fitsAt s st) : (s.station st).operation = none := workFits_idle fits.1 (.inr held)
  refine fitting_setStation (setShare_powered s st z) (.inl (setShare_rests_other s st z)) (fun fits => ?_)
    (fun fits _ => heldAt_setStation_idle (by rw [station_setShare]; exact idle fits) nofun)
    fun _ _ within => (roomUsed_setStation_le (n := 0) (by exact Nat.le_refl _)).trans
      ((setShare_roomUsed s st z).trans_le within)
  refine fitsAt_idle ?_ ?_ ?_ ?_
  · rw [station_setStation_same, station_setShare]; exact idle fits
  · rw [station_setStation_same]; exact ⟨nofun, nofun, nofun⟩
  · rw [station_setStation_same, station_setShare]; exact fits.1.2.2.2.2
  · rw [shareOf_setStation, shareOf_setShare plan]
    · intro condemned
      simp [shareCondemned, planned] at condemned
    · rfl

/-- The parts of a share found. -/
theorem shareParts_eq {s : State} {st : StationId} {q : Plan × Share × PerSide WheelPlan} (parts : shareParts s st = some q) :
    planOf s st = some q.1 ∧ q.1.shares.get st = some q.2.1 ∧ q.2.1.wheels = some q.2.2 := by
  obtain ⟨p, plan, rest⟩ := Option.bind_eq_some_iff.mp parts
  obtain ⟨y, share, rest⟩ := Option.bind_eq_some_iff.mp rest
  obtain ⟨ws, wheels, rfl⟩ := Option.map_eq_some_iff.mp rest
  exact ⟨plan, share, wheels⟩

/-- RECUT (R175, R176): the cut goes on with its reservation. -/
theorem beginRecut_fitting {s : State} {st : StationId} {q : Plan × Share × PerSide WheelPlan} (r : Geometry)
    (parts : shareParts s st = some q) (held : heldAfterCut (s.station st) = true) :
    Fitting s (beginRecut s st q.2.1 q.2.2 r) := by
  obtain ⟨plan, share, -⟩ := shareParts_eq parts
  unfold beginRecut
  dsimp only
  set z : Share := { q.2.1 with wheels := some (q.2.2.map (recutWheel r)) }
  refine Fitting.trans ?_ ((Quiet.refl _).handTasks st _).fitting
  refine fitting_setStation (setShare_powered s st z) (.inl (setShare_rests_other s st z)) (fun fits => ?_)
    (fun fits holds => ?_) fun _ _ within => (roomUsed_setStation_le (n := 0) (by exact Nat.le_refl _)).trans
      ((setShare_roomUsed s st z).trans_le within)
  · refine fitsAt_setStation_working (op := .cut) rfl (.inr rfl) ?_ rfl fun condemned => ?_
    · rw [station_setShare]; exact fits.1.2.2.2.2
    · rw [shareOf_setShare plan] at condemned
      have was : shareCondemned (shareOf s st) = true := by rw [shareOf_of_planOf plan, share]; exact condemned
      simp only [heldAfterCut, Bool.and_eq_true, beq_iff_eq] at held
      exact absurd held.1 (fits.2 was).2.1
  · obtain ⟨one, all⟩ := holds.2 (.inr (.inr held))
    refine ⟨fun _ op => by rw [station_setStation_same] at op; exact (nomatch op), fun _ => ?_⟩
    rw [planOf_setStation, station_setStation_same, planOf_setShare plan, station_setShare]
    · refine ⟨one, ?_⟩
      rintro p' y' ⟨⟩ -
      exact all q.1 q.2.1 plan share
    · rfl

/-- ACCEPT (R174). -/
theorem accepted_fitting {s : State} {st : StationId} {q : Plan × Share × PerSide WheelPlan}
    (parts : shareParts s st = some q) (held : heldAfterCut (s.station st) = true) :
    Fitting s (finishCut (s.setStation st { s.station st with accepted := true }) st q.1 q.2.1 q.2.2).1 := by
  obtain ⟨plan, share, -⟩ := shareParts_eq parts
  have marked : Quiet s (s.setStation st { s.station st with accepted := true }) := (Quiet.refl s).setStation st _ rfl rfl rfl
  refine marked.fitting.trans (finishCut_fitting fun _ holds => ?_)
  refine (holds.2 (.inr (.inr ?_))).2 q.1 q.2.1 ?_ share
  · rw [station_setStation_same]; exact held
  · rw [planOf_setStation, plan]
    rfl

end Sys2Proof.Machine

/-! Which parts of the machine a command can change. -/

namespace Sys2Proof.Machine

theorem event_onlyChanges {ps : List Part} {s t : State} {f : State → State} (h : onlyChanges ps s (f s))
    (e : event s f = .next t) : onlyChanges ps s t := by
  cases power : s.powered with
  | true =>
    rw [event_powered s f power] at e
    cases e
    exact h.settle s
  | false =>
    rw [event_unpowered s f power] at e
    cases e
    exact onlyChanges_refl ps s

theorem serve_onlyChanges {α : Type} {mine : Frame → Bool} {parse : Bytes → Option α} {own : State → α → State × ReplyBody}
    {s : State} {ps : List Part} (h : ∀ a, onlyChanges ps s (own s a).1) (link : Part.link ∈ ps) :
    onlyChanges ps s (serve mine parse own s) := by
  have stays := onlyChanges_refl ps s
  unfold serve
  split
  · exact stays
  · split
    · split
      · split
        · exact stays.answer link _ _
        · exact (h _).answer link _ _
      · exact stays
    · exact stays.answer link _ _

theorem request_onlyChanges {α : Type} {mine : Frame → Bool} {parse : Bytes → Option α}
    {own : State → α → State × ReplyBody} {s t : State} {ps : List Part} (h : ∀ a, onlyChanges ps s (own s a).1)
    (e : event s (serve mine parse own) = .next t) (link : Part.link ∈ ps) : onlyChanges ps s t :=
  event_onlyChanges (serve_onlyChanges h link) e

theorem onNotice_onlyChanges {s : State} {p : Notice → Bool} {act : Notice → State → State} {ps : List Part}
    (h : ∀ n u, onlyChanges ps u (act n u)) : onlyChanges ps s (onNotice s p act) := by
  unfold onNotice
  split
  · exact onlyChanges_refl ps s
  · exact ((onlyChanges_refl ps s).setNotices _).trans (h _ _)

theorem notice_onlyChanges {s t : State} {p : Notice → Bool} {act : Notice → State → State} {ps : List Part}
    (h : ∀ n u, onlyChanges ps u (act n u)) (e : event s (fun s => onNotice s p act) = .next t) : onlyChanges ps s t :=
  event_onlyChanges (onNotice_onlyChanges h) e

theorem expiry_onlyChanges {s t : State} {ch : Channel} {act : State → State} {ps : List Part}
    (h : ∀ u, onlyChanges ps u (act u)) (e : event s (fun s => onExpiry s ch act) = .next t) : onlyChanges ps s t := by
  refine event_onlyChanges ?_ e
  have kept (rest : List Notice) := (onlyChanges_refl ps s).setNotices rest
  obtain same | ⟨rest, gone | acted⟩ := onExpiry_cases s ch act
  · rw [same]; exact onlyChanges_refl ps s
  · rw [gone]; exact kept rest
  · rw [acted]; exact (kept rest).trans (h _)

theorem onDiscoverExpiry_onlyChanges {s : State} {is : DiscoveryWait → Bool} {act : State → Nat → State} {ps : List Part}
    (h : ∀ t p, onlyChanges ps t (act t p)) : onlyChanges ps s (onDiscoverExpiry s is act) := by
  have kept (rest : List Notice) := (onlyChanges_refl ps s).setNotices rest
  unfold onDiscoverExpiry
  obtain same | ⟨rest, gone | acted⟩ := onExpiry_cases s .discover
    (fun t => if is t.loop.wait then act t (t.loop.discovery.getD 0) else s)
  · rw [same]; exact onlyChanges_refl ps s
  · rw [gone]; exact kept rest
  · rw [acted]
    split
    · exact (kept rest).trans (h _ _)
    · exact onlyChanges_refl ps s

/-! ### The link, the settings, the clock and the attention queue -/

section
variable {s t : State}

theorem execStartMark_onlyChanges {ch : RxChar} (e : execStartMark ch s = .next t) : onlyChanges [.link] s t := by
  refine event_onlyChanges ?_ e
  split
  · exact (onlyChanges_refl _ s).setLink (by simp) _
  · exact onlyChanges_refl _ s

theorem execGoodFrameArrival_onlyChanges {chars : List RxChar} (e : execGoodFrameArrival chars s = .next t) :
    onlyChanges [.link] s t := by
  have refl := onlyChanges_refl [.link] s
  refine event_onlyChanges ?_ e
  split
  · split
    · unfold deliverFrame
      split
      · exact (refl.setLink (by simp) _).setLink (by simp) _
      · split
        · exact refl.setLink (by simp) _
        · exact (refl.setLink (by simp) _).setLink (by simp) _
    · exact refl
    · exact refl
  · exact refl

theorem execFrameDiscard_onlyChanges {chars : List RxChar} (e : execFrameDiscard chars s = .next t) :
    onlyChanges [.link] s t := by
  refine event_onlyChanges ?_ e
  split
  · exact (onlyChanges_refl _ s).setLink (by simp) _
  · exact onlyChanges_refl _ s

theorem execInterByteTimeout_onlyChanges (e : execInterByteTimeout s = .next t) : onlyChanges [.link] s t := by
  refine event_onlyChanges ?_ e
  split
  · exact (onlyChanges_refl _ s).setLink (by simp) _
  · exact onlyChanges_refl _ s

theorem execReplySent_onlyChanges (e : execReplySent s = .next t) : onlyChanges [.link] s t := by
  refine event_onlyChanges ?_ e
  split
  · exact onlyChanges_refl _ s
  · exact (onlyChanges_refl _ s).setLink (by simp) _

theorem execRestart_onlyChanges (e : execRestart s = .next t) : onlyChanges [.link] s t := by
  refine event_onlyChanges ?_ e
  have served : onlyChanges [.link] s (serve (ofKind 7) parseNone (fun s _ =>
      if pitAtRest s then (s.setLink { s.link with restarting := true }, .done .empty) else refuse s .unsafe_) s) := by
    refine serve_onlyChanges (fun _ => ?_) (by simp)
    split
    · exact (onlyChanges_refl _ s).setLink (by simp) _
    · exact onlyChanges_refl _ s
  dsimp only
  split
  · exact served.setLink (by simp) _
  · exact served

theorem execIdentify_onlyChanges (e : execIdentify s = .next t) : onlyChanges [.link] s t :=
  request_onlyChanges (fun _ => onlyChanges_refl _ s) e (by simp)

theorem execStatus_onlyChanges (e : execStatus s = .next t) : onlyChanges [.link] s t :=
  request_onlyChanges (fun _ => onlyChanges_refl _ s) e (by simp)

theorem execSettingRead_onlyChanges (e : execSettingRead s = .next t) : onlyChanges [.link] s t :=
  request_onlyChanges (fun _ => onlyChanges_refl _ s) e (by simp)

theorem execNodeList_onlyChanges (e : execNodeList s = .next t) : onlyChanges [.link] s t :=
  request_onlyChanges (fun _ => onlyChanges_refl _ s) e (by simp)

theorem execStationReport_onlyChanges (e : execStationReport s = .next t) : onlyChanges [.link] s t :=
  request_onlyChanges (fun _ => onlyChanges_refl _ s) e (by simp)

theorem execProfileRead_onlyChanges (e : execProfileRead s = .next t) : onlyChanges [.link] s t := by
  have refl := onlyChanges_refl [.link] s
  refine request_onlyChanges (fun f => ?_) e (by simp)
  split
  · exact refl
  · split <;> exact refl

theorem execRecordRead_onlyChanges (e : execRecordRead s = .next t) : onlyChanges [.link] s t := by
  have refl := onlyChanges_refl [.link] s
  refine request_onlyChanges (fun f => ?_) e (by simp)
  split
  · exact refl
  · split
    · exact refl
    · split <;> exact refl

theorem execSetClock_onlyChanges (e : execSetClock s = .next t) : onlyChanges [.link, .clock] s t :=
  request_onlyChanges (fun _ => (onlyChanges_refl _ s).setClock (by simp) _) e (by simp)

theorem execSettingWrite_onlyChanges (e : execSettingWrite s = .next t) : onlyChanges [.link, .settings] s t := by
  refine request_onlyChanges (fun p => ?_) e (by simp)
  dsimp only
  split
  · exact (onlyChanges_refl _ s).setSettings (by simp) _
  · split <;> exact (onlyChanges_refl _ s).setSettings (by simp) _

theorem execLoopErrorKindsWrite_onlyChanges (e : execLoopErrorKindsWrite s = .next t) :
    onlyChanges [.link, .settings] s t :=
  request_onlyChanges (fun _ => (onlyChanges_refl _ s).setSettings (by simp) _) e (by simp)

theorem execPitMapWrite_onlyChanges (e : execPitMapWrite s = .next t) : onlyChanges [.link, .settings] s t := by
  refine request_onlyChanges (fun _ => ?_) e (by simp)
  split
  · exact onlyChanges_refl _ s
  · exact (onlyChanges_refl _ s).setSettings (by simp) _

theorem execTakeAttention_onlyChanges (e : execTakeAttention s = .next t) : onlyChanges [.link, .attention] s t := by
  refine request_onlyChanges (fun _ => ?_) e (by simp)
  split
  · exact onlyChanges_refl _ s
  · exact (onlyChanges_refl _ s).setAttention (by simp) _

theorem execAttentionPosting_onlyChanges {i : Nat} (e : execAttentionPosting i s = .next t) :
    onlyChanges [.attention] s t := by
  refine event_onlyChanges ?_ e
  split
  · exact onlyChanges_refl _ s
  · exact ((onlyChanges_refl _ s).setNotices _).setAttention (by simp) _

theorem execClockWrap_onlyChanges (e : execClockWrap s = .next t) : onlyChanges [.clock] s t := by
  have refl := onlyChanges_refl [.clock] s
  refine event_onlyChanges ?_ e
  split
  · exact (refl.setClock (by simp) _).post _ _ _
  · exact refl

theorem execClockAdvance_onlyChanges (e : execClockAdvance s = .next t) : onlyChanges [.clock] s t := by
  have refl := onlyChanges_refl [.clock] s
  refine event_onlyChanges ?_ e
  split
  · exact (refl.setClock (by simp) _).post _ _ _
  · split <;> exact refl.setClock (by simp) _

/-! ### The zone, the timers and the warnings -/

theorem execReturnPending_onlyChanges {input : PitInput} {safe : Bool} (e : execReturnPending input safe s = .next t) :
    onlyChanges [.zone] s t := by
  have refl := onlyChanges_refl [.zone] s
  refine event_onlyChanges ?_ e
  split
  · split
    · exact refl.setZone (by simp) _
    · exact refl
  · split
    · exact refl.setZone (by simp) _
    · exact refl

theorem execBreach_onlyChanges (e : execBreach s = .next t) : onlyChanges [.zone] s t := by
  refine event_onlyChanges ?_ e
  split
  · exact ((onlyChanges_refl _ s).setZone (by simp) _).send _
  · exact onlyChanges_refl _ s

theorem execClear_onlyChanges (e : execClear s = .next t) : onlyChanges [.zone] s t := by
  refine event_onlyChanges ?_ e
  split
  · exact ((onlyChanges_refl _ s).setZone (by simp) _).send _
  · exact onlyChanges_refl _ s

theorem execChainBreak_onlyChanges (e : execChainBreak s = .next t) : onlyChanges [.zone] s t := by
  refine event_onlyChanges ?_ e
  split
  · exact ((onlyChanges_refl _ s).setZone (by simp) _).send _
  · exact onlyChanges_refl _ s

theorem execHealthy_onlyChanges (e : execHealthy s = .next t) : onlyChanges [.zone] s t := by
  refine event_onlyChanges ?_ e
  split
  · exact ((onlyChanges_refl _ s).setZone (by simp) _).send _
  · exact onlyChanges_refl _ s

theorem execZoneGateClose_onlyChanges (e : execZoneGateClose s = .next t) : onlyChanges [.timers] s t :=
  notice_onlyChanges (fun _ u => (onlyChanges_refl _ u).setTimers (by simp) _) e

theorem execZoneGateOpen_onlyChanges (e : execZoneGateOpen s = .next t) : onlyChanges [.timers] s t :=
  notice_onlyChanges (fun _ u => (onlyChanges_refl _ u).setTimers (by simp) _) e

theorem execTimerExpiry_onlyChanges {ch : Channel} (e : execTimerExpiry ch s = .next t) : onlyChanges [.timers] s t := by
  refine event_onlyChanges ?_ e
  dsimp only
  split
  · exact ((onlyChanges_refl _ s).setTimers (by simp) _).send _
  · exact onlyChanges_refl _ s

theorem execHornMute_onlyChanges (e : execHornMute s = .next t) : onlyChanges [.link, .warnings] s t :=
  request_onlyChanges (fun _ => (onlyChanges_refl _ s).setWarnings (by simp) (retone { s.warnings with muted := true } s.uptime)) e (by simp)

theorem execPanelSet_onlyChanges (e : execPanelSet s = .next t) : onlyChanges [.link, .warnings] s t :=
  request_onlyChanges (fun _ => (onlyChanges_refl _ s).setWarnings (by simp) _) e (by simp)

theorem execWarningViewNotice_onlyChanges {src : ViewSource} (e : execWarningViewNotice src s = .next t) :
    onlyChanges [.warnings] s t := by
  refine notice_onlyChanges (fun n u => ?_) e
  split
  · exact (onlyChanges_refl _ u).setWarnings (by simp) _
  · exact onlyChanges_refl _ u

theorem execPanelRefresh_onlyChanges (e : execPanelRefresh s = .next t) : onlyChanges [.warnings] s t :=
  event_onlyChanges ((onlyChanges_refl [.warnings] s).setWarnings (by simp) { s.warnings with shown := s.warnings.cells }) e

theorem execProfileLoadClear_onlyChanges (e : execProfileLoadClear s = .next t) : onlyChanges [.link, .profiles] s t := by
  refine request_onlyChanges (fun slot => ?_) e (by simp)
  have emptied : onlyChanges [.link, .profiles] s (setBuffer s none) := (onlyChanges_refl _ s).setProfiles (by simp) _
  dsimp only
  split
  · exact emptied
  · split
    · exact emptied
    · exact emptied.setProfiles (by simp) _

theorem execProfileLoadFirstPart_onlyChanges (e : execProfileLoadFirstPart s = .next t) :
    onlyChanges [.link, .profiles] s t := by
  refine request_onlyChanges (fun f => ?_) e (by simp)
  have emptied : onlyChanges [.link, .profiles] s (setBuffer s none) := (onlyChanges_refl _ s).setProfiles (by simp) _
  dsimp only
  split
  · exact emptied
  · split
    · split
      · exact emptied
      · exact emptied.setProfiles (by simp) _
    · exact emptied.setProfiles (by simp) _

theorem execProfileLoadSecondPart_onlyChanges (e : execProfileLoadSecondPart s = .next t) :
    onlyChanges [.link, .profiles] s t := by
  have refl := onlyChanges_refl [.link, .profiles] s
  refine request_onlyChanges (fun f => ?_) e (by simp)
  have emptied : onlyChanges [.link, .profiles] s (setBuffer s none) := refl.setProfiles (by simp) _
  split
  · exact refl
  · split
    · exact refl
    · split
      · exact emptied
      · split
        · exact refl
        · exact emptied.setProfiles (by simp) _

/-! ### The loop -/

theorem execLoopStart_onlyChanges (e : execLoopStart s = .next t) : onlyChanges [.link, .loop, .timers] s t := by
  refine request_onlyChanges (fun _ => ?_) e (by simp)
  split
  · exact onlyChanges_refl _ s
  · exact (onlyChanges_refl _ s).startLoopDark (by simp) (by simp)

theorem execMapAdopt_onlyChanges (e : execMapAdopt s = .next t) : onlyChanges [.link, .settings, .loop] s t := by
  refine request_onlyChanges (fun _ => ?_) e (by simp)
  split
  · exact onlyChanges_refl _ s
  · split
    · exact ((onlyChanges_refl _ s).setSettings (by simp) _).assignRoles (by simp) _
    · exact onlyChanges_refl _ s

theorem execDarkHoldExpiry_onlyChanges (e : execDarkHoldExpiry s = .next t) : onlyChanges [.loop, .timers] s t :=
  event_onlyChanges (onDiscoverExpiry_onlyChanges fun u _ => (onlyChanges_refl _ u).diagnose (by simp) (by simp) 1) e

theorem execDiagnosisTimeout_onlyChanges (e : execDiagnosisTimeout s = .next t) : onlyChanges [.loop, .timers] s t :=
  event_onlyChanges (onDiscoverExpiry_onlyChanges fun u p => (onlyChanges_refl _ u).stopDiscovery (by simp) (by simp) p _ _) e

theorem execIdentityQueryTimeout_onlyChanges (e : execIdentityQueryTimeout s = .next t) :
    onlyChanges [.loop, .timers] s t :=
  event_onlyChanges (onDiscoverExpiry_onlyChanges fun u _ => ((onlyChanges_refl _ u).setLoop (by simp) _).endDiscovery (by simp) (by simp) _) e

theorem execSegmentDiagnosis_onlyChanges {outcome : SegmentOutcome} {localized : Bool}
    (e : execSegmentDiagnosis outcome localized s = .next t) : onlyChanges [.loop, .timers] s t := by
  have refl := onlyChanges_refl [.loop, .timers] s
  refine event_onlyChanges ?_ e
  split
  · dsimp only
    split
    · exact (refl.setLoop (by simp) _).awaitDiscover (by simp) (by simp) _ _
    · exact refl.stopDiscovery (by simp) (by simp) _ _ _
  · exact refl

theorem execIdentityAnswer_onlyChanges {ok : Bool} {kind : NodeKind} {serial : Word32}
    (e : execIdentityAnswer ok kind serial s = .next t) : onlyChanges [.loop, .timers] s t := by
  have refl := onlyChanges_refl [.loop, .timers] s
  refine event_onlyChanges ?_ e
  split
  · split
    · exact refl
    · dsimp only
      split
      · split
        · exact (refl.setLoop (by simp) _).diagnose (by simp) (by simp) _
        · exact (refl.setLoop (by simp) _).endDiscovery (by simp) (by simp) _
      · split
        · exact refl.awaitDiscover (by simp) (by simp) _ _
        · exact refl.stopDiscovery (by simp) (by simp) _ _ _
  all_goals exact refl

theorem execLoopCycle_onlyChanges {slots : List (Nat × SlotReport)} (e : execLoopCycle slots s = .next t) :
    onlyChanges [.loop] s t := by
  refine event_onlyChanges ?_ e
  split
  · have cycled (x : LoopControl) (fs : List LoopError) (ns : List Notice) :=
      (((onlyChanges_refl [.loop] s).setLoop (by simp) x).takeFailures (by simp) fs).send ns
    dsimp only
    split
    · exact (cycled _ _ _).send _
    · exact cycled _ _ _
  · exact onlyChanges_refl _ s

/-- The part of a loop owner. -/
def ownerPart : LoopOwner → Part
  | .lift => .lift
  | .clamps => .clamps
  | .heads => .heads

theorem execLoopDownNotice_onlyChanges {owner : LoopOwner} (e : execLoopDownNotice owner s = .next t) :
    onlyChanges [ownerPart owner] s t := by
  refine notice_onlyChanges (fun _ u => ?_) e
  cases owner with
  | lift => exact (onlyChanges_refl _ u).setLift (List.mem_singleton.mpr rfl) _
  | clamps => exact (onlyChanges_refl _ u).setClamps (List.mem_singleton.mpr rfl) _
  | heads => exact (onlyChanges_refl _ u).setHeads (List.mem_singleton.mpr rfl) _

/-! ### The lift -/

theorem execLiftRaise_onlyChanges (e : execLiftRaise s = .next t) : onlyChanges [.link, .lift, .timers] s t := by
  refine request_onlyChanges (fun _ => ?_) e (by simp)
  split
  · exact onlyChanges_refl _ s
  · exact ((onlyChanges_refl _ s).setLift (by simp) _).enterWarning (by simp) (by simp)

theorem execLiftLower_onlyChanges (e : execLiftLower s = .next t) : onlyChanges [.link, .lift, .timers] s t := by
  refine request_onlyChanges (fun _ => ?_) e (by simp)
  split
  · exact onlyChanges_refl _ s
  · exact ((onlyChanges_refl _ s).setLift (by simp) _).enterWarning (by simp) (by simp)

theorem execLiftResume_onlyChanges (e : execLiftResume s = .next t) : onlyChanges [.link, .lift, .timers] s t := by
  refine request_onlyChanges (fun _ => ?_) e (by simp)
  split
  · exact onlyChanges_refl _ s
  · exact (onlyChanges_refl _ s).enterWarning (by simp) (by simp)

theorem execLiftStop_onlyChanges (e : execLiftStop s = .next t) : onlyChanges [.link, .lift, .timers] s t := by
  refine request_onlyChanges (fun _ => ?_) e (by simp)
  split
  · exact (onlyChanges_refl _ s).enterHolding (by simp) (by simp) _ _
  · exact onlyChanges_refl _ s

theorem execWarnExpiry_onlyChanges (e : execWarnExpiry s = .next t) : onlyChanges [.lift, .timers] s t := by
  refine expiry_onlyChanges (fun u => ?_) e
  split
  · split
    · exact (onlyChanges_refl _ u).enterRaising (by simp) (by simp)
    · exact (onlyChanges_refl _ u).enterLowering (by simp) (by simp)
  · exact onlyChanges_refl _ u

theorem execStepExpiry_onlyChanges (e : execStepExpiry s = .next t) : onlyChanges [.lift, .timers] s t := by
  refine expiry_onlyChanges (fun u => ?_) e
  split
  · exact (onlyChanges_refl _ u).enterHolding (by simp) (by simp) _ _
  · exact onlyChanges_refl _ u

theorem execSettleExpiry_onlyChanges (e : execSettleExpiry s = .next t) : onlyChanges [.lift, .timers] s t := by
  refine expiry_onlyChanges (fun u => ?_) e
  split
  · split
    · exact (onlyChanges_refl _ u).enterHolding (by simp) (by simp) _ _
    · exact ((onlyChanges_refl _ u).setLift (by simp) _).post _ _ _
  · exact onlyChanges_refl _ u

theorem execPaceExpiry_onlyChanges (e : execPaceExpiry s = .next t) : onlyChanges [.lift, .timers] s t := by
  refine expiry_onlyChanges (fun u => ?_) e
  split
  · exact (onlyChanges_refl _ u).paceStep (by simp) (by simp)
  · exact onlyChanges_refl _ u

theorem execLiftLoopUp_onlyChanges (e : execLiftLoopUp s = .next t) : onlyChanges [.lift] s t := by
  refine notice_onlyChanges (fun _ u => ?_) e
  dsimp only
  split
  · exact (onlyChanges_refl _ u).setLift (by simp) _
  · exact ((onlyChanges_refl _ u).setLift (by simp) _).post _ _ _

theorem execColumnReport_onlyChanges {c : Column} (e : execColumnReport c s = .next t) :
    onlyChanges [.lift, .timers] s t := by
  refine notice_onlyChanges (fun n u => ?_) e
  split
  · exact onlyChanges_refl _ u
  · exact ((onlyChanges_refl _ u).setLift (by simp) _).liftCheck (by simp) (by simp)

theorem execColumnLost_onlyChanges {c : Column} (e : execColumnLost c s = .next t) : onlyChanges [.lift, .timers] s t := by
  refine notice_onlyChanges (fun _ u => ?_) e
  have recorded := (onlyChanges_refl [.lift, .timers] u).setLift (by simp)
    { u.lift with columns := u.lift.columns.set c { u.lift.columns.get c with condition := .lost } }
  dsimp only
  split
  · exact recorded
  · exact recorded
  · exact recorded.post _ _ _
  all_goals exact recorded.enterLiftFaulted (by simp) (by simp) c

theorem execColumnRegained_onlyChanges {c : Column} (e : execColumnRegained c s = .next t) : onlyChanges [.lift] s t := by
  refine notice_onlyChanges (fun n u => ?_) e
  dsimp only
  split <;> exact (onlyChanges_refl _ u).setLift (by simp) _

theorem execLiftBreachNotice_onlyChanges (e : execLiftBreachNotice s = .next t) : onlyChanges [.lift, .timers] s t := by
  refine notice_onlyChanges (fun _ u => ?_) e
  dsimp only
  split
  · exact ((onlyChanges_refl _ u).setLift (by simp) _).enterHolding (by simp) (by simp) _ _
  · exact (onlyChanges_refl _ u).setLift (by simp) _

theorem execLiftBreakNotice_onlyChanges (e : execLiftBreakNotice s = .next t) : onlyChanges [.lift, .timers] s t := by
  refine notice_onlyChanges (fun _ u => ?_) e
  dsimp only
  split
  · exact ((onlyChanges_refl _ u).setLift (by simp) _).enterHolding (by simp) (by simp) _ _
  · exact (onlyChanges_refl _ u).setLift (by simp) _

/-! ### The clamps -/

theorem execClampClose_onlyChanges (e : execClampClose s = .next t) : onlyChanges [.link, .clamps, .timers] s t := by
  refine request_onlyChanges (fun st => ?_) e (by simp)
  split
  · exact onlyChanges_refl _ s
  · exact ((onlyChanges_refl _ s).moveClamp (by simp) st _).startTimer (by simp) _

theorem execClampOpen_onlyChanges (e : execClampOpen s = .next t) : onlyChanges [.link, .clamps, .timers] s t := by
  refine request_onlyChanges (fun st => ?_) e (by simp)
  split
  · exact onlyChanges_refl _ s
  · exact ((onlyChanges_refl _ s).moveClamp (by simp) st _).startTimer (by simp) _

theorem execClampTimerExpiry_onlyChanges {st : StationId} (e : execClampTimerExpiry st s = .next t) :
    onlyChanges [.clamps, .timers] s t := by
  refine expiry_onlyChanges (fun u => ?_) e
  split
  · exact (onlyChanges_refl _ u).faultClamp (by simp) (by simp) st _
  · exact onlyChanges_refl _ u

theorem execClampLoopUp_onlyChanges (e : execClampLoopUp s = .next t) : onlyChanges [.clamps, .timers] s t :=
  notice_onlyChanges (fun _ u => (((onlyChanges_refl _ u).setClamps (by simp) _).deriveClamp (by simp) (by simp) _ .A).deriveClamp (by simp) (by simp) _ .B) e

theorem execClampReport_onlyChanges {st : StationId} (e : execClampReport st s = .next t) :
    onlyChanges [.clamps, .timers] s t := by
  refine notice_onlyChanges (fun n u => ?_) e
  split
  · exact (onlyChanges_refl _ u).clampReported (by simp) (by simp) st _ _ _
  all_goals exact onlyChanges_refl _ u

theorem execClampBreakNotice_onlyChanges (e : execClampBreakNotice s = .next t) : onlyChanges [.clamps, .timers] s t := by
  refine notice_onlyChanges (fun _ u => ?_) e
  have viewed := (onlyChanges_refl [.clamps, .timers] u).setClamps (by simp)
    { u.clamps with view := { u.clamps.view with stop := u.zone.stop } }
  dsimp only
  split
  · split
    · exact (viewed.faultClamp (by simp) (by simp) _ _).faultClamp (by simp) (by simp) _ _
    · exact viewed.faultClamp (by simp) (by simp) _ _
  · split
    · exact viewed.faultClamp (by simp) (by simp) _ _
    · exact viewed

theorem execClampLost_onlyChanges {st : StationId} (e : execClampLost st s = .next t) :
    onlyChanges [.clamps, .timers] s t := by
  refine notice_onlyChanges (fun _ u => ?_) e
  have recorded := (onlyChanges_refl [.clamps, .timers] u).setClamp (by simp) st { u.clamp st with condition := .lost }
  dsimp only
  split
  · exact recorded.faultClamp (by simp) (by simp) st _
  · exact recorded.faultClamp (by simp) (by simp) st _
  · exact (recorded.faultClamp (by simp) (by simp) st _).send _
  · exact recorded
  · exact recorded

theorem execClampRegained_onlyChanges {st : StationId} (e : execClampRegained st s = .next t) :
    onlyChanges [.clamps] s t := by
  refine notice_onlyChanges (fun n u => ?_) e
  dsimp only
  split <;> exact (onlyChanges_refl _ u).setClamp (by simp) st _

/-! ### The heads -/

theorem execInsertChanged_onlyChanges (e : execInsertChanged s = .next t) : onlyChanges [.link, .heads] s t := by
  refine request_onlyChanges (fun h => ?_) e (by simp)
  split
  · exact (onlyChanges_refl _ s).setHead (by simp) h _
  · exact onlyChanges_refl _ s

theorem execHeadTimerExpiry_onlyChanges {h : HeadId} (e : execHeadTimerExpiry h s = .next t) :
    onlyChanges [.heads, .timers] s t := by
  refine expiry_onlyChanges (fun u => ?_) e
  split
  · exact (onlyChanges_refl _ u).faultHead (by simp) (by simp) h _
  · exact onlyChanges_refl _ u

theorem execHeadLoopUp_onlyChanges (e : execHeadLoopUp s = .next t) : onlyChanges [.heads] s t := by
  refine notice_onlyChanges (fun n u => ?_) e
  exact onlyChanges.foldl (fun v k => (onlyChanges_refl _ v).deriveHead (by simp) _ k) _
    ((onlyChanges_refl _ u).setHeads (by simp) { u.heads with loopUp := true })

theorem execTaskHanded_onlyChanges {h : HeadId} (e : execTaskHanded h s = .next t) : onlyChanges [.heads, .timers] s t := by
  refine notice_onlyChanges (fun n u => ?_) e
  split
  · exact (onlyChanges_refl _ u).takeTask (by simp) (by simp) h _
  · exact onlyChanges_refl _ u

theorem execHeadBreachNotice_onlyChanges (e : execHeadBreachNotice s = .next t) : onlyChanges [.heads, .timers] s t := by
  refine notice_onlyChanges (fun _ u => ?_) e
  exact onlyChanges.foldl (fun v k => (onlyChanges_refl _ v).haltHead (by simp) (by simp) k) _
    ((onlyChanges_refl _ u).setHeads (by simp) { u.heads with view := { u.heads.view with zone := u.zone.zone } })

theorem execHaltNotice_onlyChanges {st : StationId} (e : execHaltNotice st s = .next t) :
    onlyChanges [.heads, .timers] s t :=
  notice_onlyChanges (fun _ u => onlyChanges.foldl (fun v k => (onlyChanges_refl _ v).haltHead (by simp) (by simp) k) _ (onlyChanges_refl _ u)) e

theorem execHeadBreakNotice_onlyChanges (e : execHeadBreakNotice s = .next t) : onlyChanges [.heads, .timers] s t := by
  refine notice_onlyChanges (fun _ u => ?_) e
  exact onlyChanges.foldl (fun v k => (onlyChanges_refl _ v).withdrawHead (by simp) (by simp) k) _
    ((onlyChanges_refl _ u).setHeads (by simp) { u.heads with view := { u.heads.view with stop := u.zone.stop } })

theorem execWithdrawNotice_onlyChanges {st : StationId} (e : execWithdrawNotice st s = .next t) :
    onlyChanges [.heads, .timers] s t :=
  notice_onlyChanges (fun _ u => onlyChanges.foldl (fun v k => (onlyChanges_refl _ v).withdrawHead (by simp) (by simp) k) _
    (onlyChanges_refl _ u)) e

theorem execHeadLost_onlyChanges {h : HeadId} (e : execHeadLost h s = .next t) : onlyChanges [.heads, .timers] s t := by
  refine notice_onlyChanges (fun _ u => ?_) e
  have recorded := (onlyChanges_refl [.heads, .timers] u).setHead (by simp) h { u.head h with condition := .lost }
  dsimp only
  split
  · exact recorded
  · exact recorded.faultHead (by simp) (by simp) h _

theorem execHeadRegained_onlyChanges {h : HeadId} (e : execHeadRegained h s = .next t) : onlyChanges [.heads] s t := by
  refine notice_onlyChanges (fun n u => ?_) e
  dsimp only
  split <;> exact (onlyChanges_refl _ u).setHead (by simp) h _

/-! ### The samples of a trace and of a scan -/

theorem execTraceSamples_onlyChanges {h : HeadId} (e : execTraceSamples h s = .next t) : onlyChanges [.traces] s t := by
  refine notice_onlyChanges (fun n u => ?_) e
  split
  · dsimp only
    split
    · exact onlyChanges_refl _ u
    · exact (onlyChanges_refl _ u).setTraceUnit (by simp) _ _
  · exact onlyChanges_refl _ u

theorem execScanSamples_onlyChanges {h : HeadId} (e : execScanSamples h s = .next t) : onlyChanges [.traces] s t := by
  refine notice_onlyChanges (fun n u => ?_) e
  split
  · dsimp only
    split
    · exact onlyChanges_refl _ u
    · exact (onlyChanges_refl _ u).setTraceUnit (by simp) _ _
  · exact onlyChanges_refl _ u

end

end Sys2Proof.Machine

namespace Sys2Proof.Machine

/-! ### Entries written, and nothing else of the room -/

/-- An event that leaves stations and plans, and takes at most `n` slots of the Export Queue. -/
structure Writes (n : Nat) (s t : State) : Prop where
  stations : t.stations = s.stations
  planner : t.planner = s.planner
  powered : t.powered = s.powered
  room : roomUsed t ≤ roomUsed s + n

theorem Writes.refl (s : State) : Writes 0 s s := ⟨rfl, rfl, rfl, Nat.le_refl _⟩

theorem Writes.trans {m n : Nat} {s t u : State} (h : Writes m s t) (k : Writes n t u) : Writes (m + n) s u :=
  ⟨k.stations.trans h.stations, k.planner.trans h.planner, k.powered.trans h.powered, by
    have := h.room; have := k.room; omega⟩

theorem Writes.mono {m n : Nat} {s t : State} (h : Writes m s t) (le : m ≤ n) : Writes n s t :=
  ⟨h.stations, h.planner, h.powered, by have := h.room; omega⟩

theorem writes_append (s : State) (serial : Serial) (body : EntryBody) (upd : WheelsetRecord → WheelsetRecord) :
    Writes 1 s (append s serial body upd) :=
  ⟨append_stations _ _ _ _, append_planner _ _ _ _, append_powered _ _ _ _, roomUsed_append _ _ _ _⟩

/-- The records changed, the queue as it was. -/
theorem writes_setHistory (s : State) {h : History} (queue : h.exportQueue.length = s.history.exportQueue.length) :
    Writes 0 s (s.setHistory h) :=
  ⟨rfl, rfl, rfl, by rw [roomUsed, roomUsed, State.setHistory_history, queue]; exact Nat.le_refl _⟩

theorem Writes.rests {n : Nat} {s t : State} (h : Writes n s t) (st : StationId) : Rests s t st := by
  have same : t.station st = s.station st := congrArg (PerStation.get · st) h.stations
  exact ⟨by rw [same], shareKept_of_planOf (planOf_congr (by rw [same]) h.planner)⟩

theorem Writes.station {n : Nat} {s t : State} (h : Writes n s t) (st : StationId) : t.station st = s.station st :=
  congrArg (PerStation.get · st) h.stations

theorem Writes.fitting {n : Nat} {s t : State} (h : Writes n s t) (room : (roomFor s n).1 = true) : Fitting s t :=
  fitting_yields h.powered (fun st => .inl (h.rests st)) fun within => h.room.trans (roomUsed_of_roomFor room within)

theorem writes_displace (s : State) (r : WheelsetRecord) (cause : Serial) : Writes 1 s (displace s r cause) := by
  unfold displace
  split
  · exact (Writes.refl s).mono (Nat.zero_le _)
  · exact writes_append _ _ _ _

/-- RECORD ENTER (R192, R194). -/
theorem writes_enterRecord (s : State) (f : EnterFields) :
    Writes (if f.position.isNone then 0 else if (otherHolder s f.serial f.position).isNone then 1 else 2) s
      (enterRecord s f) := by
  unfold enterRecord
  cases position : f.position with
  | none =>
    exact writes_setHistory s rfl
  | some p =>
    dsimp only
    have joined (t : State) : Writes 1 t
        (append (t.setHistory { t.history with records := t.history.records ++ [newRecord f] }) f.serial (.fitted p none) id) :=
      (writes_setHistory t (h := { t.history with records := t.history.records ++ [newRecord f] }) rfl).trans
        (writes_append _ _ _ _)
    cases holder : otherHolder s f.serial (some p) with
    | none => exact joined s
    | some r => exact (writes_displace s r f.serial).trans (joined _)

/-- RECORD FIT (R194). -/
theorem writes_fitRecord {s : State} {r : WheelsetRecord} {p : Option Position} (moves : r.position ≠ p) :
    Writes (fitEntries s r p) s (fitRecord s r p) := by
  unfold fitRecord fitEntries
  rw [if_neg moves]
  cases holder : otherHolder s r.serial p with
  | none =>
    change Writes 1 s _
    dsimp only
    split
    · exact writes_append _ _ _ _
    · exact writes_append _ _ _ _
    · exact (Writes.refl s).mono (Nat.zero_le _)
  | some q =>
    have displaced := writes_displace s q r.serial
    change Writes 2 s _
    dsimp only
    split
    · exact displaced.trans (writes_append _ _ _ _)
    · exact displaced.trans (writes_append _ _ _ _)
    · exact displaced.mono (Nat.le_add_right 1 1)

theorem length_foldl_insertExport (serial : Serial) (es : List Entry) (q : List ExportEntry) :
    (es.foldl (fun q e => insertExport q { serial := serial, entry := e }) q).length = q.length + es.length := by
  induction es generalizing q with
  | nil => rfl
  | cons e es ih => rw [List.foldl_cons, ih, insertExport_length, List.length_cons]; omega

/-- RECORD RETIRE (R197). -/
theorem writes_retireRecord (s : State) (r : WheelsetRecord) : Writes r.entries.length s (retireRecord s r) := by
  refine ⟨rfl, rfl, rfl, ?_⟩
  have queue : (retireRecord s r).history.exportQueue.length = s.history.exportQueue.length + r.entries.length :=
    length_foldl_insertExport _ _ _
  have reserved : totalReservation (retireRecord s r) = totalReservation s := rfl
  rw [roomUsed, roomUsed, queue, reserved]
  omega

/-! ### PLAN and the withdrawal of a share -/

theorem writes_condemnRecord (s : State) (r : WheelsetRecord) (w : Planned) : Writes 1 s (condemnRecord s r w) := by
  cases w with
  | scrap c f => exact writes_append _ _ _ _
  | flagged => exact (Writes.refl s).mono (Nat.zero_le _)
  | adopted slot p fb c low => exact (Writes.refl s).mono (Nat.zero_le _)

/-- Planning's held reasons are LIMIT, LAST-TURN and EXCESS (R159). -/
theorem shareFindings_reason {r : WheelsetRecord} {t : StationTrace} {cvisit : Geometry} {slot : Nat} {fb : Bool} {c : Calc}
    {f : Finding × HeldReason} (mem : f ∈ shareFindings r t cvisit slot fb c) :
    f.2 = .limit ∨ f.2 = .lastTurn ∨ f.2 = .excess := by
  simp only [shareFindings, List.mem_append, List.mem_map] at mem
  rcases mem with (((⟨x, -, rfl⟩ | mem) | mem) | mem) | mem
  · exact .inl rfl
  all_goals
    split at mem
    · simp at mem
      simp [mem]
    · simp at mem

theorem makeShare_heldReason (r : WheelsetRecord) (t : StationTrace) (cvisit : Geometry) (w : Planned) :
    (makeShare r t cvisit w).heldReason ≠ some .nonconform ∧ (makeShare r t cvisit w).heldReason ≠ some .unverified := by
  cases w with
  | flagged => exact ⟨nofun, nofun⟩
  | scrap c f => exact ⟨nofun, nofun⟩
  | adopted slot p fb c low =>
    simp only [makeShare, heldReasonOf]
    cases found : (shareFindings r t cvisit slot fb c).find? (fun f => f.1.hold) with
    | none => exact ⟨nofun, nofun⟩
    | some f =>
      have reason := shareFindings_reason (List.mem_of_find?_eq_some found)
      constructor <;>
      · intro same
        have : f.2 = _ := Option.some.inj same
        rcases reason with h | h | h <;> exact nomatch h.symm.trans this

section
variable {t : State} {st : StationId} {slot : Option PlanSlot} {x : Share}

theorem takeOutcome_fits (operation : (t.station st).operation = none)
    (prior : ∀ w, (t.station st).prior = some w → surveyable w = true)
    (share : ∀ y, slot.bind t.planner.get = some y → y.shares.get st = some x) : fitsAt (takeOutcome t st slot x) st := by
  have same : (takeOutcome t st slot x).station st = _ := station_setStation_same t st _
  refine fitsAt_idle ?_ ?_ ?_ ?_
  · rw [same]; exact operation
  · rw [same]
    cases outcome : x.outcome <;> exact ⟨nofun, nofun, nofun⟩
  · rw [same]; exact prior
  · rw [shareOf_eq, planOf_eq, same]
    dsimp only
    rw [show (takeOutcome t st slot x).planner = t.planner from rfl]
    intro condemned
    cases found : slot.bind t.planner.get with
    | none => rw [found] at condemned; exact nomatch condemned
    | some y =>
      rw [found, Option.bind_some, share y found] at condemned
      have out : x.outcome = .condemned := by simpa [shareCondemned] using condemned
      simp [out]

theorem takeOutcome_holds (operation : (t.station st).operation = none)
    (reason : x.heldReason ≠ some .nonconform ∧ x.heldReason ≠ some .unverified) : heldAt (takeOutcome t st slot x) st := by
  have same : (takeOutcome t st slot x).station st = _ := station_setStation_same t st _
  refine heldAt_idle ?_ ?_
  · rw [same]; exact operation
  · rw [same]
    simp [heldAfterCut, reason]

theorem takeOutcome_roomUsed : roomUsed (takeOutcome t st slot x) = roomUsed t := by
  have kept := roomUsed_setStation t st ((takeOutcome t st slot x).station st)
  have same : (takeOutcome t st slot x).station st = _ := station_setStation_same t st _
  refine Nat.le_antisymm (roomUsed_setStation_le (n := 0) (by exact Nat.le_refl _)) ?_
  have reserved : stationReserved ((takeOutcome t st slot x).station st) = stationReserved (t.station st) := by
    rw [same]; rfl
  rw [reserved] at kept
  have whole : t.setStation st ((takeOutcome t st slot x).station st) = takeOutcome t st slot x := by rw [same]; rfl
  rw [whole] at kept
  omega

end

theorem freePlanSlot_rests {s : State} {slot : PlanSlot} {p : Plan} {st : StationId} (none : p.shares.get st = none) :
    Rests s (s.setPlanner (s.planner.set slot (some p))) st := by
  refine ⟨rfl, fun p' y plan share => ?_⟩
  rw [planOf_eq, station_setPlanner, State.setPlanner_planner] at plan
  cases ref : (s.station st).plan with
  | none => rw [ref] at plan; exact nomatch plan
  | some slot' =>
    rw [ref, Option.bind_some] at plan
    by_cases here : slot' = slot
    · subst here
      rw [Planner.get_set_same] at plan
      cases plan
      exact nomatch none.symm.trans share
    · rw [Planner.get_set_ne _ here] at plan
      exact ⟨p', by rw [planOf_eq, ref, Option.bind_some, plan], share, rfl⟩

theorem traced_idle {s : State} {st : StationId} (traced : (s.station st).work = .traced) (fits : fitsAt s st) :
    (s.station st).operation = none := by
  by_contra some
  have working := fits.1.2.2.2.1 some
  simp [traced] at working

/-- A TRACED station takes its share's outcome. -/
theorem fitting_taken {s v : State} {st : StationId} {slot : Option PlanSlot} {x : Share} {n : Nat}
    (traced : (s.station st).work = .traced) (room : (roomFor s n).1 = true) (powered : v.powered = s.powered)
    (other : Rests s v (otherStation st)) (same : v.station st = s.station st) (used : roomUsed v ≤ roomUsed s + n)
    (share : ∀ y, slot.bind v.planner.get = some y → y.shares.get st = some x)
    (reason : x.heldReason ≠ some .nonconform ∧ x.heldReason ≠ some .unverified) :
    Fitting s (takeOutcome v st slot x) := by
  have idle (fits : fitsAt s st) : (v.station st).operation = none := by rw [same]; exact traced_idle traced fits
  refine fitting_own st powered (.inl (other.setStation_other (otherStation_ne st) _)) (fun fits => ?_) (fun fits _ => ?_)
    fun _ _ within => ?_
  · exact takeOutcome_fits (idle fits) (by rw [same]; exact fits.1.2.2.2.2) share
  · exact takeOutcome_holds (idle fits) reason
  · exact takeOutcome_roomUsed.trans_le (used.trans (roomUsed_of_roomFor room within))

/-- PLAN of one station (R161). -/
theorem makeSingle_fitting {s : State} {st : StationId} (r : WheelsetRecord) (t : StationTrace) (w : Planned)
    (traced : (s.station st).work = .traced) (room : (roomFor s 1).1 = true) : Fitting s (makeSingle s st r t w).1 := by
  have written := writes_condemnRecord s r w
  have reason := makeShare_heldReason r t s.settings.cvisit w
  unfold makeSingle
  dsimp only
  generalize condemnRecord s r w = u at written ⊢
  generalize makeShare r t s.settings.cvisit w = x at reason ⊢
  refine Fitting.trans ?_ ((Quiet.refl _).post _ _ _).fitting
  split
  · exact fitting_taken (v := u) (slot := none) traced room written.powered (written.rests _) (written.station st)
      written.room (fun _ found => nomatch found) reason
  · generalize hplan : planOfSettings u .single (capturesSingle u st r.serial) (PerStation.set (.both none) st (some x)) = plan
    have gone : plan.shares.get (otherStation st) = none := by
      rw [← hplan]; cases st <;> rfl
    have own : plan.shares.get st = some x := by rw [← hplan]; exact PerStation.get_set_same _ _ _
    refine fitting_taken (v := u.setPlanner (u.planner.set (freePlanSlot u.planner) (some plan))) traced room
      written.powered ((written.rests _).trans (freePlanSlot_rests gone)) (written.station st) written.room ?_ reason
    intro y found
    rw [Option.bind_some, State.setPlanner_planner, Planner.get_set_same] at found
    cases found
    exact own

/-- PLAN naming BOTH (R161). -/
theorem makeJoint_fitting {s : State} (ra : WheelsetRecord) (ta : StationTrace) (wa : Planned) (rb : WheelsetRecord)
    (tb : StationTrace) (wb : Planned) (traced : ∀ st, (s.station st).work = .traced) (room : (roomFor s 2).1 = true) :
    Fitting s (makeJoint s ra ta wa rb tb wb).1 := by
  have written := (writes_condemnRecord s ra wa).trans (writes_condemnRecord _ rb wb)
  have reasonA := makeShare_heldReason ra ta s.settings.cvisit wa
  have reasonB := makeShare_heldReason rb tb s.settings.cvisit wb
  unfold makeJoint
  dsimp only
  set u := condemnRecord (condemnRecord s ra wa) rb wb
  set xa := makeShare ra ta s.settings.cvisit wa
  set xb := makeShare rb tb s.settings.cvisit wb
  refine Fitting.trans ?_ (((Quiet.refl _).post _ _ _).post _ _ _).fitting
  have idle (st : StationId) (fits : fitsAt s st) : (u.station st).operation = none := by
    rw [written.station]; exact traced_idle (traced st) fits
  have prior (st : StationId) (fits : fitsAt s st) : ∀ w, (u.station st).prior = some w → surveyable w = true := by
    rw [written.station]; exact fits.1.2.2.2.2
  have taken (v : State) (slot : Option PlanSlot) (same : ∀ st, v.station st = u.station st)
      (used : roomUsed v = roomUsed u)
      (shareA : ∀ y, slot.bind v.planner.get = some y → y.shares.get .A = some xa)
      (shareB : ∀ y, slot.bind v.planner.get = some y → y.shares.get .B = some xb) :
      Fitting s (takeOutcome (takeOutcome v .A slot xa) .B slot xb) := by
    have first : Rests (takeOutcome v .A slot xa) (takeOutcome (takeOutcome v .A slot xa) .B slot xb) .A :=
      (Rests.refl _ _).setStation_other (by decide) _
    have second : (takeOutcome v .A slot xa).station .B = v.station .B := station_setStation_ne v (by decide) _
    refine ⟨fun fits => ?_, fun fits inv => ⟨?_, ?_⟩⟩
    · rintro (_ | _)
      · exact first.fits (takeOutcome_fits (by rw [same]; exact idle _ (fits _)) (by rw [same]; exact prior _ (fits _)) shareA)
      · exact takeOutcome_fits (by rw [second, same]; exact idle _ (fits _)) (by rw [second, same]; exact prior _ (fits _))
          shareB
    · exact (takeOutcome_roomUsed.trans (takeOutcome_roomUsed.trans used)).trans_le
        (written.room.trans (roomUsed_of_roomFor room inv.1))
    · rintro (_ | _)
      · exact first.holds rfl (takeOutcome_holds (by rw [same]; exact idle _ (fits _)) reasonA)
      · exact takeOutcome_holds (by rw [second, same]; exact idle _ (fits _)) reasonB
  split
  · rename_i condemned
    exact taken u none (fun _ => rfl) rfl (fun _ found => nomatch found) fun _ found => nomatch found
  · set plan := planOfSettings u .joint (capturesJoint u ra.serial rb.serial) ⟨some xa, some xb⟩
    have found {y : Plan} (h : (some (freePlanSlot u.planner)).bind
        (u.setPlanner (u.planner.set (freePlanSlot u.planner) (some plan))).planner.get = some y) : y = plan := by
      rw [Option.bind_some, State.setPlanner_planner, Planner.get_set_same] at h
      exact (Option.some.inj h).symm
    exact taken _ _ (fun st => station_setPlanner u st _) rfl (fun y h => found h ▸ rfl) (fun y h => found h ▸ rfl)

theorem postStale_quiet (s : State) (st : StationId) (kind : PlanKind) (field : Option StaleField) (x : Option Share) :
    Quiet s (postStale s st kind field x) := by
  cases x with
  | none => exact .refl s
  | some y => exact (Quiet.refl s).post _ _ _

/-- The withdrawal of a share (R164): its station and an idle partner become TRACED. -/
theorem withdrawShare_fitting {s : State} {st : StationId} (field : StaleField)
    (was : (s.station st).work = .planned ∨ (s.station st).work = .held) : Fitting s (withdrawShare s st field) := by
  unfold withdrawShare
  dsimp only
  refine Fitting.trans ?_ (postStale_quiet _ _ _ _ _).fitting
  have told : ∃ t, (if idlePartner s st then postStale (discardPlan s st) (otherStation st)
      (((planOf s st).map (·.kind)).getD .single) none (shareOf s (otherStation st)) else discardPlan s st) = t ∧
      Quiet (discardPlan s st) t := by
    refine ⟨_, rfl, ?_⟩
    split
    · exact postStale_quiet _ _ _ _ _
    · exact .refl _
  obtain ⟨t, made, quiet⟩ := told
  rw [made]
  have core : (t.station st).core = (s.station st).core := by rw [quiet.core, discardPlan_own]; rfl
  have plan : (t.station st).plan = none := by rw [quiet.plan, discardPlan_own]
  have same : (becomeTraced t st).station st = _ := station_setStation_same t st _
  refine fitting_yields ((show (becomeTraced t st).powered = t.powered from rfl).trans
    (quiet.powered.trans (discardPlan_powered s st))) (fun x => ?_) fun within => ?_
  · rcases station_cases st x with rfl | rfl
    · obtain ⟨-, operation, prior, -, reservation, claim⟩ := (core_eq_iff _ _).mp core
      refine .inr ⟨was, ?_, by rw [same]; exact plan⟩
      rw [same]
      exact (core_eq_iff _ _).mpr ⟨rfl, operation, prior, rfl, reservation, claim⟩
    · exact ((discardPlan_yields s st).quiet quiet).setStation_other (otherStation_ne st) _
  · have used : roomUsed t ≤ 96 := (quiet.roomUsed.trans (discardPlan_roomUsed s st)).trans_le within
    exact (roomUsed_setStation_le (n := 0) (by exact Nat.le_refl _)).trans used

/-! ### Power -/

theorem station_wakeBlocks (s : State) (st : StationId) : (wakeBlocks s).station st = wokenStation (s.station st) := by
  cases st <;> rfl

/-- What is volatile of the room, a trace's claim, is given up (R199). -/
theorem wakeBlocks_roomUsed (s : State) : roomUsed (wakeBlocks s) ≤ roomUsed s := by
  have less (st : StationId) : stationReserved ((wakeBlocks s).station st) ≤ stationReserved (s.station st) := by
    rw [station_wakeBlocks]
    exact stationReserved_claim_kept rfl rfl nofun
  have a := less .A
  have b := less (otherStation .A)
  rw [roomUsed, roomUsed, totalReservation_eq _ .A, totalReservation_eq s .A]
  exact Nat.add_le_add_left (Nat.add_le_add a b) _

/-- A loss of power (R199). -/
theorem powerLoss_fitting (s : State) :
    Fitting s (((wakeBlocks s).setPowered false).setClock startClock |>.setUptime 0) := by
  set t := ((wakeBlocks s).setPowered false).setClock startClock |>.setUptime 0
  have same (st : StationId) : t.station st = wokenStation (s.station st) := station_wakeBlocks s st
  have none (st : StationId) : planOf t st = none := planOf_none_of_plan (by rw [same]; rfl)
  refine ⟨fun fits st => ?_, fun _ inv => ⟨(wakeBlocks_roomUsed s).trans inv.1, fun st => ⟨nofun, fun cut => ?_⟩⟩⟩
  · refine ⟨by rw [same]; exact (fits st).1, fun condemned => ?_⟩
    rw [shareOf_eq, none] at condemned
    exact nomatch condemned
  · rw [same] at cut
    rw [none, same]
    exact ⟨((inv.2 st).2 cut).1, fun _ _ plan => nomatch plan⟩

/-- A station's cut, where one was in hand, interrupted by the loss of power (R101). -/
def recoveredCut (s : State) (st : StationId) : State :=
  if decide (0 < (s.station st).reservation) = true then interruptCut s st .power else s

/-- What a station recovers to (R101). -/
def recovered (x : Station) : Station :=
  { endOperation x with held := none, recuts := 0, work := if x.occupant.isSome then .mounted else .vacant }

theorem recoverStation_quiet (s : State) (st : StationId) :
    Quiet ((recoveredCut s st).setStation st (recovered ((recoveredCut s st).station st))) (recoverStation s st) := by
  unfold recoverStation
  dsimp only
  refine Quiet.send ?_ _
  split
  · exact (Quiet.refl _).post _ _ _
  · exact .refl _

/-- A station as its recovery leaves it: MOUNTED or VACANT, with no operation in hand. -/
def Recovered (x : Station) : Prop :=
  x.operation = none ∧ x.prior = none ∧ x.held = none ∧ (x.work = .mounted ∨ x.work = .vacant)

theorem Recovered.congr {x y : Station} (h : Recovered x) (core : y.core = x.core) : Recovered y := by
  obtain ⟨work, operation, prior, held, -⟩ := (core_eq_iff _ _).mp core
  rwa [Recovered, work, operation, prior, held]

theorem recoverStation_own (s : State) (st : StationId) : Recovered ((recoverStation s st).station st) := by
  have core := (recoverStation_quiet s st).core st
  rw [station_setStation_same] at core
  refine Recovered.congr ⟨rfl, rfl, rfl, ?_⟩ core
  unfold recovered
  dsimp only
  split
  · exact .inl rfl
  · exact .inr rfl

theorem recoveredCut_roomUsed (s : State) (st : StationId) : roomUsed (recoveredCut s st) ≤ roomUsed s := by
  unfold recoveredCut
  split
  · exact interruptCut_roomUsed .power (of_decide_eq_true ‹_›)
  · exact Nat.le_refl _

theorem recoveredCut_rests_other (s : State) (st : StationId) : Rests s (recoveredCut s st) (otherStation st) := by
  unfold recoveredCut
  split
  · exact interruptCut_rests_other s st .power
  · exact .refl s _

theorem recoverStation_roomUsed (s : State) (st : StationId) : roomUsed (recoverStation s st) ≤ roomUsed s := by
  refine (recoverStation_quiet s st).roomUsed.trans_le (le_trans ?_ (recoveredCut_roomUsed s st))
  exact roomUsed_setStation_le (n := 0) (Nat.le_refl _)

theorem recoverStation_rests_other (s : State) (st : StationId) : Rests s (recoverStation s st) (otherStation st) := by
  refine Rests.quiet ?_ (recoverStation_quiet s st)
  exact (recoveredCut_rests_other s st).setStation_other (otherStation_ne st) _

/-- The blocks as they come up, before the stations recover (R26). -/
def woken (s : State) : State := (wakeBlocks s).setAttention (clockUnsetItems (wakeBlocks s).clock)

theorem comeUp_quiet (s : State) : Quiet (recoverStation (recoverStation (woken s) .A) .B) (comeUp s) :=
  ((Quiet.refl _).send _).send _

/-- The coming up recovers both stations (R101). -/
theorem comeUp_recovered (s : State) (st : StationId) : Recovered ((comeUp s).station st) := by
  refine Recovered.congr ?_ ((comeUp_quiet s).core st)
  cases st with
  | A => exact (recoverStation_own (woken s) .A).congr (recoverStation_rests_other _ .B).core
  | B => exact recoverStation_own _ .B

theorem comeUp_roomUsed (s : State) : roomUsed (comeUp s) ≤ roomUsed s :=
  calc roomUsed (comeUp s)
      = roomUsed (recoverStation (recoverStation (woken s) .A) .B) := (comeUp_quiet s).roomUsed
    _ ≤ roomUsed (recoverStation (woken s) .A) := recoverStation_roomUsed _ _
    _ ≤ roomUsed (woken s) := recoverStation_roomUsed _ _
    _ = roomUsed (wakeBlocks s) := roomUsed_frame rfl rfl
    _ ≤ roomUsed s := wakeBlocks_roomUsed s

theorem comeUp_fitting (s : State) : Fitting s (comeUp s) := by
  have idle (st : StationId) : fitsAt (comeUp s) st ∧ heldAt (comeUp s) st := by
    obtain ⟨operation, prior, held, work⟩ := comeUp_recovered s st
    refine ⟨fitsAt_idle operation ?_ (by rw [prior]; nofun) fun _ => ?_, heldAt_idle operation ?_⟩
    · rcases work with work | work <;> rw [work] <;> exact ⟨nofun, nofun, nofun⟩
    · rcases work with work | work <;> rw [work] <;> exact ⟨nofun, nofun⟩
    · exact heldAfterCut_of_work (by rcases work with work | work <;> rw [work] <;> nofun)
  exact ⟨fun _ st => (idle st).1, fun _ inv => ⟨(comeUp_roomUsed s).trans inv.1, fun st => (idle st).2⟩⟩

end Sys2Proof.Machine

namespace Sys2Proof.Machine

/-! ### Every command keeps the stations' fit and the queue's room -/

theorem event_fitting {s t : State} {f : State → State} (h : s.powered = true → Fitting s (f s))
    (e : event s f = .next t) : Fitting s t := by
  cases power : s.powered with
  | true =>
    rw [event_powered s f power] at e
    cases e
    exact (h power).trans ((Quiet.refl _).send _).fitting
  | false =>
    rw [event_unpowered s f power] at e
    cases e
    exact .refl s

theorem answer_quiet (s : State) (f : Frame) (b : ReplyBody) : Quiet s (answer s f b) :=
  ((onlyChanges_refl [.link] s).answer (by simp) f b).quiet (by simp)

theorem request_fitting {α : Type} {mine : Frame → Bool} {parse : Bytes → Option α} {own : State → α → State × ReplyBody}
    {s t : State} (h : s.powered = true → ∀ a, Fitting s (own s a).1) (e : event s (serve mine parse own) = .next t) :
    Fitting s t := by
  refine event_fitting (fun powered => ?_) e
  have answered (u : State) (f : Frame) (b : ReplyBody) := (answer_quiet u f b).fitting
  unfold serve
  split
  · exact .refl s
  · split
    · split
      · split
        · exact answered s _ _
        · exact (h powered _).trans (answered _ _ _)
      · exact .refl s
    · exact answered s _ _

theorem notice_fitting {s t : State} {p : Notice → Bool} {act : Notice → State → State}
    (h : ∀ n u, u.powered = true → Fitting u (act n u)) (e : event s (fun s => onNotice s p act) = .next t) : Fitting s t := by
  refine event_fitting (fun powered => ?_) e
  unfold onNotice
  split
  · exact .refl s
  · rename_i n rest _
    exact ((Quiet.refl s).setNotices rest).fitting.trans (h n (s.setNotices rest) powered)

section
variable {s t : State}

theorem execMount_fitting (e : execMount s = .next t) : Fitting s t := by
  refine request_fitting (fun _ f => ?_) e
  split
  · exact .refl s
  · rename_i met
    have vacant := firstFailing_none_iff.mp met ((s.station f.1).work == .vacant, .wrongState) (by simp [mountConditions])
    exact fitting_mounted (by simpa using vacant)

theorem execDismount_fitting (e : execDismount s = .next t) : Fitting s t := by
  refine request_fitting (fun _ st => ?_) e
  split
  · exact .refl s
  · exact dismountStation_fitting s st

theorem execStationPause_fitting (e : execStationPause s = .next t) : Fitting s t := by
  refine request_fitting (fun _ st => ?_) e
  split
  · exact pauseStation_fitting _ ‹_›
  · exact .refl s

theorem execStationResume_fitting (e : execStationResume s = .next t) : Fitting s t := by
  refine request_fitting (fun powered st => ?_) e
  split
  · exact .refl s
  · split
    · exact .refl s
    · exact resumeStation_fitting powered ‹_›

theorem execStationAbandon_fitting (e : execStationAbandon s = .next t) : Fitting s t := by
  refine request_fitting (fun _ st => ?_) e
  split
  · exact abandonOperation_fitting s st _
  · exact .refl s

theorem execTrace_fitting (e : execTrace s = .next t) : Fitting s t := by
  refine request_fitting (fun _ st => ?_) e
  split
  · exact .refl s
  · rename_i met
    have taken := firstFailing_none_iff.mp met (traceable (s.station st), (.wrongState, .none)) (by simp [plain])
    have room := firstFailing_none_iff.mp met (roomFor s 1) (by simp)
    exact beginTrace_fitting taken room

theorem execSurvey_fitting (e : execSurvey s = .next t) : Fitting s t := by
  refine request_fitting (fun _ f => ?_) e
  split
  · exact .refl s
  · rename_i met
    have taken := firstFailing_none_iff.mp met (surveyable (s.station f.1).work, (.wrongState, .none))
      (by simp [surveyConditions, plain])
    exact beginSurvey_fitting _ taken

theorem execPlan_fitting (e : execPlan s = .next t) : Fitting s t := by
  refine request_fitting (fun _ st => ?_) e
  split
  · exact .refl s
  · rename_i met
    have traced := firstFailing_none_iff.mp met ((s.station st).work == .traced, (.wrongState, .none)) (by simp [plain])
    have room := firstFailing_none_iff.mp met (roomFor s 1) (by simp)
    split
    · exact .refl s
    · dsimp only
      split
      · exact .refl s
      · exact makeSingle_fitting _ _ _ (by simpa using traced) room

theorem execPlanBoth_fitting (e : execPlanBoth s = .next t) : Fitting s t := by
  refine request_fitting (fun _ _ => ?_) e
  split
  · exact .refl s
  · rename_i met
    have traced := firstFailing_none_iff.mp met
      ((s.station .A).work == .traced && (s.station .B).work == .traced, (.wrongState, .none))
      (by simp [planBothConditions, plain])
    have room := firstFailing_none_iff.mp met (roomFor s 2) (by simp [planBothConditions])
    simp only [Bool.and_eq_true, beq_iff_eq] at traced
    split
    · dsimp only
      split
      · exact .refl s
      · exact makeJoint_fitting _ _ _ _ _ _ (fun st => by cases st; exacts [traced.1, traced.2]) room
    · exact .refl s
    · exact .refl s

theorem heldBeforeCut_work {x : Station} (h : heldBeforeCut x = true) : x.work = .held := by
  simp only [heldBeforeCut, Bool.and_eq_true, beq_iff_eq] at h
  exact h.1

theorem execApprove_fitting (e : execApprove s = .next t) : Fitting s t := by
  refine request_fitting (fun _ st => ?_) e
  split
  · rename_i held
    split
    · exact .refl s
    · exact fitting_approved ‹_› (heldBeforeCut_work held) rfl
  · exact .refl s

theorem execCutStart_fitting (e : execCutStart s = .next t) : Fitting s t := by
  refine request_fitting (fun _ st => ?_) e
  split
  · rename_i slot p ref plan
    split
    · exact .refl s
    · rename_i planned
      split
      · exact refuseCutStart_fitting s _ _
      · rename_i met
        have room := firstFailing_none_iff.mp met (roomFor s (cutReservation p st)) (by simp [cutConditions])
        exact beginCut_fitting plan (not_not.mp planned) room
  · exact .refl s
  · exact .refl s

theorem execCutStartBoth_fitting (e : execCutStartBoth s = .next t) : Fitting s t := by
  refine request_fitting (fun _ _ => ?_) e
  split
  · rename_i slot p ref plan
    split
    · rename_i ready
      split
      · exact refuseCutStart_fitting s _ _
      · rename_i met
        have room := firstFailing_none_iff.mp met
          (roomFor s (((survivors p).map (cutReservation p)).foldl (· + ·) 0)) (by simp [cutConditions])
        simp only [jointReady, Bool.and_eq_true, beq_iff_eq, List.all_eq_true] at ready
        obtain ⟨⟨⟨⟨-, same⟩, -⟩, -⟩, planned⟩ := ready
        have planB : planOf s .B = some p := by rw [planOf_eq, ← same, ← planOf_eq]; exact plan
        exact beginCuts_fitting (fun st => by cases st; exacts [plan, planB]) planned room
    · exact .refl s
  · exact .refl s
  · exact .refl s

theorem execAccept_fitting (e : execAccept s = .next t) : Fitting s t := by
  refine request_fitting (fun _ st => ?_) e
  split
  · rename_i held
    split
    · exact .refl s
    · exact accepted_fitting ‹_› held
  · exact .refl s

theorem execRecut_fitting (e : execRecut s = .next t) : Fitting s t := by
  refine request_fitting (fun _ st => ?_) e
  split
  · exact .refl s
  · rename_i q parts
    dsimp only
    split
    · exact .refl s
    · rename_i met
      have held := firstFailing_none_iff.mp met
        (heldAfterCut (s.station st) && decide ((s.station st).recuts < 255), (.wrongState, .none))
        (by simp [recutConditions, plain])
      simp only [Bool.and_eq_true] at held
      exact beginRecut_fitting _ parts held.1

theorem execRecordEnter_fitting (e : execRecordEnter s = .next t) : Fitting s t := by
  refine request_fitting (fun _ f => ?_) e
  split
  · exact .refl s
  · rename_i met
    exact (writes_enterRecord s f).fitting (firstFailing_none_iff.mp met _ (by simp [enterConditions]))

theorem execRecordFit_fitting (e : execRecordFit s = .next t) : Fitting s t := by
  refine request_fitting (fun _ f => ?_) e
  split
  · exact .refl s
  · split
    · exact .refl s
    · rename_i met
      split
      · exact .refl s
      · exact (writes_fitRecord ‹_›).fitting (firstFailing_none_iff.mp met _ (by simp [fitConditions]))

theorem execRecordAmend_fitting (e : execRecordAmend s = .next t) : Fitting s t := by
  refine request_fitting (fun _ f => ?_) e
  split
  · exact .refl s
  · rename_i r _
    split
    · exact .refl s
    · rename_i met
      have room := firstFailing_none_iff.mp met (roomFor s (if (amendChanges r f).isEmpty then 0 else 1))
        (by simp [amendConditions])
      dsimp only
      split
      · exact .refl s
      · rename_i changes
        rw [if_neg changes] at room
        exact (writes_append _ _ _ _).fitting room

theorem execRecordRetire_fitting (e : execRecordRetire s = .next t) : Fitting s t := by
  refine request_fitting (fun _ serial => ?_) e
  split
  · exact .refl s
  · rename_i r _
    split
    · exact .refl s
    · rename_i met
      exact (writes_retireRecord s r).fitting (firstFailing_none_iff.mp met _ (by simp))

theorem execExportTake_fitting (e : execExportTake s = .next t) : Fitting s t := by
  refine request_fitting (fun _ _ => ?_) e
  split
  · exact .refl s
  · rename_i entry rest waiting
    refine fitting_yields rfl (fun st => .inl ⟨rfl, shareKept_of_planOf rfl⟩) fun within => ?_
    have shorter : roomUsed (s.setHistory { s.history with exportQueue := rest }) ≤ roomUsed s := by
      rw [roomUsed, roomUsed, State.setHistory_history, waiting]
      exact Nat.add_le_add_right (Nat.le_succ _) _
    exact shorter.trans within

theorem execHeadReport_fitting {h : HeadId} (e : execHeadReport h s = .next t) : Fitting s t := by
  refine notice_fitting (fun n u _ => ?_) e
  split
  · exact ((Quiet.refl u).headReported h _).fitting
  all_goals exact .refl u

theorem execWalkEnd_fitting {h : HeadId} (e : execWalkEnd h s = .next t) : Fitting s t := by
  refine notice_fitting (fun _ u powered => ?_) e
  dsimp only
  split
  · exact .refl u
  · have marked (x : TraceUnit) := ((Quiet.refl u).setTraceUnit h.station x).markPart h
    have completes {v : State} (quiet : Quiet u v) (tracing : (v.station h.station).work = .tracing) :
        Fitting u (completeTrace v h.station) :=
      quiet.fitting.trans (fitting_of_fits fun fits =>
        completeTrace_fitting (quiet.powered.trans powered) ((fits h.station).1.1 tracing))
    split
    · rename_i complete
      exact completes (marked _) complete.2
    · exact (marked _).fitting

theorem execPassCompletion_fitting {h : HeadId} (e : execPassCompletion h s = .next t) : Fitting s t := by
  refine notice_fitting (fun n u _ => ?_) e
  split
  · dsimp only
    split
    · split
      · exact .refl u
      · refine Quiet.fitting ((Quiet.refl u).setStation h.station _ ?_ ?_ ?_) <;> rfl
    · exact .refl u
  · exact .refl u

theorem execCutPartComplete_fitting {h : HeadId} (e : execCutPartComplete h s = .next t) : Fitting s t := by
  refine notice_fitting (fun _ u _ => ?_) e
  have marked := (Quiet.refl u).markPart h
  split
  · dsimp only
    split
    · rename_i complete
      refine marked.fitting.trans (fitting_of_fits fun fits => ?_)
      exact beginVerify_fitting ((fits h.station).1.2.1 complete.2)
    · exact marked.fitting
  · exact .refl u

theorem endScanWheel_quiet (u : State) (h : HeadId) : Quiet u (endScanWheel u h) := by
  unfold endScanWheel
  dsimp only
  split
  · exact .refl u
  · exact ((Quiet.refl u).setTraceUnit h.station _).markPart h

theorem execScanTaskEnd_fitting {h : HeadId} (e : execScanTaskEnd h s = .next t) : Fitting s t := by
  refine notice_fitting (fun _ u _ => ?_) e
  dsimp only
  refine (endScanWheel_quiet u h).fitting.trans ?_
  split
  · rename_i complete
    split
    · exact completeSurvey_fitting
    · rename_i verify
      exact fitting_of_fits fun fits =>
        endVerify_fitting (((fits h.station).1.2.2.1 complete.2).resolve_right verify)
  · exact .refl _

theorem execStationBreachNotice_fitting {st : StationId} (e : execStationBreachNotice st s = .next t) : Fitting s t := by
  refine notice_fitting (fun _ u _ => ?_) e
  have viewed := (Quiet.refl u).setStation st
    { u.station st with view := { (u.station st).view with zone := u.zone.zone } } rfl rfl rfl
  refine viewed.fitting.trans ?_
  dsimp only
  split
  · refine pauseStation_fitting _ ?_
    rw [station_setStation_same]
    assumption
  · exact .refl _

theorem execStationBreakNotice_fitting {st : StationId} (e : execStationBreakNotice st s = .next t) : Fitting s t := by
  refine notice_fitting (fun _ u _ => ?_) e
  refine Fitting.trans (Quiet.fitting ((Quiet.refl u).setStation st _ ?_ ?_ ?_)) (forceAbandon_fitting _ st _) <;> rfl

theorem execLiftFaultedNotice_fitting {st : StationId} (e : execLiftFaultedNotice st s = .next t) : Fitting s t :=
  notice_fitting (fun _ u _ => forceAbandon_fitting u st _) e

theorem execClampFailedNotice_fitting {st : StationId} (e : execClampFailedNotice st s = .next t) : Fitting s t :=
  notice_fitting (fun _ u _ => forceAbandon_fitting u st _) e

theorem execHeadFailedNotice_fitting {st : StationId} (e : execHeadFailedNotice st s = .next t) : Fitting s t :=
  notice_fitting (fun _ u _ => forceAbandon_fitting u st _) e

theorem execRecordChangedNotice_fitting {st : StationId} (e : execRecordChangedNotice st s = .next t) : Fitting s t := by
  refine notice_fitting (fun n u _ => ?_) e
  split
  · split
    · rename_i broken
      split
      · split
        · exact .refl u
        · exact withdrawShare_fitting _ (broken.2.imp_right heldBeforeCut_work)
      · exact .refl u
      · exact .refl u
    · exact .refl u
  · exact .refl u

theorem execRestartComeUp_fitting (e : execRestartComeUp s = .next t) : Fitting s t := by
  have e : (if s.powered = true ∧ s.link.restarting = true ∧ s.link.backlog = [] then
    Host.Outcome.next (comeUp s) else .next s) = .next t := e
  split at e <;> cases e
  · exact comeUp_fitting s
  · exact .refl s

theorem execPowerUp_fitting (e : execPowerUp s = .next t) : Fitting s t := by
  cases e
  exact (quiet_frame (s := s) (t := (s.setClock startClock).setUptime 0) rfl rfl rfl rfl).fitting.trans (comeUp_fitting _)

theorem execPowerLoss_fitting (e : execPowerLoss s = .next t) : Fitting s t := by
  cases e; exact powerLoss_fitting s

end

/-- A command that touches neither stations, planner nor store. -/
theorem onlyChanges.fitting {s t : State} {ps : List Part} (h : onlyChanges ps s t)
    (apart : Part.stations ∉ ps ∧ Part.planner ∉ ps ∧ Part.history ∉ ps) : Fitting s t :=
  (h.quiet apart).fitting

/-- Every command keeps the stations' fit and the room of the Export Queue (R187 to R189). -/
theorem exec_fitting {c : Instr} {s t : State} (e : exec c s = .next t) : Fitting s t := by
  cases c with
  | powerUp => exact execPowerUp_fitting e
  | restartComeUp => exact execRestartComeUp_fitting e
  | powerLoss => exact execPowerLoss_fitting e
  | startMark ch => exact (execStartMark_onlyChanges e).fitting (by simp)
  | goodFrameArrival chars => exact (execGoodFrameArrival_onlyChanges e).fitting (by simp)
  | frameDiscard chars => exact (execFrameDiscard_onlyChanges e).fitting (by simp)
  | interByteTimeout => exact (execInterByteTimeout_onlyChanges e).fitting (by simp)
  | replySent => exact (execReplySent_onlyChanges e).fitting (by simp)
  | identify => exact (execIdentify_onlyChanges e).fitting (by simp)
  | status => exact (execStatus_onlyChanges e).fitting (by simp)
  | settingRead => exact (execSettingRead_onlyChanges e).fitting (by simp)
  | nodeList => exact (execNodeList_onlyChanges e).fitting (by simp)
  | stationReport => exact (execStationReport_onlyChanges e).fitting (by simp)
  | setClock => exact (execSetClock_onlyChanges e).fitting (by simp)
  | settingWrite => exact (execSettingWrite_onlyChanges e).fitting (by simp)
  | loopErrorKindsWrite => exact (execLoopErrorKindsWrite_onlyChanges e).fitting (by simp)
  | pitMapWrite => exact (execPitMapWrite_onlyChanges e).fitting (by simp)
  | takeAttention => exact (execTakeAttention_onlyChanges e).fitting (by simp)
  | restart => exact (execRestart_onlyChanges e).fitting (by simp)
  | hornMute => exact (execHornMute_onlyChanges e).fitting (by simp)
  | panelSet => exact (execPanelSet_onlyChanges e).fitting (by simp)
  | loopStart => exact (execLoopStart_onlyChanges e).fitting (by simp)
  | mapAdopt => exact (execMapAdopt_onlyChanges e).fitting (by simp)
  | liftRaise => exact (execLiftRaise_onlyChanges e).fitting (by simp)
  | liftLower => exact (execLiftLower_onlyChanges e).fitting (by simp)
  | liftResume => exact (execLiftResume_onlyChanges e).fitting (by simp)
  | liftStop => exact (execLiftStop_onlyChanges e).fitting (by simp)
  | clampClose => exact (execClampClose_onlyChanges e).fitting (by simp)
  | clampOpen => exact (execClampOpen_onlyChanges e).fitting (by simp)
  | mount => exact execMount_fitting e
  | dismount => exact execDismount_fitting e
  | stationPause => exact execStationPause_fitting e
  | stationResume => exact execStationResume_fitting e
  | stationAbandon => exact execStationAbandon_fitting e
  | insertChanged => exact (execInsertChanged_onlyChanges e).fitting (by simp)
  | trace => exact execTrace_fitting e
  | survey => exact execSurvey_fitting e
  | profileLoadClear => exact (execProfileLoadClear_onlyChanges e).fitting (by simp)
  | profileLoadFirstPart => exact (execProfileLoadFirstPart_onlyChanges e).fitting (by simp)
  | profileLoadSecondPart => exact (execProfileLoadSecondPart_onlyChanges e).fitting (by simp)
  | profileRead => exact (execProfileRead_onlyChanges e).fitting (by simp)
  | plan => exact execPlan_fitting e
  | planBoth => exact execPlanBoth_fitting e
  | approve => exact execApprove_fitting e
  | cutStart => exact execCutStart_fitting e
  | cutStartBoth => exact execCutStartBoth_fitting e
  | accept => exact execAccept_fitting e
  | recut => exact execRecut_fitting e
  | recordEnter => exact execRecordEnter_fitting e
  | recordRead => exact (execRecordRead_onlyChanges e).fitting (by simp)
  | recordFit => exact execRecordFit_fitting e
  | recordAmend => exact execRecordAmend_fitting e
  | recordRetire => exact execRecordRetire_fitting e
  | exportTake => exact execExportTake_fitting e
  | clockWrap => exact (execClockWrap_onlyChanges e).fitting (by simp)
  | clockAdvance => exact (execClockAdvance_onlyChanges e).fitting (by simp)
  | attentionPosting n => exact (execAttentionPosting_onlyChanges e).fitting (by simp)
  | returnPending input safe => exact (execReturnPending_onlyChanges e).fitting (by simp)
  | breach => exact (execBreach_onlyChanges e).fitting (by simp)
  | clear => exact (execClear_onlyChanges e).fitting (by simp)
  | chainBreak => exact (execChainBreak_onlyChanges e).fitting (by simp)
  | healthy => exact (execHealthy_onlyChanges e).fitting (by simp)
  | zoneGateClose => exact (execZoneGateClose_onlyChanges e).fitting (by simp)
  | zoneGateOpen => exact (execZoneGateOpen_onlyChanges e).fitting (by simp)
  | timerExpiry ch => exact (execTimerExpiry_onlyChanges e).fitting (by simp)
  | warnExpiry => exact (execWarnExpiry_onlyChanges e).fitting (by simp)
  | stepExpiry => exact (execStepExpiry_onlyChanges e).fitting (by simp)
  | settleExpiry => exact (execSettleExpiry_onlyChanges e).fitting (by simp)
  | paceExpiry => exact (execPaceExpiry_onlyChanges e).fitting (by simp)
  | clampTimerExpiry st => exact (execClampTimerExpiry_onlyChanges e).fitting (by simp)
  | headTimerExpiry h => exact (execHeadTimerExpiry_onlyChanges e).fitting (by simp)
  | darkHoldExpiry => exact (execDarkHoldExpiry_onlyChanges e).fitting (by simp)
  | diagnosisTimeout => exact (execDiagnosisTimeout_onlyChanges e).fitting (by simp)
  | identityQueryTimeout => exact (execIdentityQueryTimeout_onlyChanges e).fitting (by simp)
  | segmentDiagnosis outcome localized => exact (execSegmentDiagnosis_onlyChanges e).fitting (by simp)
  | identityAnswer ok kind serial => exact (execIdentityAnswer_onlyChanges e).fitting (by simp)
  | loopCycle slots => exact (execLoopCycle_onlyChanges e).fitting (by simp)
  | loopDownNotice owner =>
    have frame := execLoopDownNotice_onlyChanges e
    cases owner <;> exact frame.fitting (by simp [ownerPart])
  | liftLoopUp => exact (execLiftLoopUp_onlyChanges e).fitting (by simp)
  | clampLoopUp => exact (execClampLoopUp_onlyChanges e).fitting (by simp)
  | headLoopUp => exact (execHeadLoopUp_onlyChanges e).fitting (by simp)
  | columnReport c => exact (execColumnReport_onlyChanges e).fitting (by simp)
  | columnLost c => exact (execColumnLost_onlyChanges e).fitting (by simp)
  | columnRegained c => exact (execColumnRegained_onlyChanges e).fitting (by simp)
  | liftBreachNotice => exact (execLiftBreachNotice_onlyChanges e).fitting (by simp)
  | liftBreakNotice => exact (execLiftBreakNotice_onlyChanges e).fitting (by simp)
  | clampReport st => exact (execClampReport_onlyChanges e).fitting (by simp)
  | clampBreakNotice => exact (execClampBreakNotice_onlyChanges e).fitting (by simp)
  | clampLost st => exact (execClampLost_onlyChanges e).fitting (by simp)
  | clampRegained st => exact (execClampRegained_onlyChanges e).fitting (by simp)
  | headReport h => exact execHeadReport_fitting e
  | taskHanded h => exact (execTaskHanded_onlyChanges e).fitting (by simp)
  | headBreachNotice => exact (execHeadBreachNotice_onlyChanges e).fitting (by simp)
  | haltNotice st => exact (execHaltNotice_onlyChanges e).fitting (by simp)
  | headBreakNotice => exact (execHeadBreakNotice_onlyChanges e).fitting (by simp)
  | withdrawNotice st => exact (execWithdrawNotice_onlyChanges e).fitting (by simp)
  | headLost h => exact (execHeadLost_onlyChanges e).fitting (by simp)
  | headRegained h => exact (execHeadRegained_onlyChanges e).fitting (by simp)
  | traceSamples h => exact (execTraceSamples_onlyChanges e).fitting (by simp)
  | scanSamples h => exact (execScanSamples_onlyChanges e).fitting (by simp)
  | walkEnd h => exact execWalkEnd_fitting e
  | passCompletion h => exact execPassCompletion_fitting e
  | cutPartComplete h => exact execCutPartComplete_fitting e
  | scanTaskEnd h => exact execScanTaskEnd_fitting e
  | stationBreachNotice st => exact execStationBreachNotice_fitting e
  | stationBreakNotice st => exact execStationBreakNotice_fitting e
  | liftFaultedNotice st => exact execLiftFaultedNotice_fitting e
  | clampFailedNotice st => exact execClampFailedNotice_fitting e
  | headFailedNotice st => exact execHeadFailedNotice_fitting e
  | recordChangedNotice st => exact execRecordChangedNotice_fitting e
  | warningViewNotice src => exact (execWarningViewNotice_onlyChanges e).fitting (by simp)
  | panelRefresh => exact (execPanelRefresh_onlyChanges e).fitting (by simp)

end Sys2Proof.Machine

namespace Sys2Proof.Machine

/-! ### Steps, idle ones among them -/

theorem refreshOwner_keeps (s : State) (o : PitOwner) (input : PitInput) : Quiet s (refreshOwner s o input) := by
  cases o with
  | lift => exact quiet_frame rfl rfl rfl rfl
  | clamps => exact quiet_frame rfl rfl rfl rfl
  | heads => exact quiet_frame rfl rfl rfl rfl
  | station st => exact (Quiet.refl s).setStation st _ rfl rfl rfl

theorem idle_fitting (s : State) : Fitting s (idle s) := by
  refine Quiet.fitting ?_
  have ticked : Quiet s (tick s) := by
    unfold tick
    split
    · exact quiet_frame rfl rfl rfl rfl
    · exact .refl s
  unfold idle
  split
  · split
    · exact ticked
    · split
      · exact ((Quiet.refl s).setNotices _).trans (refreshOwner_keeps _ _ _)
      · exact ticked
  · exact .refl s

theorem step_fitting {s t : State} (e : step s = .next t) : Fitting s t := by
  cases waiting : s.pending with
  | nil =>
    rw [step_idle waiting] at e
    cases e
    exact idle_fitting s
  | cons c rest =>
    rw [step_front waiting] at e
    exact (quiet_frame (s := s) (t := s.setPending rest) rfl rfl rfl rfl).fitting.trans (exec_fitting e)

/-! ### EXPORT-DUE (R190) -/

/-- Every command but those of power is an event of the part. -/
theorem exec_is_event {c : Instr} (up : c ≠ .powerUp) (restart : c ≠ .restartComeUp) (loss : c ≠ .powerLoss) :
    ∃ f, ∀ s, exec c s = event s f := by
  cases c with
  | powerUp => exact absurd rfl up
  | restartComeUp => exact absurd rfl restart
  | powerLoss => exact absurd rfl loss
  | _ => exact ⟨_, fun _ => rfl⟩

theorem mem_noticeIf {c : Bool} {n m : Notice} : m ∈ noticeIf c n ↔ c = true ∧ m = n := by
  cases c <;> simp [noticeIf]

theorem settle_notices (o n : State) : (settle o n).notices = n.notices ++ (exportDueChange o n ++ viewChanges o n) := rfl

/-- The Warning Outputs' notices are no postings. -/
theorem viewChanges_undue (o n : State) : ∀ m ∈ viewChanges o n, isExportDue m = false := by
  intro m mem
  simp only [viewChanges, nodeChanges, List.mem_append, mem_noticeIf, List.mem_map] at mem
  rcases mem with (((((((((⟨-, rfl⟩ | ⟨-, rfl⟩) | ⟨-, rfl⟩) | (⟨-, rfl⟩ | ⟨_, -, rfl⟩)) | ⟨-, rfl⟩) | ⟨-, rfl⟩) | ⟨-, rfl⟩) |
    ⟨-, rfl⟩) | ⟨-, rfl⟩) | ⟨-, rfl⟩) | ⟨-, rfl⟩ <;> rfl

/-- An event that lengthens the Export Queue and leaves it at or above the threshold posts EXPORT-DUE. -/
theorem settle_posts_exportDue {o n : State} (longer : o.history.exportQueue.length < n.history.exportQueue.length)
    (above : n.settings.exportThreshold ≤ n.history.exportQueue.length) : exportDueNotice n ∈ (settle o n).notices := by
  rw [settle_notices]
  refine List.mem_append_right _ (List.mem_append_left _ (mem_noticeIf.mpr ⟨?_, rfl⟩))
  simp [longer, above]

/-- Of an event that does not lengthen the Export Queue no EXPORT-DUE comes. -/
theorem settle_undue {o n : State} (shorter : n.history.exportQueue.length ≤ o.history.exportQueue.length)
    (kept : n.notices = o.notices) : ∀ m ∈ (settle o n).notices, isExportDue m = true → m ∈ o.notices := by
  intro m mem due
  rw [settle_notices, kept] at mem
  rcases List.mem_append.mp mem with old | new
  · exact old
  · rcases List.mem_append.mp new with new | new
    · have longer := (mem_noticeIf.mp new).1
      simp only [Bool.and_eq_true, decide_eq_true_eq] at longer
      omega
    · exact absurd due (by simp [viewChanges_undue _ _ _ new])

/-- A request that leaves the notices as they are. -/
theorem serve_notices {α : Type} {mine : Frame → Bool} {parse : Bytes → Option α} {own : State → α → State × ReplyBody}
    {s : State} (h : ∀ a, (own s a).1.notices = s.notices) : (serve mine parse own s).notices = s.notices := by
  unfold serve
  split
  · rfl
  · split
    · split
      · split
        · rfl
        · exact h _
      · rfl
    · rfl

/-- A request that keeps an upper bound of the Export Queue. -/
theorem serve_queue {α : Type} {mine : Frame → Bool} {parse : Bytes → Option α} {own : State → α → State × ReplyBody}
    {s : State} (h : ∀ a, (own s a).1.history.exportQueue.length ≤ s.history.exportQueue.length) :
    (serve mine parse own s).history.exportQueue.length ≤ s.history.exportQueue.length := by
  unfold serve
  split
  · exact Nat.le_refl _
  · split
    · split
      · split
        · exact Nat.le_refl _
        · exact h _
      · exact Nat.le_refl _
    · exact Nat.le_refl _

theorem execExportTake_undue {s t : State} (powered : s.powered = true) (e : execExportTake s = .next t) :
    ∀ m ∈ t.notices, isExportDue m = true → m ∈ s.notices := by
  rw [execExportTake, event_powered _ _ powered] at e
  cases e
  refine settle_undue (serve_queue fun _ => ?_) (serve_notices fun _ => ?_)
  · split
    · exact Nat.le_refl _
    · rename_i waiting
      rw [waiting]
      exact Nat.le_succ _
  · split <;> rfl

theorem execSettingWrite_undue {s t : State} (powered : s.powered = true) (e : execSettingWrite s = .next t) :
    ∀ m ∈ t.notices, isExportDue m = true → m ∈ s.notices := by
  rw [execSettingWrite, event_powered _ _ powered] at e
  cases e
  refine settle_undue (serve_queue fun _ => ?_) (serve_notices fun _ => ?_)
  · dsimp only
    split
    · exact Nat.le_refl _
    · split <;> exact Nat.le_refl _
  · dsimp only
    split
    · rfl
    · split <;> rfl

/-! ### EXPORT-DUE at the coming up -/

/-- Every EXPORT-DUE under way in `t` was so in `s`, or has the source PIT. -/
def duePit (s t : State) : Prop :=
  ∀ m ∈ t.notices, isExportDue m = true → m ∈ s.notices ∨ ∃ d, m = .posting .exportDue .pit d

theorem duePit_refl (s : State) : duePit s s := fun _ mem _ => .inl mem

theorem duePit.trans {s t u : State} (h : duePit s t) (k : duePit t u) : duePit s u := by
  intro m mem due
  rcases k m mem due with old | pit
  · exact h m old due
  · exact .inr pit

theorem duePit.send {s t : State} (h : duePit s t) {ns : List Notice}
    (new : ∀ m ∈ ns, isExportDue m = true → ∃ d, m = .posting .exportDue .pit d) : duePit s (send t ns) := by
  intro m mem due
  rcases List.mem_append.mp mem with old | mem
  · exact h m old due
  · exact .inr (new m mem due)

theorem changedNotices_undue (s : State) (r : WheelsetRecord) : ∀ m ∈ changedNotices s r, isExportDue m = false := by
  intro m mem
  obtain ⟨st, -, rfl⟩ := List.mem_map.mp mem
  rfl

theorem duePit.append {s t : State} (h : duePit s t) (serial : Serial) (body : EntryBody)
    (upd : WheelsetRecord → WheelsetRecord) : duePit s (append t serial body upd) := by
  refine h.trans ?_
  unfold Machine.append
  split
  · exact duePit_refl t
  · rename_i r _
    dsimp only
    refine duePit.send (t := t.setHistory _) (fun m mem _ => .inl mem) fun m mem due => ?_
    exact absurd due (by simp [changedNotices_undue _ _ m mem])

theorem duePit.changeRecord {s t : State} (h : duePit s t) (serial : Serial) (upd : WheelsetRecord → WheelsetRecord) :
    duePit s (changeRecord t serial upd) := by
  refine h.trans ?_
  unfold Machine.changeRecord
  split
  · exact duePit_refl t
  · dsimp only
    refine duePit.send (t := t.setHistory _) (fun m mem _ => .inl mem) fun m mem due => ?_
    exact absurd due (by simp [changedNotices_undue _ _ m mem])

theorem duePit.frame {s t u : State} (h : duePit s t) (same : u.notices = t.notices) : duePit s u := by
  intro m mem due
  exact h m (same ▸ mem) due

theorem releaseShare_notices (s : State) (st : StationId) : (releaseShare s st).notices = s.notices := by
  unfold releaseShare
  split
  · rfl
  · dsimp only
    split
    · rfl
    · split
      · rfl
      · split <;> rfl

theorem duePit.applyDeferred {s t : State} (h : duePit s t) (st : StationId) : duePit s (applyDeferred t st) := by
  obtain ⟨u, made, ⟨-, same⟩ | ⟨-, same⟩⟩ := applyDeferred_eq t st
  · rw [same]; exact h
  · rw [same]
    refine duePit.frame (t := u) ?_ rfl
    rcases made with rfl | ⟨r, d, rfl⟩
    · exact h
    · exact h.append _ _ _

theorem duePit.interruptCut {s t : State} (h : duePit s t) (st : StationId) (cause : AbandonCause) :
    duePit s (interruptCut t st cause) := by
  rw [interruptCut_eq]
  have interrupted : duePit s (interruptedHistory t st cause) := by
    unfold interruptedHistory
    split
    · exact h
    · exact (h.append _ _ _).changeRecord _ _
  refine duePit.applyDeferred (duePit.frame interrupted ?_) st
  exact releaseShare_notices _ _

theorem duePit.recoverStation {s t : State} (h : duePit s t) (st : StationId) : duePit s (recoverStation t st) := by
  have cut : duePit s (recoveredCut t st) := by
    unfold recoveredCut
    split
    · exact h.interruptCut st .power
    · exact h
  unfold Machine.recoverStation
  dsimp only
  refine duePit.send ?_ fun m mem _ => ⟨_, (mem_noticeIf.mp mem).2⟩
  split
  · refine duePit.send (duePit.frame cut rfl) fun m mem due => ?_
    cases List.mem_singleton.mp mem
    exact nomatch due
  · exact duePit.frame cut rfl

/-- The part that comes up with the Export Queue at the threshold or above has EXPORT-DUE posted. -/
theorem comeUp_posts_exportDue (s : State)
    (above : (comeUp s).settings.exportThreshold ≤ (comeUp s).history.exportQueue.length) :
    ∃ d, .posting .exportDue .pit d ∈ (comeUp s).notices := by
  have due := ((duePit_refl (woken s)).recoverStation .A).recoverStation .B
  generalize made : recoverStation (recoverStation (woken s) .A) .B = u at due
  have whole : comeUp s = send (serveExportDue u) (viewAll (serveExportDue u)) := by rw [← made]; rfl
  rw [whole] at above ⊢
  have above : u.settings.exportThreshold ≤ u.history.exportQueue.length := above
  suffices posted : ∃ d, .posting .exportDue .pit d ∈ (serveExportDue u).notices from
    posted.imp fun d mem => List.mem_append_left _ mem
  cases already : u.notices.any isExportDue with
  | true =>
    obtain ⟨m, mem, isDue⟩ := List.any_eq_true.mp already
    rcases due m mem isDue with old | ⟨d, rfl⟩
    · exact nomatch old
    · exact ⟨d, List.mem_append_left _ mem⟩
  | false =>
    refine ⟨_, List.mem_append_right _ (mem_noticeIf.mpr ⟨?_, rfl⟩)⟩
    simp [above, already]

/-- Settles O60: every event keeps the stations' fit and the queue's room, tells a station of each change to its occupant's
record, and posts EXPORT-DUE where its end, or the coming up, calls for it. -/
theorem storeChangesAreTold : Obligations.StoreChangesAreTold := by
  refine ⟨fun _ _ fits e => (step_fitting e).fits fits, fun _ _ fits inv e => (step_fitting e).room fits inv, ?_, ?_, ?_, ?_⟩
  · intro s inv
    have within : roomUsed s ≤ 96 := inv.1
    rw [freeSlots]
    rw [roomUsed] at within
    omega
  · intro s t c st r q e occupant found now changed
    exact (exec_upholds e).told st r q occupant found now changed
  · intro s c powered up restart loss
    obtain ⟨f, run⟩ := exec_is_event up restart loss
    have e : exec c s = .next (settle s (f s)) := by rw [run, event_powered s f powered]
    refine ⟨_, e, fun longer above => settle_posts_exportDue (o := s) (n := f s) longer above, ?_⟩
    rintro (rfl | rfl)
    · exact execExportTake_undue powered e
    · exact execSettingWrite_undue powered e
  · intro s c up
    have e : ∃ u, exec c s = .next (comeUp u) := by
      rcases up with rfl | ⟨rfl, ready⟩
      · exact ⟨_, rfl⟩
      · exact ⟨s, if_pos ready⟩
    obtain ⟨u, e⟩ := e
    exact ⟨_, e, comeUp_posts_exportDue u⟩

end Sys2Proof.Machine

namespace Sys2Proof.Machine

/-! ### The empty queue, the reset state and the clock -/

theorem takeNotice_none {p : Notice → Bool} {ns : List Notice} (h : ∀ n ∈ ns, p n = false) : takeNotice p ns = none := by
  induction ns with
  | nil => rfl
  | cons n ns ih => simp [takeNotice, h n (by simp), ih fun m mem => h m (List.mem_cons_of_mem n mem)]

theorem tickBank_get (b : TimerBank) (ch : Channel) : (tickBank b).get ch = tickRec (b.get ch) := by
  cases ch with
  | clamp st => cases st <;> rfl
  | head h => exact headGet_map tickRec b.head h
  | _ => rfl

theorem tick_powered {s : State} (powered : s.powered = true) :
    tick s = (s.setUptime (s.uptime + 1)).setTimers (tickBank s.timers) := if_pos powered

/-- An owner's view of the pit once it has taken a notice of an input. -/
theorem refreshView_eq (z : ZoneMonitor) (input : PitInput) (v : PitView) :
    refreshView z input v = if input = .curtain then { v with zone := z.zone } else { v with stop := z.stop } := by
  cases input <;> rfl

theorem refreshOwner_onlyChanges (s : State) (o : PitOwner) (input : PitInput) :
    onlyChanges [.lift, .clamps, .heads, .stations] s (refreshOwner s o input) := by
  have refl := onlyChanges_refl [.lift, .clamps, .heads, .stations] s
  cases o with
  | lift => exact refl.setLift (by simp) _
  | clamps => exact refl.setClamps (by simp) _
  | heads => exact refl.setHeads (by simp) _
  | station st => exact refl.setStation (by simp) st _

/-- The blocks' views after an owner has taken a notice that changes its view alone. -/
theorem refreshOwner_views (s : State) (o : PitOwner) (input : PitInput) :
    let shown := refreshView s.zone input
    let t := refreshOwner s o input
    t.lift = (if o = .lift then { s.lift with view := shown s.lift.view } else s.lift) ∧
    t.clamps = (if o = .clamps then { s.clamps with view := shown s.clamps.view } else s.clamps) ∧
    t.heads = (if o = .heads then { s.heads with view := shown s.heads.view } else s.heads) ∧
    ∀ st, t.station st =
      (if o = .station st then { s.station st with view := shown (s.station st).view } else s.station st) := by
  cases o with
  | lift => exact ⟨rfl, rfl, rfl, fun _ => rfl⟩
  | clamps => exact ⟨rfl, rfl, rfl, fun _ => rfl⟩
  | heads => exact ⟨rfl, rfl, rfl, fun _ => rfl⟩
  | station st =>
    refine ⟨rfl, rfl, rfl, fun x => ?_⟩
    by_cases own : x = st
    · subst own
      rw [if_pos rfl]
      exact station_setStation_same _ _ _
    · rw [if_neg fun same => own (PitOwner.station.inj same).symm]
      exact station_setStation_ne _ own _

/-- Settles O2: an empty queue takes the oldest notice that changes a view alone, and otherwise lets a millisecond pass. -/
theorem idleStepPassesOneMillisecond : Obligations.IdleStepPassesOneMillisecond := by
  refine ⟨fun s powered empty none => ?passes, fun s o input rest shown ⟨powered, oldest⟩ empty same => ?takes⟩
  case passes =>
    refine ⟨tick s, (step_idle empty).trans (congrArg _ (idle_quiet s powered (takeNotice_none none))), ?_⟩
    rw [tick_powered powered]
    refine ⟨rfl, fun ch => tickBank_get s.timers ch, rfl, powered, empty, rfl, fun p other => ?_⟩
    cases p with
    | timers => exact absurd rfl other
    | _ => rfl
  case takes =>
    have shows : shown = refreshView s.zone input := same.trans (funext fun v => (refreshView_eq s.zone input v).symm)
    refine ⟨refreshOwner (s.setNotices rest) o input, (step_idle empty).trans (congrArg _ (idle_view s o input rest powered
      oldest)), refreshOwner_notices _ _ _, ?_, ?_⟩
    · exact ((onlyChanges_refl _ s).setNotices rest).trans (refreshOwner_onlyChanges _ o input)
    · rw [shows]
      exact refreshOwner_views (s.setNotices rest) o input

theorem station_reset (st : StationId) : State.reset.station st = vacantStation := by cases st <;> rfl

/-- Settles O6: right after reset no request, record, entry, occupant, plan or operation is there. -/
theorem invariantsHoldAtReset : Obligations.InvariantsHoldAtReset := by
  have idle (st : StationId) : fitsAt State.reset st ∧ heldAt State.reset st := by
    have same := station_reset st
    have operation : (State.reset.station st).operation = none := by rw [same]; rfl
    refine ⟨fitsAt_idle operation ?_ ?_ fun _ => ?_, heldAt_idle operation (heldAfterCut_of_work ?_)⟩ <;> rw [same]
    · exact ⟨nofun, nofun, nofun⟩
    · nofun
    · exact ⟨nofun, nofun⟩
    · nofun
  refine ⟨by unfold linkInv; decide, by simp [attentionInv, State.reset], ⟨by decide, ?_⟩, .inl rfl, rfl, ?_,
    fun st => (idle st).1, by decide, fun st => (idle st).2⟩
  · rintro ⟨_ | _, _ | _⟩ <;> exact Nat.zero_le _
  · simp [historyInv, recordsInv, numbersInv, storedNumbers, State.reset]

/-- The advance of a clock below the greatest time is nothing that the Warning Outputs are shown. -/
theorem settle_setClock (s : State) (x : Stamp) : settle s (s.setClock x) = s.setClock x := by
  apply settle_quiet <;> rfl

theorem settle_wrapClock (s : State) : settle s (wrapClock s) = wrapClock s := by
  apply settle_quiet <;> rfl

/-- Settles O12: the three cases are those of the clock's advance. -/
theorem clockAdvancesAndWraps : Obligations.ClockAdvancesAndWraps := by
  refine ⟨fun s powered below => ?_, fun s powered last below => ?_, fun s c powered last top which => ?_⟩
  · have open_ : clockFull s.clock = false := by simp [clockFull]; omega
    have e : exec .clockAdvance s = .next (s.setClock { s.clock with frac := s.clock.frac + 1 }) := by
      change execClockAdvance s = _
      rw [execClockAdvance, event_powered s _ powered, open_]
      simp [below, settle_setClock]
    exact ⟨_, e, rfl, rfl, execClockAdvance_onlyChanges e⟩
  · have open_ : clockFull s.clock = false := by simp [clockFull, below]
    have e : exec .clockAdvance s = .next (s.setClock { s.clock with secs := s.clock.secs + 1, frac := 0 }) := by
      change execClockAdvance s = _
      rw [execClockAdvance, event_powered s _ powered, open_]
      simp [last, settle_setClock]
    exact ⟨_, e, rfl, rfl, execClockAdvance_onlyChanges e⟩
  · have full : clockFull s.clock = true := by simp [clockFull, last, top]
    rcases which with rfl | rfl
    · have e : exec .clockAdvance s = .next (wrapClock s) := by
        change execClockAdvance s = _
        rw [execClockAdvance, event_powered s _ powered, full, if_pos rfl, settle_wrapClock]
      exact ⟨_, e, rfl, rfl, execClockAdvance_onlyChanges e⟩
    · have e : exec .clockWrap s = .next (wrapClock s) := by
        change execClockWrap s = _
        rw [execClockWrap, event_powered s _ powered, full, if_pos rfl, settle_wrapClock]
      exact ⟨_, e, rfl, rfl, execClockWrap_onlyChanges e⟩

end Sys2Proof.Machine

namespace Sys2Proof.Machine

/-! ### The receiver on a frame laid out as section 1.1 says -/

/-- The characters of a run of bytes, each with its stop bit. -/
def stopped (bs : Bytes) : List RxChar := bs.map fun b => { data := b, stop := true }

theorem stopped_data (bs : Bytes) : (stopped bs).map (·.data) = bs := by simp [stopped, Function.comp_def]

theorem stopped_stop {bs : Bytes} {c : RxChar} (mem : c ∈ stopped bs) : c.stop = true := by
  obtain ⟨b, -, rfl⟩ := List.mem_map.mp mem
  rfl

/-- The judgment of the last character of a frame whose stop bits are all there. -/
theorem received_complete (len : RxChar) (rest : List RxChar) (stops : ∀ c ∈ len :: rest, c.stop = true)
    (short : len.data.toNat ≤ 250) (whole : rest.length = len.data.toNat + 4) :
    received (len :: rest) =
      let bytes := rest.map (·.data)
      let body := (bytes.drop 2).take len.data.toNat
      if bytes.drop (len.data.toNat + 2) = u16 (crc16 (checkedBytes (bytes.getD 0 0) (bytes.getD 1 0) body)).toNat then
        .good { tag := bytes.getD 0 0, kind := bytes.getD 1 0, body := body }
      else .discarded := by
  have stop := stops len (by simp)
  have inner : rest.dropLast.any (fun c => !c.stop) = false := by
    rw [List.any_eq_false]
    intro c mem
    simp [stops c (List.mem_cons_of_mem _ (List.mem_of_mem_dropLast mem))]
  have filled : rest ≠ [] := by rintro rfl; simp at whole
  have final := stops (rest.getLast filled) (List.mem_cons_of_mem _ (List.getLast_mem filled))
  unfold received
  dsimp only
  rw [if_neg (by simp [stop]; omega), if_neg (by simp only [inner]; simp; omega), List.getLast?_eq_some_getLast filled]
  dsimp only
  rw [if_neg (by simp [final]), if_neg (by omega)]

/-- A frame of up to 250 body bytes, all of its stop bits present, is judged by its check (R2). -/
theorem received_stopped (tag kind : Byte) (body : Bytes) (x y : Byte) (short : body.length ≤ 250) :
    received (stopped (checkedBytes tag kind body ++ [x, y])) =
      if [x, y] = u16 (crc16 (checkedBytes tag kind body)).toNat then .good { tag := tag, kind := kind, body := body }
      else .discarded := by
  have length : (BitVec.ofNat 8 body.length).toNat = body.length := by
    rw [BitVec.toNat_ofNat]
    omega
  have split : stopped (checkedBytes tag kind body ++ [x, y]) =
      { data := BitVec.ofNat 8 body.length, stop := true } :: stopped (tag :: kind :: (body ++ [x, y])) := by
    simp [stopped, checkedBytes, u8]
  have stops := fun c (mem : c ∈ stopped (checkedBytes tag kind body ++ [x, y])) => stopped_stop mem
  rw [split] at stops ⊢
  rw [received_complete _ _ stops (by rw [length]; exact short) (by simp [stopped, length])]
  simp [stopped_data, length]

/-- Settles O7: the receiver finds length, tag, kind and body where the frame has them, and its check decides. -/
theorem frameReceivedAsSent : Obligations.FrameReceivedAsSent := by
  intro tag kind body short
  refine ⟨?_, fun x y wrong => ?_⟩
  · exact (received_stopped tag kind body _ _ short).trans (if_pos rfl)
  · exact (received_stopped tag kind body x y short).trans (if_neg wrong)

/-! ### The link -/

/-- The link is nothing that the Warning Outputs are shown. -/
theorem settle_setLink (s : State) (x : Link) : settle s (s.setLink x) = s.setLink x := by
  apply settle_quiet <;> rfl

theorem event_setLink {s : State} {f : State → State} {x : Link} (powered : s.powered = true) (made : f s = s.setLink x) :
    event s f = .next (s.setLink x) := by
  rw [event_powered s f powered, made, settle_setLink]

theorem event_idle {s : State} {f : State → State} (made : f s = s) : event s f = .next s := by
  cases power : s.powered with
  | true =>
    rw [event_powered s f power, made]
    exact congrArg _ (settle_quiet s s rfl rfl rfl rfl rfl rfl rfl rfl rfl)
  | false => exact event_unpowered s f power

theorem setLink_onlyChanges (s : State) (x : Link) : onlyChanges [.link] s (s.setLink x) :=
  (onlyChanges_refl _ s).setLink (by simp) x

theorem receiving_true {s : State} (open_ : s.link.restarting = false ∨ s.link.backlog ≠ []) : receiving s = true := by
  by_contra deaf
  obtain ⟨restarting, empty⟩ := (receiving_false_iff s).mp (by simpa using deaf)
  rcases open_ with h | h
  · simp [restarting] at h
  · exact h empty

/-- What a good frame's arrival makes of the link (R4, R8, R25). -/
theorem deliverFrame_eq (s : State) (f : Frame) : deliverFrame s f = s.setLink
    (if s.link.restarting = true then
      { s.link with
        inFrame := false, accepted := min (s.link.accepted + 1) 65535
        backlog := s.link.backlog ++ [{ tag := f.tag, kind := f.kind, body := .refused .wrongState .none }] }
    else if s.link.queue.length < 4 then
      { s.link with
        inFrame := false, accepted := min (s.link.accepted + 1) 65535, queue := s.link.queue ++ [f] }
    else
      { s.link with
        inFrame := false, busy := min (s.link.busy + 1) 65535
        backlog := s.link.backlog ++ [{ tag := f.tag, kind := f.kind, body := .busy }] }) := by
  unfold deliverFrame
  split
  · rfl
  · split <;> rfl

/-- Settles O8: each command of the link replaces the link's record, or, while the receiver is deaf, does nothing. -/
theorem linkTakesFramesAndSendsReplies : Obligations.LinkTakesFramesAndSendsReplies := by
  refine ⟨fun s ch powered open_ hunting => ?_, fun s chars powered open_ inFrame bad => ?_,
    fun s powered open_ inFrame => ?_, fun s chars f powered open_ inFrame good => ?_,
    fun s r rest powered waiting => ?_, fun s c powered restarting sent which => ?_⟩
  · have e : exec (.startMark ch) s = .next (s.setLink { s.link with inFrame := ch.stop && ch.data == 0xA5#8 }) := by
      change execStartMark ch s = _
      have mark : ch.data.toNat = 165 ↔ ch.data = 0xA5#8 := BitVec.toNat_inj (y := 0xA5#8)
      cases start : (ch.stop && ch.data == 0xA5#8) with
      | true =>
        refine event_setLink powered (if_pos ?_)
        simp only [Bool.and_eq_true, beq_iff_eq] at start
        exact ⟨receiving_true open_, hunting, start.1, mark.mpr start.2⟩
      | false =>
        have same : s.setLink { s.link with inFrame := false } = s := by
          rw [← hunting]; rfl
        rw [same]
        refine event_idle (if_neg ?_)
        rintro ⟨-, -, stop, data⟩
        simp [stop, mark.mp data] at start
    exact ⟨_, e, rfl, setLink_onlyChanges s _, rfl⟩
  · have e : exec (.frameDiscard chars) s = .next (discardFrame s) :=
      event_setLink (f := fun s => if receiving s = true ∧ s.link.inFrame = true ∧ received chars = .discarded then
        discardFrame s else s) powered (if_pos ⟨receiving_true open_, inFrame, bad⟩)
    exact ⟨_, e, rfl, setLink_onlyChanges s _, rfl⟩
  · have e : exec .interByteTimeout s = .next (discardFrame s) :=
      event_setLink (f := fun s => if receiving s = true ∧ s.link.inFrame = true then discardFrame s else s) powered
        (if_pos ⟨receiving_true open_, inFrame⟩)
    exact ⟨_, e, rfl, setLink_onlyChanges s _, rfl⟩
  · have e : exec (.goodFrameArrival chars) s = .next (deliverFrame s f) := by
      change execGoodFrameArrival chars s = _
      rw [deliverFrame_eq]
      refine event_setLink powered ?_
      rw [if_pos ⟨receiving_true open_, inFrame⟩, good]
      exact deliverFrame_eq s f
    rw [deliverFrame_eq] at e
    exact ⟨_, e, rfl, setLink_onlyChanges s _, rfl⟩
  · have e : exec .replySent s = .next (s.setLink { s.link with backlog := rest, sentFrame := replyFrame r }) := by
      change execReplySent s = _
      refine event_setLink powered ?_
      rw [waiting]
    exact ⟨_, e, rfl, setLink_onlyChanges s _, rfl⟩
  · have deaf : receiving s = false := (receiving_false_iff s).mpr ⟨restarting, sent⟩
    rcases which with ⟨ch, rfl⟩ | ⟨chars, rfl⟩ | ⟨chars, rfl⟩ | rfl
    all_goals
      refine event_idle (if_neg ?_)
      rintro ⟨hears, -⟩
      simp [deaf] at hears

end Sys2Proof.Machine

/-! ### Requests at the head of the queue (R5, R7), and those that read, set or load. -/

namespace Sys2Proof.Machine

section
variable {α : Type} {k : Nat} {mine : Frame → Bool} {parse : Bytes → Option α} {own : State → α → State × ReplyBody}
  {s u : State} {f : Frame} {body : Bytes} {a : α} {r : ReplyBody}

/-- A request of the command's own, whose body is read: the owner acts and answers, and the event settles (R5). -/
theorem event_serve_mine (h : asks s f k body) (known : 1 ≤ k ∧ k ≤ 42) (own_ : mine f = true) (read : parse body = some a)
    (made : own s a = (u, r)) : event s (serve mine parse own) = .next (settle s (answer u f r)) := by
  obtain ⟨powered, oldest, rfl, rfl⟩ := h
  rw [event_powered s _ powered, serve_taken _ _ _ s f a oldest (by simp [knownKind, known]) own_ read, made]

theorem ofKind_of_asks (h : asks s f k body) : ofKind k f = true := by
  obtain ⟨-, -, rfl, -⟩ := h
  simp [ofKind]

theorem event_serve_changes (h : asks s f k body) (known : 1 ≤ k ∧ k ≤ 42) (read : parse body = some a)
    (made : own s a = (u, r)) : event s (serve (ofKind k) parse own) = .next (settle s (answer u f r)) :=
  event_serve_mine h known (ofKind_of_asks h) read made

/-- A request that its owner only reads or refuses. -/
theorem event_serve_reads (h : asks s f k body) (known : 1 ≤ k ∧ k ≤ 42) (read : parse body = some a)
    (made : own s a = (s, r)) : event s (serve (ofKind k) parse own) = .next (answer s f r) := by
  rw [event_serve_changes h known read made, settle_answer]

/-- A request whose answer shows the Warning Outputs nothing new and leaves the Export Queue. -/
theorem event_serve_quiet (h : asks s f k body) (known : 1 ≤ k ∧ k ≤ 42) (own_ : mine f = true)
    (read : parse body = some a) (made : own s a = (u, r)) (quiet : settle s (answer u f r) = answer u f r) :
    event s (serve mine parse own) = .next (answer u f r) := by
  rw [event_serve_mine h known own_ read made, quiet]

/-- A body that is not read is answered MALFORMED (R7). -/
theorem event_serve_malformed (powered : s.powered = true) (oldest : s.link.queue.head? = some f) (own_ : mine f = true)
    (unread : parse f.body = none) : event s (serve mine parse own) = .next (answer s f .malformed) := by
  rw [event_powered s _ powered, serve_malformed _ _ _ s f oldest own_ unread, settle_answer]

end

/-! ### The reading requests -/

/-- Settles O9: each of these owners hands the state back as it was, with what it shows as the reply. -/
theorem readingRequestsAnswer : Obligations.ReadingRequestsAnswer := by
  refine ⟨fun s f h => ?identify, fun s f h => ?status, fun s f i h low high => ?settingRead, fun s f h => ?nodeList,
    fun s f b p st h station part => ?report, fun s f b p h part low high => ⟨fun q held => ?profile, fun empty => ?noProfile⟩,
    fun s f b p h part outside => ?badSlot, fun s f body serial n h read gone => ?noRecord,
    fun s f body serial n r h read found => ?record⟩
  case identify =>
    have e : exec .identify s = _ := event_serve_reads h (by decide) rfl rfl
    exact ⟨_, e, answer_answered s s f _ rfl, rfl, answer_onlyChanges s f _⟩
  case status =>
    have e : exec .status s = _ := event_serve_reads h (by decide) rfl rfl
    exact ⟨_, e, rfl, answer_onlyChanges s f _, answer_answered s s f _ rfl⟩
  case settingRead =>
    have e : exec .settingRead s = _ := event_serve_reads h (by decide) (if_pos ⟨low, high⟩) rfl
    exact ⟨_, e, rfl, answer_onlyChanges s f _, answer_answered s s f _ rfl⟩
  case nodeList =>
    have e : exec .nodeList s = _ := event_serve_reads h (by decide) rfl rfl
    exact ⟨_, e, rfl, answer_onlyChanges s f _, answer_answered s s f _ rfl⟩
  case report =>
    have read : parseReport [b, p] = some (st, p.toNat) := by simp [parseReport, part, station]
    have e : exec .stationReport s = _ := event_serve_reads h (by decide) read rfl
    refine ⟨_, _, e, answer_answered s s f _ rfl, rfl, answer_onlyChanges s f _, ?_⟩
    refine ⟨?_, ?_, ?_, ?_, ?_⟩ <;> (intro which; simp only [which]; rfl)
  case profile =>
    have slot : 1 ≤ b.toNat ∧ b.toNat ≤ 8 := ⟨low, high⟩
    have read : parseProfileRead [b, p] = some (b.toNat, p.toNat) := if_pos part
    have e : exec .profileRead s = .next (answer s f (.done
        (if p = 1 then .profileFirst q (slotUse s b.toNat) else .profileSecond (q.heights.drop 70)))) := by
      have first : p.toNat = 1 ↔ p = 1 := BitVec.toNat_inj (y := 1#8)
      exact event_serve_reads h (by decide) read (by simp [slot, held, first])
    exact ⟨_, e, rfl, answer_onlyChanges s f _, answer_answered s s f _ rfl⟩
  case noProfile =>
    have e : exec .profileRead s = .next (answer s f (.refused .noProfile .none)) :=
      event_serve_reads h (by decide) (if_pos part) (by simp [low, high, empty, refuse])
    exact ⟨_, e, rfl, answer_onlyChanges s f _, answer_answered s s f _ rfl⟩
  case badSlot =>
    have e : exec .profileRead s = .next (answer s f (.refused .badField (.offset 0))) :=
      event_serve_reads h (by decide) (if_pos part) (if_pos (by dsimp only; omega))
    exact ⟨_, e, rfl, answer_onlyChanges s f _, answer_answered s s f _ rfl⟩
  case noRecord =>
    have e : exec .recordRead s = .next (answer s f (.refused .noRecord .none)) :=
      event_serve_reads h (by decide) read (by simp [gone, refuse])
    exact ⟨_, e, rfl, answer_onlyChanges s f _, answer_answered s s f _ rfl⟩
  case record =>
    have same : r.serial = serial := findRecord_serial found
    by_cases whole : n = 0
    · have e : exec .recordRead s = .next (answer s f (.done (.recordFirst r (occupantData s serial)))) :=
        event_serve_reads h (by decide) read (by simp [found, whole, same])
      exact ⟨_, _, e, answer_answered s s f _ rfl, rfl, answer_onlyChanges s f _, fun _ => rfl, by omega, by omega⟩
    · cases entry : r.entries[n - 1]? with
      | none =>
        have e : exec .recordRead s = .next (answer s f (.refused .badField (.offset 12))) :=
          event_serve_reads h (by decide) read (by simp [found, whole, entry])
        exact ⟨_, _, e, answer_answered s s f _ rfl, rfl, answer_onlyChanges s f _, fun z => absurd z whole,
          fun _ _ some_ => (nomatch some_), fun _ _ => rfl⟩
      | some x =>
        have e : exec .recordRead s = .next (answer s f
            (.done (.recordEntry n (r.entries.length + 1) serial r.revision x))) :=
          event_serve_reads h (by decide) read (by simp [found, whole, entry, same])
        refine ⟨_, _, e, answer_answered s s f _ rfl, rfl, answer_onlyChanges s f _, fun z => absurd z whole,
          fun y _ some_ => by cases some_; rfl, fun _ beyond => ?_⟩
        obtain ⟨inside, -⟩ := List.getElem?_eq_some_iff.mp entry
        omega

/-! ### The settings -/

theorem greatestInsertCount_eq (s : State) : greatestInsertCount s =
    max (max (s.head ⟨.A, .L⟩).insertCount (s.head ⟨.A, .R⟩).insertCount)
      (max (s.head ⟨.B, .L⟩).insertCount (s.head ⟨.B, .R⟩).insertCount) := by
  simp [greatestInsertCount, headIds, Nat.max_assoc]

theorem firstBadPosition_eq_none {seen ps : List Nat} {start : Nat} :
    firstBadPosition seen start ps = none ↔ ps.Nodup ∧ ∀ p ∈ ps, 1 ≤ p ∧ p ≤ 12 ∧ p ∉ seen := by
  induction ps generalizing seen start with
  | nil => simp [firstBadPosition]
  | cons p ps ih =>
    simp only [firstBadPosition, Bool.not_eq_true', List.contains_eq_mem, decide_eq_false_iff_not, List.nodup_cons,
      List.forall_mem_cons]
    split
    next good =>
      rw [ih]
      simp only [List.mem_cons, not_or]
      constructor
      · rintro ⟨distinct, all⟩
        exact ⟨⟨fun mem => (all p mem).2.2.1 rfl, distinct⟩, good, fun q mem =>
          ⟨(all q mem).1, (all q mem).2.1, (all q mem).2.2.2⟩⟩
      · rintro ⟨⟨fresh, distinct⟩, -, all⟩
        refine ⟨distinct, fun q mem => ⟨(all q mem).1, (all q mem).2.1, ?_, (all q mem).2.2⟩⟩
        rintro rfl
        exact fresh mem
    next bad => simp [bad]

/-- A body of setting 19 and ten positions is read as the pit map of these positions. -/
theorem parseMapWrite_of_positions {ps : Bytes} {m : PitMap} (ten : ps.length = 10)
    (positions : mapPositions m = ps.map (·.toNat)) : parseMapWrite (19#8 :: ps) = some m := by
  obtain ⟨⟨c1, c2, c3, c4⟩, ⟨⟨al, ar⟩, ⟨bl, br⟩⟩, ⟨ka, kb⟩⟩ := m
  match ps, ten with
  | [p1, p2, p3, p4, p5, p6, p7, p8, p9, p10], _ =>
    have each : [c1, c2, c3, c4, al, ar, bl, br, ka, kb] = [p1, p2, p3, p4, p5, p6, p7, p8, p9, p10].map (·.toNat) :=
      positions
    simp only [List.map_cons, List.map_nil, List.cons.injEq, and_true] at each
    obtain ⟨rfl, rfl, rfl, rfl, rfl, rfl, rfl, rfl, rfl, rfl⟩ := each
    rfl

theorem setSettings_onlyChanges (s : State) (g : Settings) (f : Frame) (r : ReplyBody) :
    onlyChanges [.link, .settings] s (answer (s.setSettings g) f r) :=
  ((onlyChanges_refl _ s).setSettings (by simp) g).answer (by simp) f r

/-- Settles O13: the value written is the one carried, brought into the range; the sets and maps are stored whole. -/
theorem settingsWritten : Obligations.SettingsWritten := by
  refine ⟨fun s f i a b h low high => ?numeric, fun s f k h small => ?kinds, fun s f ps m h ten positions => ?map⟩
  case numeric =>
    have setting : i ≠ 18 ∧ i ≠ 19 := by constructor <;> (rintro rfl; simp at high)
    have mine : isNumericWrite f = true := by
      obtain ⟨-, -, kind, body⟩ := h
      simpa [isNumericWrite, isKindsWrite, isMapWrite, ofKind, kind, body] using setting
    obtain ⟨v, hv⟩ : ∃ v, v = (if n16 a b < lowerLimit s i.toNat then lowerLimit s i.toNat
      else min (n16 a b) (settingRange i.toNat).2) := ⟨_, rfl⟩
    have e : exec .settingWrite s = .next (settle s (answer (s.setSettings (storeSetting s.settings i.toNat v)) f
        (if v = n16 a b then .done (.setting v) else .adjusted (.setting v)))) := by
      refine event_serve_mine h (by decide) mine (if_pos ⟨low, high⟩) ?_
      dsimp only
      subst hv
      by_cases under : n16 a b < lowerLimit s i.toNat
      · simp [under, Nat.ne_of_gt under]
      · by_cases above : (settingRange i.toNat).2 < n16 a b
        · simp [under, above, Nat.min_eq_right (Nat.le_of_lt above), Nat.ne_of_lt above]
        · simp [under, above, Nat.min_eq_left (Nat.le_of_not_lt above)]
    refine ⟨_, lowerLimit s i.toNat, v, e, ?_, hv, rfl, answer_answered s _ f _ rfl, settle_keeps_notices _ _ _ rfl,
      (setSettings_onlyChanges s _ f _).settle s⟩
    unfold lowerLimit
    split
    next life =>
      rw [greatestInsertCount_eq, life]
      simp only [settingRange]
      omega
    next => rfl
  case kinds =>
    have mine : isKindsWrite f = true := by
      obtain ⟨-, -, kind, body⟩ := h
      simp [isKindsWrite, ofKind, kind, body]
    have e : exec .loopErrorKindsWrite s = .next (answer (s.setSettings { s.settings with
        errorKinds := { check := k.getLsbD 0, silent := k.getLsbD 1, order := k.getLsbD 2 } }) f (.done .empty)) :=
      event_serve_quiet h (by decide) mine (if_pos ⟨rfl, small⟩) rfl (by apply settle_quiet <;> rfl)
    exact ⟨_, e, rfl, answer_answered s _ f _ rfl, rfl, setSettings_onlyChanges s _ f _⟩
  case map =>
    have mine : isMapWrite f = true := by
      obtain ⟨-, -, kind, body⟩ := h
      simp [isMapWrite, ofKind, kind, body]
    have read := parseMapWrite_of_positions ten positions
    have judged := firstBadPosition_eq_none (seen := []) (start := 0) (ps := mapPositions m)
    simp only [List.not_mem_nil, not_false_eq_true, and_true] at judged
    refine ⟨fun good => ?_, fun bad => ?_⟩
    · have made := judged.mpr good
      have e : exec .pitMapWrite s = .next (answer (s.setSettings { s.settings with pitMap := m }) f (.done .empty)) :=
        event_serve_quiet h (by decide) mine read (by simp only [made]) (by apply settle_quiet <;> rfl)
      exact ⟨_, e, rfl, answer_answered s _ f _ rfl, rfl, setSettings_onlyChanges s _ f _⟩
    · cases first : firstBadPosition [] 0 (mapPositions m) with
      | none => exact absurd (judged.mp first) bad
      | some i =>
        have e : exec .pitMapWrite s = .next (answer s f (.refused .badField (.offset (1 + i)))) :=
          event_serve_quiet h (by decide) mine read (by simp only [first]) (settle_answer s f _)
        exact ⟨_, 1 + i, e, answer_answered s s f _ rfl, rfl, answer_onlyChanges s f _⟩

end Sys2Proof.Machine

/-! ### The attention queue, RESTART and the profile slots -/

namespace Sys2Proof.Machine

/-! ### The ranking of attention items (R12) -/

theorem keysBefore_cons_false {x y : Nat} {xs ys : List Nat} :
    keysBefore (x :: xs) (y :: ys) = false ↔ y < x ∨ x = y ∧ keysBefore xs ys = false := by
  simp only [keysBefore]
  split
  next same => simp [same]
  next differ =>
    rw [decide_eq_false_iff_not]
    omega

theorem keysBefore_false_trans {a b c : List Nat} (short : a.length = b.length) (short' : b.length = c.length)
    (ab : keysBefore a b = false) (bc : keysBefore b c = false) : keysBefore a c = false := by
  induction a generalizing b c with
  | nil => simp [keysBefore]
  | cons x xs ih =>
    match b, c, short, short' with
    | y :: ys, z :: zs, short, short' =>
      rw [keysBefore_cons_false] at ab bc ⊢
      simp only [List.length_cons, Nat.add_right_cancel_iff] at short short'
      rcases ab with ab | ⟨rfl, ab⟩ <;> rcases bc with bc | ⟨rfl, bc⟩
      · exact Or.inl (by omega)
      · exact Or.inl ab
      · exact Or.inl bc
      · exact Or.inr ⟨rfl, ih short short' ab bc⟩

theorem keysBefore_asymm {a b : List Nat} (before : keysBefore a b = true) : keysBefore b a = false := by
  induction a generalizing b with
  | nil => simp [keysBefore] at before
  | cons x xs ih =>
    cases b with
    | nil => simp [keysBefore] at before
    | cons y ys =>
      rw [keysBefore_cons_false]
      simp only [keysBefore] at before
      split at before
      next same => exact Or.inr ⟨same.symm, ih before⟩
      next differ => exact Or.inl (by simpa using before)

theorem topItem_eq_none {q : List AttentionItem} : topItem q = none ↔ q = [] := by
  cases q with
  | nil => simp [topItem]
  | cons i rest =>
    simp only [topItem, reduceCtorEq, iff_false]
    split
    · simp
    · split <;> simp

/-- The item ranked first is one of the queue, and none other is before it (R12). -/
theorem topItem_spec {q : List AttentionItem} {i : AttentionItem} (top : topItem q = some i) :
    i ∈ q ∧ ∀ j ∈ q, j = i ∨ keysBefore (rankKeys j) (rankKeys i) = false := by
  induction q generalizing i with
  | nil => cases top
  | cons a rest ih =>
    simp only [topItem] at top
    split at top
    next alone =>
      cases top
      rw [topItem_eq_none.mp alone]
      simp
    next b best =>
      obtain ⟨mem, first⟩ := ih best
      split at top
      next before =>
        cases top
        exact ⟨List.mem_cons_of_mem _ mem, fun j inside => (List.mem_cons.mp inside).elim
          (fun same => Or.inr (same ▸ keysBefore_asymm before)) (first j)⟩
      next after =>
        cases top
        have after : keysBefore (rankKeys b) (rankKeys a) = false := by simpa using after
        refine ⟨List.mem_cons_self, fun j inside => (List.mem_cons.mp inside).imp id fun later => ?_⟩
        rcases first j later with rfl | behind
        · exact after
        · exact keysBefore_false_trans (b := rankKeys b) rfl rfl behind after

theorem pairs_iff {k : AttentionKind} {src : Source} {j : AttentionItem} :
    pairs k src j = true ↔ j.kind = k ∧ j.source = src := by
  simp [pairs]

/-- In a queue with one item for each pairing, what an item pairs with is itself (R10). -/
theorem filter_not_pairs {q : List AttentionItem} {i : AttentionItem}
    (single : q.Pairwise (fun i j => ¬ (i.kind = j.kind ∧ i.source = j.source))) (mem : i ∈ q) :
    q.filter (fun j => !pairs i.kind i.source j) = q.erase i := by
  have distinct : q.Nodup := List.Pairwise.imp (fun {i j} apart (same : i = j) => apart ⟨same ▸ rfl, same ▸ rfl⟩) single
  have symmetric : Std.Symm fun i j : AttentionItem => ¬ (i.kind = j.kind ∧ i.source = j.source) :=
    ⟨fun _ _ apart ⟨kind, source⟩ => apart ⟨kind.symm, source.symm⟩⟩
  rw [distinct.erase_eq_filter]
  refine List.filter_congr fun j inside => ?_
  by_cases same : j = i
  · subst same
    simp [pairs]
  · have apart := single.forall inside mem same
    have unpaired : pairs i.kind i.source j = false := by simpa [pairs] using apart
    simp [unpaired, same]

/-- A posting makes a new item, or coalesces into its pairing's (R10, R11). -/
theorem takePosting_new {q : List AttentionItem} {now : Stamp} {k : AttentionKind} {src : Source} {d : Detail}
    (new : ∀ j ∈ q, ¬ (j.kind = k ∧ j.source = src)) : takePosting q now k src d =
      q ++ [{ kind := k, source := src, detail := d, repeats := 1, first := now, last := now }] := by
  refine if_neg ?_
  rw [List.any_eq_true]
  rintro ⟨j, mem, paired⟩
  exact new j mem (pairs_iff.mp paired)

theorem takePosting_paired {q : List AttentionItem} {now : Stamp} {k : AttentionKind} {src : Source} {d : Detail}
    (paired : ∃ j ∈ q, j.kind = k ∧ j.source = src) : takePosting q now k src d =
      q.map (fun j => if j.kind = k ∧ j.source = src then
        { j with detail := d, repeats := min (j.repeats + 1) 255, last := now } else j) := by
  obtain ⟨j, mem, which⟩ := paired
  refine (if_pos (List.any_eq_true.mpr ⟨j, mem, pairs_iff.mpr which⟩)).trans (List.map_congr_left fun i _ => ?_)
  simp only [pairs_iff, coalesce]

/-- Settles O14: `takePosting` coalesces or appends, and `topItem` ranks by the keys of R12. -/
theorem attentionQueueCoalescesAndRanks : Obligations.AttentionQueueCoalescesAndRanks := by
  refine ⟨fun s i k src d rest powered next => ?posting, fun s f h inv filled => ?take, fun s f h empty => ?empty⟩
  case posting =>
    have e : exec (.attentionPosting i) s =
        .next (settle s ((s.setNotices rest).setAttention (takePosting s.attention s.clock k src d))) := by
      change execAttentionPosting i s = _
      rw [execAttentionPosting, event_powered s _ powered, next]
    exact ⟨_, e, settle_handsOn s ((s.setNotices rest).setAttention _), execAttentionPosting_onlyChanges e, takePosting_new, takePosting_paired⟩
  case take =>
    cases top : topItem s.attention with
    | none => exact absurd (topItem_eq_none.mp top) filled
    | some i =>
      obtain ⟨mem, first⟩ := topItem_spec top
      have e : exec .takeAttention s = .next (settle s (answer (s.setAttention (s.attention.erase i)) f
          (.done (.item i)))) := by
        refine event_serve_changes h (by decide) rfl ?_
        rw [top, ← filter_not_pairs inv.1 mem]
      exact ⟨_, i, e, mem, first, rfl, answer_answered s _ f _ rfl, settle_keeps_notices _ _ _ rfl,
        execTakeAttention_onlyChanges e⟩
  case empty =>
    have e : exec .takeAttention s = .next (answer s f (.refused .empty .none)) := by
      refine event_serve_reads h (by decide) rfl ?_
      rw [empty]
      rfl
    exact ⟨_, e, answer_answered s s f _ rfl, rfl, answer_onlyChanges s f _⟩

/-! ### RESTART (R25) -/

theorem workInHand_eq_false {w : WorkState} (rest : w ≠ .tracing ∧ w ≠ .cutting ∧ w ≠ .scanning ∧ w ≠ .paused) :
    workInHand w = false := by
  cases w <;> simp [workInHand] at rest ⊢

theorem workInHand_eq_true {w : WorkState} (work : w = .tracing ∨ w = .cutting ∨ w = .scanning ∨ w = .paused) :
    workInHand w = true := by
  rcases work with rfl | rfl | rfl | rfl <;> rfl

/-- Settles O15: RESTART is one request whose owner looks at `pitAtRest`, followed by the refusal of those behind it. -/
theorem restartNeedsPitAtRest : Obligations.RestartNeedsPitAtRest := by
  refine ⟨fun s f rest h queue lift a b stations => ?taken, fun s f h awaiting moving => ?refused⟩
  case taken =>
    have lift : (s.lift.state == .lowered || s.lift.state == .unknown) = true := by simpa using lift
    have atRest : pitAtRest s = true := by
      simp [pitAtRest, lift, a, b, workInHand_eq_false (stations .A), workInHand_eq_false (stations .B)]
    obtain ⟨powered, oldest, kind, body⟩ := h
    have e : exec .restart s = .next (refuseWaiting (answer (s.setLink { s.link with restarting := true }) f
        (.done .empty))) := by
      change execRestart s = _
      rw [execRestart, event_powered s _ powered]
      dsimp only
      rw [serve_taken _ _ _ s f () oldest (by simp [knownKind, kind]) (by simp [ofKind, kind]) (by simp [body, parseNone]),
        if_pos atRest]
      dsimp only
      rw [if_pos (show (answer (s.setLink _) f _).link.restarting = true from rfl)]
      exact congrArg _ (by apply settle_quiet <;> rfl)
    refine ⟨_, e, rfl, ?_, ?_⟩
    · exact setLink_onlyChanges s _
    · simp [refuseWaiting, answer, queue]
  case refused =>
    have moving : pitAtRest s = false := by
      rw [Bool.eq_false_iff]
      intro atRest
      simp only [pitAtRest, Bool.and_eq_true, Bool.or_eq_true, beq_iff_eq, Bool.not_eq_true'] at atRest
      obtain ⟨⟨⟨⟨lift, a⟩, b⟩, idleA⟩, idleB⟩ := atRest
      rcases moving with ⟨low, unknown⟩ | notA | notB | ⟨st, work⟩
      · exact lift.elim low unknown
      · exact notA a
      · exact notB b
      · have busy := workInHand_eq_true work
        cases st <;> simp_all
    obtain ⟨powered, oldest, kind, body⟩ := h
    have e : exec .restart s = .next (answer s f (.refused .unsafe_ .none)) := by
      change execRestart s = _
      rw [execRestart, event_powered s _ powered]
      dsimp only
      rw [serve_taken _ _ _ s f () oldest (by simp [knownKind, kind]) (by simp [ofKind, kind]) (by simp [body, parseNone]),
        moving, if_neg (by decide : ¬ (false = true))]
      have still : ¬ (answer s f (.refused .unsafe_ .none)).link.restarting = true := by simp [answer, awaiting]
      exact congrArg _ ((congrArg (settle s) (if_neg still)).trans (settle_answer s f _))
    exact ⟨_, e, answer_answered s s f _ rfl, rfl, answer_onlyChanges s f _⟩

/-! ### The profile slots (R134, R203) -/

theorem firstFailing_heightChecks_none {start : Nat} {hs : List Geometry} :
    firstFailing (heightChecks start hs) = none ↔ ∀ x ∈ hs, -1000 ≤ x ∧ x ≤ 4000 := by
  induction hs generalizing start with
  | nil => simp [heightChecks, firstFailing]
  | cons x xs ih =>
    rw [List.forall_mem_cons, ← ih (start := start + 2)]
    simp only [heightChecks, firstFailing, within, Bool.and_eq_true, decide_eq_true_eq]
    split
    next inside => simp [inside]
    next outside => simp [outside]

theorem firstFailing_heightChecks_some {start : Nat} {before later : List Geometry} {x : Geometry}
    (good : ∀ y ∈ before, -1000 ≤ y ∧ y ≤ 4000) (bad : x < -1000 ∨ 4000 < x) :
    firstFailing (heightChecks start (before ++ x :: later)) = some (start + 2 * before.length) := by
  induction before generalizing start with
  | nil =>
    refine if_neg ?_
    simp only [within, Bool.and_eq_true, decide_eq_true_eq]
    rintro ⟨low, high⟩
    exact bad.elim (not_lt.mpr low) (not_lt.mpr high)
  | cons y ys ih =>
    obtain ⟨inside, rest⟩ := List.forall_mem_cons.mp good
    rw [List.cons_append, heightChecks, firstFailing, if_pos (by simpa [within] using inside), ih rest]
    simp only [List.length_cons, Option.some.injEq]
    omega

section
variable {α : Type} {k : Nat} {parse : Bytes → Option α} {own : State → α → State × ReplyBody} {s : State} {f : Frame}
  {body : Bytes} {a : α} {r : ReplyBody}

/-- A request whose owner changes the profiles alone. -/
theorem event_serve_profiles {x : ProfileTable} (h : asks s f k body) (known : 1 ≤ k ∧ k ≤ 42) (read : parse body = some a)
    (made : own s a = (s.setProfiles x, r)) :
    ∃ t, event s (serve (ofKind k) parse own) = .next t ∧ t.profiles = x ∧ answered s f t r ∧ t.notices = s.notices ∧
      onlyChanges [.link, .profiles] s t :=
  ⟨_, event_serve_quiet h known (ofKind_of_asks h) read made (by apply settle_quiet <;> rfl), rfl,
    answer_answered s _ f r rfl, rfl, ((onlyChanges_refl _ s).setProfiles (by simp) x).answer (by simp) f r⟩

/-- A request whose owner changes nothing. -/
theorem event_serve_unchanged (h : asks s f k body) (known : 1 ≤ k ∧ k ≤ 42) (read : parse body = some a)
    (made : own s a = (s, r)) :
    ∃ t, event s (serve (ofKind k) parse own) = .next t ∧ answered s f t r ∧ t.notices = s.notices ∧
      onlyChanges [.link] s t :=
  ⟨_, event_serve_reads h known read made, answer_answered s s f r rfl, rfl, answer_onlyChanges s f r⟩

end

/-- Settles O47: each part of a load changes the profiles alone, by the first failing of its conditions. -/
theorem profileLoadsFillSlots : Obligations.ProfileLoadsFillSlots := by
  have free {s : State} {slot : Nat} (b : Option LoadBuffer) (idle : slotInUse s slot = false) :
      slotInUse (setBuffer s b) slot = false := idle
  have busy {s : State} {slot : Nat} (b : Option LoadBuffer) (used : slotInUse s slot = true) :
      slotInUse (setBuffer s b) slot = true := used
  refine ⟨fun s f b h low high idle => ?clear, fun s f b h => ⟨fun outside => ?clearBad, fun low high used => ?clearUsed⟩,
    fun s f body slot length p h read good => ⟨fun short idle => ?first, fun short used => ?firstUsed, fun long => ?staged⟩,
    fun s f body slot length o p h read bad => ?firstBad,
    fun s f body slot count hs b h read buffer same whole good idle => ?second,
    fun s f body slot count hs b h read buffer same => ⟨fun whole good used => ?secondUsed, fun o bad => ?secondBad⟩,
    fun s f body slot count hs h read missing => ?noFirst⟩
  case clear =>
    exact event_serve_profiles h (by decide) rfl
      ((if_neg (not_not_intro ⟨low, high⟩)).trans (if_neg (by rw [free none idle]; decide)))
  case clearBad => exact event_serve_profiles h (by decide) rfl (if_pos (by omega))
  case clearUsed =>
    exact event_serve_profiles h (by decide) rfl ((if_neg (not_not_intro ⟨low, high⟩)).trans (if_pos (busy none used)))
  case first => exact event_serve_profiles h (by decide) read (by simp [good, short, free none idle, writeProfile]; exact ⟨rfl, rfl⟩)
  case firstUsed => exact event_serve_profiles h (by decide) read (by simp [good, short, busy none used, refuse]; rfl)
  case staged => exact event_serve_profiles h (by decide) read (by simp [good, Nat.not_le_of_lt long]; rfl)
  case firstBad => exact event_serve_profiles h (by decide) read (by simp [bad]; rfl)
  case second =>
    have judged := (firstFailing_heightChecks_none (start := 2)).mpr good
    subst same
    obtain ⟨t, e, profiles, rest⟩ : ∃ t, exec .profileLoadSecondPart s = .next t ∧
        t.profiles = { buffer := none
                       slots := sparseSet s.profiles.slots b.slot
                         { b.partial_ with heights := b.partial_.heights ++ hs } } ∧
        answered s f t (.done (.profileLoaded b.slot (profileAt s b.slot).isSome)) ∧ t.notices = s.notices ∧
        onlyChanges [.link, .profiles] s t :=
      event_serve_profiles h (by decide) read
        (by simp [buffer, firstFailing, whole, judged, idle, writeProfile]; exact ⟨rfl, rfl⟩)
    exact ⟨t, e, by rw [profiles], by rw [profiles], rest⟩
  case secondUsed =>
    have judged := (firstFailing_heightChecks_none (start := 2)).mpr good
    exact event_serve_unchanged h (by decide) read (by simp [buffer, same, firstFailing, whole, judged, used, refuse])
  case secondBad =>
    have judged : firstFailing ((count + 70 == b.length, 1) :: heightChecks 2 hs) = some o := by
      rcases bad with ⟨wrong, rfl⟩ | ⟨whole, before, x, later, rfl, good, bad, rfl⟩
      · simp [firstFailing, wrong]
      · simp [firstFailing, whole, firstFailing_heightChecks_some good bad]
    exact event_serve_profiles h (by decide) read (by simp [buffer, same, judged]; rfl)
  case noFirst =>
    refine event_serve_unchanged h (by decide) read ?_
    cases buffer : s.profiles.buffer with
    | none => rfl
    | some b => exact if_pos (missing b buffer)

end Sys2Proof.Machine

/-! ### The form check (R5, R7, R201) -/

namespace Sys2Proof.Machine

/-- A command answers the oldest request MALFORMED where its kind is none's, or is the command's own with a body that it
does not read. -/
def answersMalformed (c : Instr) (mine : Frame → Bool) (reads : Bytes → Bool) : Prop :=
  ∀ (s : State) (f : Frame), s.powered = true → s.link.queue.head? = some f → (c = .restart → s.link.restarting = false) →
    ((f.kind.toNat = 0 ∨ 42 < f.kind.toNat) ∨ mine f = true ∧ reads f.body = false) →
    exec c s = .next (answer s f .malformed)

section
variable {α : Type} {mine : Frame → Bool} {parse : Bytes → Option α} {own : State → α → State × ReplyBody}

/-- A request of a kind that is none's, or whose body is not read, is answered MALFORMED by whatever command finds it. -/
theorem serve_unread {s : State} {f : Frame} (oldest : s.link.queue.head? = some f)
    (bad : (f.kind.toNat = 0 ∨ 42 < f.kind.toNat) ∨ mine f = true ∧ (parse f.body).isSome = false) :
    serve mine parse own s = answer s f .malformed := by
  rcases bad with unknown | ⟨own_, unread⟩
  · have unknown : knownKind f.kind = false := by
      simp only [knownKind, Bool.and_eq_false_iff, decide_eq_false_iff_not]
      omega
    cases queue : s.link.queue with
    | nil => simp [queue] at oldest
    | cons g rest =>
      obtain rfl : g = f := by simpa [queue] using oldest
      simp [serve, queue, unknown]
  · exact serve_malformed mine parse own s f oldest own_ (by simpa using unread)

theorem answersMalformed_of_serve {c : Instr} (runs : ∀ s, exec c s = event s (serve mine parse own)) :
    answersMalformed c mine (fun b => (parse b).isSome) := by
  intro s f powered oldest _ bad
  rw [runs, event_powered s _ powered, serve_unread oldest bad, settle_answer]

end

theorem restart_answersMalformed : answersMalformed .restart (ofKind 7) (fun b => (parseNone b).isSome) := by
  intro s f powered oldest awaiting bad
  change execRestart s = _
  rw [execRestart, event_powered s _ powered]
  dsimp only
  rw [serve_unread oldest bad, if_neg (by simp [answer, awaiting rfl]), settle_answer]

/-- Every request command has the form check of R7: RESTART as part of its own event, the others as the event. -/
theorem requestForms_answersMalformed : ∀ row ∈ requestForms, answersMalformed row.1 row.2.1 row.2.2 := by
  simp only [requestForms, List.forall_mem_cons]
  iterate 8 refine ⟨answersMalformed_of_serve fun _ => rfl, ?_⟩
  refine ⟨restart_answersMalformed, ?_⟩
  iterate 37 refine ⟨answersMalformed_of_serve fun _ => rfl, ?_⟩
  exact fun _ none_ => nomatch none_

/-! ### The lengths of the bodies that are read (R201) -/

section
variable {body : Bytes}

theorem parseNone_length {u : Unit} (read : parseNone body = some u) : body.length = 0 := by
  simpa [parseNone] using read

theorem parseClock_length {x : Word32} (read : parseClock body = some x) : body.length = 4 := by
  unfold parseClock at read
  split at read
  · rfl
  · cases read

theorem parseSettingRead_length {n : Nat} (read : parseSettingRead body = some n) : body.length = 1 := by
  unfold parseSettingRead at read
  split at read
  · rfl
  · cases read

theorem parsePanel_length {vs : List (Option Lamp)} (read : parsePanel body = some vs) : body.length = 4 := by
  unfold parsePanel at read
  split at read
  next four => exact four
  next => cases read

theorem parseStation_length {st : StationId} (read : parseStation body = some st) : body.length = 1 := by
  unfold parseStation at read
  split at read
  · rfl
  · cases read

theorem parseMount_length {x : StationId × Serial} (read : parseMount body = some x) : body.length = 13 := by
  unfold parseMount at read
  split at read
  · cases read
  · split at read
    next twelve => simp [twelve]
    next => cases read

theorem parseSurvey_length {x : StationId × Option Nat} (read : parseSurvey body = some x) : body.length = 2 := by
  unfold parseSurvey at read
  split at read
  · rfl
  · cases read

theorem parseReport_length {x : StationId × Nat} (read : parseReport body = some x) : body.length = 2 := by
  unfold parseReport at read
  split at read
  · rfl
  · cases read

theorem parseHead_length {h : HeadId} (read : parseHead body = some h) : body.length = 1 := by
  unfold parseHead at read
  split at read
  · rfl
  · cases read

theorem parseSlot_length {slot : Nat} (read : parseSlot body = some slot) : body.length = 1 := by
  unfold parseSlot at read
  split at read
  · rfl
  · cases read

theorem parseProfileRead_length {x : Nat × Nat} (read : parseProfileRead body = some x) : body.length = 2 := by
  unfold parseProfileRead at read
  split at read
  · rfl
  · cases read

/-- A body whose part behind a serial is a known number of bytes. -/
theorem length_of_drop {tail : Bytes} {n : Nat} (rest : body.drop 12 = tail) (length : tail.length = n + 1) :
    body.length = 12 + (n + 1) := by
  have split := congrArg List.length rest
  rw [List.length_drop, length] at split
  omega

theorem parseEnter_length {x : EnterFields} (read : parseEnter body = some x) : body.length = 30 := by
  unfold parseEnter at read
  split at read
  next rest => exact length_of_drop rest rfl
  next => cases read

theorem parseRecordRead_length {x : Serial × Nat} (read : parseRecordRead body = some x) : body.length = 13 := by
  unfold parseRecordRead at read
  split at read
  next rest => exact length_of_drop rest rfl
  next => cases read

theorem parseFit_length {x : Serial × Option Position} (read : parseFit body = some x) : body.length = 17 := by
  unfold parseFit at read
  split at read
  next rest => exact length_of_drop rest rfl
  next => cases read

theorem parseAmend_length {x : AmendFields} (read : parseAmend body = some x) : body.length = 29 := by
  unfold parseAmend at read
  split at read
  next rest => exact length_of_drop rest rfl
  next => cases read

theorem parseSerial_length {x : Serial} (read : parseSerial body = some x) : body.length = 12 := by
  unfold parseSerial at read
  split at read
  next twelve => exact twelve
  next => cases read

theorem parseSettingWrite_length {x : Nat × Nat} (read : parseSettingWrite body = some x) : body.length = 3 := by
  unfold parseSettingWrite at read
  split at read
  · rfl
  · cases read

theorem parseKindsWrite_length {x : ErrorKinds} (read : parseKindsWrite body = some x) : body.length = 2 := by
  unfold parseKindsWrite at read
  split at read
  · rfl
  · cases read

theorem parseMapWrite_length {x : PitMap} (read : parseMapWrite body = some x) : body.length = 11 := by
  unfold parseMapWrite at read
  split at read
  · rfl
  · cases read

/-- A first part holds the fields up to its 30th byte, the length, then the limit set and that many heights up to 70. -/
theorem parseFirstPart_length {x : Nat × Profile × Nat} (read : parseFirstPart body = some x) :
    body.length = 75 + 2 * min (body.getD 29 0).toNat 70 := by
  unfold parseFirstPart at read
  split at read
  next slot rest =>
    dsimp only at read
    split at read
    next s1 s2 t1 t2 kf cmin p1 p2 band a1 a2 fb len tail fixed =>
      split at read
      next whole =>
        have size := congrArg List.length fixed
        simp only [List.length_drop, List.length_cons] at size
        have at28 : rest[28]? = some len := by
          have h := congrArg (fun l : Bytes => l[12]?) fixed
          simpa [List.getElem?_drop] using h
        have lengthByte : (slot :: rest).getD 29 0 = len := by simp [List.getD, at28]
        rw [lengthByte, List.length_cons]
        omega
      next => cases read
    next => cases read
  next => cases read

theorem parseSecondPart_length {x : Nat × Nat × List Geometry} (read : parseSecondPart body = some x) :
    body.length = 2 + 2 * (body.getD 1 0).toNat := by
  unfold parseSecondPart at read
  split at read
  next slot count rest =>
    split at read
    next whole =>
      simp only [List.length_cons, List.getD_cons_succ, List.getD_cons_zero]
      omega
    next => cases read
  next => cases read

end

theorem unread_of_length {α : Type} {parse : Bytes → Option α} {n : Nat} {body : Bytes}
    (length : ∀ {body a}, parse body = some a → body.length = n) (wrong : body.length ≠ n) : parse body = none :=
  Option.eq_none_iff_forall_ne_some.mpr fun _ read => wrong (length read)

/-- A command answers a request of its kind MALFORMED where its body has another length. -/
def malformedUnless (c : Instr) (k n : Nat) : Prop :=
  ∀ (s : State) (f : Frame) (body : Bytes), asks s f k body → body.length ≠ n → (c = .restart → s.link.restarting = false) →
    exec c s = .next (answer s f .malformed)

section
variable {α : Type} {c : Instr} {mine : Frame → Bool} {parse : Bytes → Option α}

/-- A command that reads bodies of one length alone. -/
theorem answersMalformed.unless {k n : Nat} (form : answersMalformed c mine (fun b => (parse b).isSome))
    (length : ∀ {body a}, parse body = some a → body.length = n)
    (own : ∀ f : Frame, f.kind.toNat = k → f.body.length ≠ n → mine f = true) : malformedUnless c k n := by
  rintro s f body ⟨powered, oldest, kind, rfl⟩ wrong awaiting
  refine form s f powered oldest awaiting (Or.inr ⟨own f kind wrong, ?_⟩)
  simpa using unread_of_length length wrong

end

theorem ofKind_of_kind {k n : Nat} (f : Frame) (kind : f.kind.toNat = k) (_ : f.body.length ≠ n) : ofKind k f = true := by
  simp [ofKind, kind]

theorem namesOne_of_kind {k : Nat} (f : Frame) (kind : f.kind.toNat = k) (wrong : f.body.length ≠ 1) :
    namesOne k f = true := by
  have two : ¬ f.body = [3#8] := by
    intro both
    simp [both] at wrong
  simpa [namesOne, ofKind, kind] using two

section
variable {α : Type} {c : Instr} {k n : Nat} {parse : Bytes → Option α} {own : State → α → State × ReplyBody}

theorem malformedUnless_of_serve (runs : ∀ s, exec c s = event s (serve (ofKind k) parse own))
    (length : ∀ {body a}, parse body = some a → body.length = n) : malformedUnless c k n :=
  (answersMalformed_of_serve runs).unless length ofKind_of_kind

end

/-- Every request of one body length answers another length MALFORMED (R201). -/
theorem requestLengths_malformedUnless : ∀ row ∈ requestLengths, malformedUnless row.1 row.2.1 row.2.2 := by
  simp only [requestLengths, List.forall_mem_cons]
  have bare {c : Instr} {k : Nat} {own : State → Unit → State × ReplyBody}
      (runs : ∀ s, exec c s = event s (serve (ofKind k) parseNone own)) : malformedUnless c k 0 :=
    malformedUnless_of_serve runs parseNone_length
  have station {c : Instr} {k : Nat} {own : State → StationId → State × ReplyBody}
      (runs : ∀ s, exec c s = event s (serve (ofKind k) parseStation own)) : malformedUnless c k 1 :=
    malformedUnless_of_serve runs parseStation_length
  have one {c : Instr} {k : Nat} {own : State → StationId → State × ReplyBody}
      (runs : ∀ s, exec c s = event s (serve (namesOne k) parseStation own)) : malformedUnless c k 1 :=
    (answersMalformed_of_serve runs).unless parseStation_length namesOne_of_kind
  exact ⟨bare fun _ => rfl, bare fun _ => rfl, malformedUnless_of_serve (fun _ => rfl) parseClock_length,
    malformedUnless_of_serve (fun _ => rfl) parseSettingRead_length, bare fun _ => rfl,
    restart_answersMalformed.unless parseNone_length ofKind_of_kind, bare fun _ => rfl,
    malformedUnless_of_serve (fun _ => rfl) parsePanel_length, bare fun _ => rfl, bare fun _ => rfl, bare fun _ => rfl,
    bare fun _ => rfl, bare fun _ => rfl, bare fun _ => rfl, bare fun _ => rfl, station fun _ => rfl, station fun _ => rfl,
    malformedUnless_of_serve (fun _ => rfl) parseMount_length, station fun _ => rfl, station fun _ => rfl,
    malformedUnless_of_serve (fun _ => rfl) parseSurvey_length, one fun _ => rfl, station fun _ => rfl, one fun _ => rfl,
    station fun _ => rfl, station fun _ => rfl, station fun _ => rfl, station fun _ => rfl, station fun _ => rfl,
    malformedUnless_of_serve (fun _ => rfl) parseReport_length, malformedUnless_of_serve (fun _ => rfl) parseHead_length,
    malformedUnless_of_serve (fun _ => rfl) parseSlot_length, malformedUnless_of_serve (fun _ => rfl) parseProfileRead_length,
    malformedUnless_of_serve (fun _ => rfl) parseEnter_length, malformedUnless_of_serve (fun _ => rfl) parseRecordRead_length,
    malformedUnless_of_serve (fun _ => rfl) parseFit_length, malformedUnless_of_serve (fun _ => rfl) parseAmend_length,
    malformedUnless_of_serve (fun _ => rfl) parseSerial_length, bare fun _ => rfl, fun _ none_ => nomatch none_⟩

/-- Settles O10: all request commands share `serve`, whose form check comes first, and every parser fixes the length of what
it reads. -/
theorem malformedRequestsAnswered : Obligations.MalformedRequestsAnswered := by
  have answered_ {c : Instr} {s : State} {f : Frame} (e : exec c s = .next (answer s f .malformed)) :
      ∃ t, exec c s = .next t ∧ answered s f t .malformed ∧ t.notices = s.notices ∧ onlyChanges [.link] s t :=
    ⟨_, e, answer_answered s s f _ rfl, rfl, answer_onlyChanges s f _⟩
  have forms := requestForms_answersMalformed
  have lengths := requestLengths_malformedUnless
  refine ⟨fun row mem s f powered oldest awaiting bad => answered_ ?forms,
    fun row mem s f body h wrong awaiting => answered_ (lengths row mem s f body h wrong awaiting),
    fun s f body c h bad => answered_ ?settings, fun s f body h wrong => answered_ ?first,
    fun s f body h wrong => answered_ ?second, fun s f powered oldest unknown => answered_ ?unknown,
    fun s f body h filled => answered_ ?status, fun s f body h wrong => answered_ ?clock,
    fun s f body h filled => answered_ ?export_⟩
  case forms =>
    refine forms row mem s f powered oldest awaiting (bad.imp id fun own => ?_)
    obtain ⟨-, -, mine, unread⟩ := own
    exact ⟨mine, unread⟩
  case settings =>
    obtain ⟨powered, oldest, kind, rfl⟩ := h
    have four : ofKind 4 f = true := by simp [ofKind, kind]
    rcases bad with ⟨rfl, notKinds, notMap, wrong⟩ | ⟨rfl, kinds, wrong⟩ | ⟨rfl, map, wrong⟩
    · exact event_serve_malformed powered oldest
        (by simpa [isNumericWrite, isKindsWrite, isMapWrite, four] using ⟨notKinds, notMap⟩)
        (unread_of_length parseSettingWrite_length wrong)
    · exact event_serve_malformed powered oldest (by simpa [isKindsWrite, four] using kinds)
        (unread_of_length parseKindsWrite_length wrong)
    · exact event_serve_malformed powered oldest (by simpa [isMapWrite, four] using map)
        (unread_of_length parseMapWrite_length wrong)
  case first =>
    obtain ⟨powered, oldest, kind, rfl⟩ := h
    exact event_serve_malformed powered oldest (by simp [ofKind, kind])
      (Option.eq_none_iff_forall_ne_some.mpr fun _ read => wrong (parseFirstPart_length read))
  case second =>
    obtain ⟨powered, oldest, kind, rfl⟩ := h
    exact event_serve_malformed powered oldest (by simp [ofKind, kind])
      (Option.eq_none_iff_forall_ne_some.mpr fun _ read => wrong (parseSecondPart_length read))
  case unknown =>
    exact forms (.status, ofKind 2, fun b => (parseNone b).isSome) (by simp [requestForms]) s f powered oldest (fun z => nomatch z) (Or.inl unknown)
  case status =>
    exact lengths (.status, 2, 0) (by simp [requestLengths]) s f body h (by simpa using filled) (fun z => nomatch z)
  case clock => exact lengths (.setClock, 3, 4) (by simp [requestLengths]) s f body h wrong (fun z => nomatch z)
  case export_ =>
    exact lengths (.exportTake, 42, 0) (by simp [requestLengths]) s f body h (by simpa using filled) (fun z => nomatch z)

end Sys2Proof.Machine

/-! ### The zone, the stop chain, the Timer Bank and the Warning Outputs -/

namespace Sys2Proof.Machine

section
variable {s : State} {rest : List Notice}

/-- A powered part takes the notice that waits, and settles. -/
theorem event_notice {p : Notice → Bool} {act : Notice → State → State} {n : Notice} (h : waits s p n rest) :
    event s (fun s => onNotice s p act) = .next (settle s (act n (s.setNotices rest))) := by
  obtain ⟨powered, waiting⟩ := h
  rw [event_powered s _ powered, onNotice_taken s p act n rest waiting]

/-- A current expiry is acted on (R57). -/
theorem event_expiry {ch : Channel} {act : State → State} {count : Word16}
    (h : waits s (isExpiry ch) (.expiry ch count) rest) (current : count = (s.timers.get ch).count) :
    event s (fun s => onExpiry s ch act) = .next (settle s (act (s.setNotices rest))) := by
  obtain ⟨powered, waiting⟩ := h
  rw [event_powered s _ powered, onExpiry_current s ch act count rest waiting current]

theorem settle_setNotices (s : State) (rest : List Notice) : settle s (s.setNotices rest) = s.setNotices rest := by
  apply settle_quiet <;> rfl

/-- A stale expiry is disregarded (R57). -/
theorem event_stale {ch : Channel} {act : State → State} {count : Word16}
    (h : waits s (isExpiry ch) (.expiry ch count) rest) (stale : count ≠ (s.timers.get ch).count) :
    event s (fun s => onExpiry s ch act) = .next (s.setNotices rest) := by
  obtain ⟨powered, waiting⟩ := h
  rw [event_powered s _ powered, onExpiry_stale s ch act count rest waiting stale, settle_setNotices]

/-- A powered part that acts, and settles. -/
theorem event_acts {f : State → State} {u : State} (powered : s.powered = true) (made : f s = u) :
    event s f = .next (settle s u) := by
  rw [event_powered s f powered, made]

/-- A powered part whose action shows the Warning Outputs nothing new and leaves the Export Queue. -/
theorem event_quiet {f : State → State} {u : State} (powered : s.powered = true) (made : f s = u) (quiet : settle s u = u) :
    event s f = .next u := by
  rw [event_acts powered made, quiet]

theorem event_notice_quiet {p : Notice → Bool} {act : Notice → State → State} {n : Notice} {u : State}
    (h : waits s p n rest) (made : act n (s.setNotices rest) = u) (quiet : settle s u = u) :
    event s (fun s => onNotice s p act) = .next u := by
  rw [event_notice h, made, quiet]

end

theorem mem_settle_of_mem {o n : State} {x : Notice} (mem : x ∈ n.notices) : x ∈ (settle o n).notices := by
  rw [settle_notices]
  exact List.mem_append_left _ mem

theorem handsOn_settle {before : List Notice} {o n : State} (made : n.notices = before) : handsOn before (settle o n) :=
  made ▸ settle_handsOn o n

/-- A change of the zone's view is handed to the Warning Outputs (R58). -/
theorem zone_view_mem_settle {o n : State} (changed : zoneView o ≠ zoneView n) :
    Notice.view .zone (.zone n.zone.zone n.zone.zonePending.isSome) ∈ (settle o n).notices := by
  rw [settle_notices]
  refine List.mem_append_right _ (List.mem_append_right _ ?_)
  simp [viewChanges, mem_noticeIf, changed]

theorem stop_view_mem_settle {o n : State} (changed : stopView o ≠ stopView n) :
    Notice.view .zone (.stop n.zone.stop n.zone.stopPending.isSome) ∈ (settle o n).notices := by
  rw [settle_notices]
  refine List.mem_append_right _ (List.mem_append_right _ ?_)
  simp [viewChanges, mem_noticeIf, changed]

/-- What one sample makes of a return pending (R48). -/
theorem returnPending_eq (pending : Option Nat) (safe : Bool) (now : Nat) :
    returnPending pending safe now =
      if safe = true then (if pending = none then some now else pending) else none := by
  cases pending <;> simp [returnPending]

theorem returnHeld_eq_false {pending : Option Nat} {now : Nat}
    (short : pending = none ∨ ∃ m, pending = some m ∧ now < m + 250) : returnHeld pending now = false := by
  rcases short with rfl | ⟨m, rfl, early⟩
  · rfl
  · simpa [returnHeld] using early

/-- Settles O19: the return pending is the moment of the first safe sample, and CLEAR and HEALTHY act where it is 250 ms
old. -/
theorem zoneReturnNeedsPendingTime : Obligations.ZoneReturnNeedsPendingTime := by
  refine ⟨fun s safe powered => ⟨fun breached => ?curtain, fun broken => ?chain⟩,
    fun s m powered breached pending held => ?clear, fun s powered early => ?notClear,
    fun s m powered broken pending held => ?healthy, fun s powered early => ?notHealthy⟩
  case curtain =>
    have e : exec (.returnPending .curtain safe) s = .next (settle s (s.setZone { s.zone with
        curtainClear := safe, zonePending := returnPending s.zone.zonePending safe s.uptime })) :=
      event_acts powered (if_pos breached)
    refine ⟨_, e, settle_keeps_notices _ _ _ rfl, execReturnPending_onlyChanges (input := .curtain) e, ?_⟩
    rw [← returnPending_eq]
    rfl
  case chain =>
    have e : exec (.returnPending .stopChain safe) s = .next (settle s (s.setZone { s.zone with
        chainHealthy := safe, stopPending := returnPending s.zone.stopPending safe s.uptime })) :=
      event_acts powered (if_pos broken)
    refine ⟨_, e, settle_keeps_notices _ _ _ rfl, execReturnPending_onlyChanges (input := .stopChain) e, ?_⟩
    rw [← returnPending_eq]
    rfl
  case clear =>
    have e : exec .clear s = .next (settle s _) :=
      event_acts powered (if_pos ⟨breached, by simpa [returnHeld, pending] using held⟩)
    exact ⟨_, e, rfl, handsOn_settle rfl, execClear_onlyChanges e⟩
  case notClear =>
    refine event_idle (if_neg ?_)
    rintro ⟨breached, held⟩
    rcases early with clear | short
    · cases clear.symm.trans breached
    · cases (returnHeld_eq_false short).symm.trans held
  case healthy =>
    have e : exec .healthy s = .next (settle s _) :=
      event_acts powered (if_pos ⟨broken, by simpa [returnHeld, pending] using held⟩)
    exact ⟨_, e, rfl, handsOn_settle rfl, execHealthy_onlyChanges e⟩
  case notHealthy =>
    refine event_idle (if_neg ?_)
    rintro ⟨broken, held⟩
    rcases early with healthy | short
    · cases healthy.symm.trans broken
    · cases (returnHeld_eq_false short).symm.trans held

/-- Settles O20: both events replace the Zone Monitor's record and send their notices; the view follows by settling. -/
theorem breachAndBreakDeliver : Obligations.BreachAndBreakDeliver := by
  refine ⟨fun s powered clear => ?_, fun s powered healthy => ?_⟩
  · have e : exec .breach s = .next (settle s _) := event_acts powered (if_pos clear)
    refine ⟨_, e, rfl, handsOn_settle rfl, zone_view_mem_settle ?_, execBreach_onlyChanges e⟩
    intro same
    cases clear.symm.trans (congrArg Prod.fst same)
  · have e : exec .chainBreak s = .next (settle s _) := event_acts powered (if_pos healthy)
    refine ⟨_, e, rfl, handsOn_settle rfl, stop_view_mem_settle ?_, execChainBreak_onlyChanges e⟩
    intro same
    cases healthy.symm.trans (congrArg Prod.fst same)

/-! ### The Timer Bank -/

/-- A zone-gated channel is changed by `f`, any other stands (R56). -/
theorem mapGated_get (f : TimerRec → TimerRec) (b : TimerBank) (ch : Channel) :
    (mapGated f b).get ch = if channelGated ch = true then f (b.get ch) else b.get ch := by
  cases ch with
  | head h => exact headGet_map f b.head h
  | _ => rfl

/-- The gate's own state is none of the channels'. -/
theorem get_gate (b : TimerBank) (open_ : Bool) (ch : Channel) : { b with gateOpen := open_ }.get ch = b.get ch := by
  cases ch <;> rfl

theorem settle_setTimers (s : State) (b : TimerBank) (rest : List Notice) :
    settle s ((s.setNotices rest).setTimers b) = (s.setNotices rest).setTimers b := by
  apply settle_quiet <;> rfl

/-- Settles O21: the gate maps over the gated channels, an expiry hands its count on, and every owner takes its expiries
through `onExpiry`. -/
theorem timersGateExpireAndGoStale : Obligations.TimersGateExpireAndGoStale := by
  refine ⟨fun s rest h => ?close, fun s rest h => ?open_, fun s ch powered counting over_ => ?expiry,
    fun s ch c count rest h stale which => ?stale⟩
  case close =>
    have e : exec .zoneGateClose s =
        .next ((s.setNotices rest).setTimers (mapGated freezeRec { s.timers with gateOpen := false })) :=
      event_notice_quiet h rfl (settle_setTimers s _ rest)
    refine ⟨_, e, rfl, rfl, execZoneGateClose_onlyChanges e, fun ch => (mapGated_get _ _ ch).trans ?_⟩
    rw [get_gate]
    cases channelGated ch <;> simp [freezeRec]
  case open_ =>
    have e : exec .zoneGateOpen s =
        .next ((s.setNotices rest).setTimers (mapGated thawRec { s.timers with gateOpen := true })) :=
      event_notice_quiet h rfl (settle_setTimers s _ rest)
    refine ⟨_, e, rfl, rfl, execZoneGateOpen_onlyChanges e, fun ch => (mapGated_get _ _ ch).trans ?_⟩
    rw [get_gate]
    cases channelGated ch <;> simp [thawRec]
  case expiry =>
    have e : exec (.timerExpiry ch) s = .next (send (s.setTimers (s.timers.set ch (expiredRec ch (s.timers.get ch))))
        [.expiry ch (s.timers.get ch).count]) :=
      event_quiet powered (if_pos ⟨counting, over_⟩) (by apply settle_quiet <;> rfl)
    refine ⟨_, e, rfl, execTimerExpiry_onlyChanges e, congrArg (s.timers.set ch) ?_⟩
    cases ch <;> rfl
  case stale =>
    rcases which with ⟨rfl, rfl⟩ | ⟨rfl, rfl⟩ | ⟨rfl, rfl⟩ | ⟨rfl, rfl⟩ | ⟨st, rfl, rfl⟩ | ⟨hd, rfl, rfl⟩ |
      ⟨rfl, rfl | rfl | rfl⟩
    all_goals exact event_stale h stale

/-! ### The Warning Outputs -/

/-- The tone re-chosen, its pattern begun afresh where it changes (R61). -/
theorem retone_eq (w : Warnings) (now : Nat) : retone w now = { w with
    tone := hornTone w.view w.muted
    toneSince := if hornTone w.view w.muted = w.tone then w.toneSince else now } := by
  unfold retone
  dsimp only
  split
  next same => rw [same]
  next => rfl

/-- Settles O22: HORN MUTE and a view's notice end in `retone`; the panel is sent the cells. -/
theorem hornAndLampsFollowTheView : Obligations.HornAndLampsFollowTheView := by
  refine ⟨fun s f h => ?mute, fun s src item rest h => ?view, fun s powered => ?refresh⟩
  case mute =>
    have e : exec .hornMute s = .next (answer
        (s.setWarnings { s.warnings with
          muted := true, tone := hornTone s.warnings.view true
          toneSince := if hornTone s.warnings.view true = s.warnings.tone then s.warnings.toneSince else s.uptime }) f
        (.done (.horn s.warnings.tone (hornTone s.warnings.view true) (faultSet s.warnings.view).length))) :=
      event_serve_quiet h (by decide) (ofKind_of_asks h) rfl (by rw [retone_eq]) (settle_answer_setWarnings s _ f _)
    exact ⟨_, e, rfl, answer_answered s _ f _ rfl, rfl, execHornMute_onlyChanges e⟩
  case view =>
    have e : exec (.warningViewNotice src) s =
        .next ((s.setNotices rest).setWarnings (takeView s.warnings s.uptime item)) :=
      event_notice_quiet h rfl (by apply settle_quiet <;> rfl)
    refine ⟨_, e, rfl, execWarningViewNotice_onlyChanges e, ?_⟩
    simp only [State.setWarnings_warnings, takeView, retone_eq, lampTable, true_and, and_true]
    cases faultOnset s.warnings.view (updateView s.warnings.view item) <;> simp
  case refresh =>
    have e : exec .panelRefresh s = .next (s.setWarnings { s.warnings with shown := s.warnings.cells }) :=
      event_quiet (f := fun s => s.setWarnings { s.warnings with shown := s.warnings.cells }) powered rfl
        (by apply settle_quiet <;> rfl)
    exact ⟨_, e, rfl, rfl, execPanelRefresh_onlyChanges e⟩

end Sys2Proof.Machine

/-! ### The pit loop: LOOP START, discovery, MAP ADOPT and the cycles -/

namespace Sys2Proof.Machine

/-- An event that keeps what the Warning Outputs are shown, and the Export Queue, hands them nothing. -/
theorem settle_still {o n : State} (lift : n.lift.state = o.lift.state) (clamps : ∀ st, (n.clamp st).state = (o.clamp st).state)
    (table : n.loop.table = o.loop.table) (loop : n.loop.state = o.loop.state)
    (works : ∀ st, (n.station st).work = (o.station st).work) (zone : n.zone = o.zone) (attention : n.attention = o.attention)
    (history : n.history = o.history) (reserved : totalReservation n = totalReservation o)
    (threshold : n.settings.exportThreshold = o.settings.exportThreshold) : settle o n = n := by
  have none_ : exportDueChange o n ++ viewChanges o n = [] := by
    simp [exportDueChange, viewChanges, lift, clamps, table, loop, works, zone, attention, history, reserved, threshold,
      zoneView, stopView, attentionView, noticeIf]
  simp [settle, none_, send, State.setNotices]

/-! ### The DISCOVER channel -/

/-- DISCOVER is started whatever its condition, and the zone does not gate it. -/
theorem startChannel_discover (s : State) (ms : Nat) : startChannel s .discover ms =
    s.setTimers (s.timers.set .discover
      { condition := .counting, remaining := ms, loaded := ms, count := s.timers.discover.count + 1 }) := by
  simp [startChannel, startedRec, channelIgnoresStart, channelGated, TimerBank.get]

theorem awaitDiscover_eq (s : State) (w : DiscoveryWait) (ms : Nat) : awaitDiscover s w ms =
    (s.setLoop { s.loop with wait := w }).setTimers (s.timers.set .discover
      { condition := .counting, remaining := ms, loaded := ms, count := s.timers.discover.count + 1 }) :=
  startChannel_discover _ ms

theorem startLoopDark_notices (s : State) : (startLoopDark s).notices =
    s.notices ++ (if s.loop.state = .running then [.loopDown .lift, .loopDown .clamps, .loopDown .heads] else []) := by
  unfold startLoopDark
  dsimp only
  rw [awaitDiscover_eq]
  split <;> split <;> simp [cancelTimer, send]

theorem startLoopDark_link (s : State) : (startLoopDark s).link = s.link := by
  unfold startLoopDark
  dsimp only
  rw [awaitDiscover_eq]
  split <;> split <;> rfl

theorem startLoopDark_loop (s : State) : (startLoopDark s).loop = { s.loop with
    state := .dark, table := [], chainEnd := 0, discovery := none, errors := 0
    tallies := { check := 0, silent := 0, order := 0 }, fault := none, wait := .darkHold, powered := 0
    firstCycle := false, sent := [] } := by
  unfold startLoopDark
  dsimp only
  rw [awaitDiscover_eq]
  split <;> split <;> rfl

theorem startLoopDark_timers (s : State) : (startLoopDark s).timers = s.timers.set .discover
    { condition := .counting, remaining := 500, loaded := 500
      count := if s.loop.wait = .none then s.timers.discover.count + 1 else s.timers.discover.count + 1 + 1 } := by
  unfold startLoopDark
  dsimp only
  rw [awaitDiscover_eq]
  have loop : (if s.loop.state = .running then send s [.loopDown .lift, .loopDown .clamps, .loopDown .heads] else s).loop =
      s.loop := by
    split <;> rfl
  have timers : (if s.loop.state = .running then send s [.loopDown .lift, .loopDown .clamps, .loopDown .heads]
      else s).timers = s.timers := by
    split <;> rfl
  rw [loop]
  split <;> simp [timers, cancelTimer, TimerBank.set, TimerBank.get, cancelledRec]

/-- Settles O16: LOOP START ends in `startLoopDark`, an owner's view is one field, and MAP ADOPT ends in `assignRoles`. -/
theorem loopStartsAndMapAdopted : Obligations.LoopStartsAndMapAdopted := by
  refine ⟨fun s f h met => ?start, fun s f r h failing => ?refused, fun s o rest h => ?down,
    fun s f h mismatch columns heads clamps => ?adopt, fun s f h other => ?wrongState, fun s f h mismatch wrong => ?badField⟩
  case start =>
    have e : exec .loopStart s = .next (settle s (answer (startLoopDark s) f .started)) :=
      event_serve_changes h (by decide) rfl (by rw [met])
    exact ⟨_, e, answer_answered s _ f _ (startLoopDark_link s), startLoopDark_loop s, startLoopDark_timers s,
      handsOn_settle (startLoopDark_notices s), execLoopStart_onlyChanges e⟩
  case refused =>
    have e : exec .loopStart s = .next (answer s f (.refused r .none)) :=
      event_serve_reads h (by decide) rfl (by rw [failing]; rfl)
    exact ⟨_, e, answer_answered s s f _ rfl, rfl, answer_onlyChanges s f _⟩
  case down =>
    have e : exec (.loopDownNotice o) s = .next _ := event_notice_quiet h rfl
      (by cases o <;> (apply settle_still <;> intros <;> rfl))
    refine ⟨_, e, ?_, ?_, ?_, ?_, ?_⟩
    · cases o <;> rfl
    · cases o <;> rfl
    · cases o <;> rfl
    · cases o <;> rfl
    · exact (execLoopDownNotice_onlyChanges (owner := o) e).mono (by cases o <;> simp [ownerPart])
  case adopt =>
    have e : exec .mapAdopt s = .next (settle s (answer (assignRoles
        (s.setSettings { s.settings with pitMap := adoptedMap s.loop.table }) (adoptedMap s.loop.table)) f
        (.done (.pitMap (adoptedMap s.loop.table))))) :=
      event_serve_changes h (by decide) rfl ((if_neg (not_not_intro mismatch)).trans (if_pos ⟨columns, heads, clamps⟩))
    exact ⟨_, e, answer_answered s _ f _ rfl, rfl, rfl, settle_keeps_notices _ _ _ rfl, execMapAdopt_onlyChanges e⟩
  case wrongState =>
    have e : exec .mapAdopt s = .next (answer s f (.refused .wrongState .none)) :=
      event_serve_reads h (by decide) rfl (if_pos other)
    exact ⟨_, e, answer_answered s s f _ rfl, rfl, answer_onlyChanges s f _⟩
  case badField =>
    have e : exec .mapAdopt s = .next (answer s f (.refused .badField (.offset 0))) :=
      event_serve_reads h (by decide) rfl ((if_neg (not_not_intro mismatch)).trans (if_neg wrong))
    exact ⟨_, 0, e, answer_answered s s f _ rfl, rfl, answer_onlyChanges s f _⟩

/-! ### Discovery (R35 to R42) -/

/-- A current expiry of DISCOVER at the step of discovery that waits for it. -/
theorem event_discoverExpiry {s : State} {rest : List Notice} {is : DiscoveryWait → Bool} {act : State → Nat → State}
    (h : waits s (isExpiry .discover) (.expiry .discover s.timers.discover.count) rest) (mine : is s.loop.wait = true) :
    event s (fun s => onDiscoverExpiry s is act) =
      .next (settle s (act (s.setNotices rest) (s.loop.discovery.getD 0))) := by
  have taken := event_expiry (act := fun t => if is t.loop.wait then act t (t.loop.discovery.getD 0) else s) h rfl
  have made : (if is (s.setNotices rest).loop.wait then
      act (s.setNotices rest) ((s.setNotices rest).loop.discovery.getD 0) else s) =
      act (s.setNotices rest) (s.loop.discovery.getD 0) := if_pos mine
  obtain ⟨powered, waiting⟩ := h
  rw [event_powered s _ powered]
  rw [event_powered s _ powered] at taken
  rw [← made]
  exact taken

/-- What a stopped discovery leaves, from a state that differs from `s` in its notices alone (R37). -/
theorem discoveryFaults_stop (s : State) (before : List Notice) (p : Nat) (o : SegmentOutcome) (localized : Bool) :
    discoveryFaults s (settle s (stopDiscovery (s.setNotices before) p o localized)) before p o localized :=
  ⟨rfl, rfl, handsOn_settle rfl⟩

/-- What the end of discovery leaves, from a state whose loop has the table and that many segments powered (R39 to R42). -/
theorem discoveryEnds_end {s u : State} {table : List NodeEntry} {segments n : Nat} (timers : u.timers = s.timers)
    (settings : u.settings = s.settings) (loop : u.loop = { s.loop with table := table, powered := segments }) :
    discoveryEnds s (settle s (endDiscovery u n)) table segments n := by
  unfold discoveryEnds endDiscovery
  dsimp only
  have map : firstDisagreeing ((endWait u).setLoop { (endWait u).loop with chainEnd := n }).settings.pitMap
      ((endWait u).setLoop { (endWait u).loop with chainEnd := n }).loop.table =
      firstDisagreeing s.settings.pitMap table := by
    change firstDisagreeing u.settings.pitMap u.loop.table = _
    rw [settings, loop]
  have cancelled : (endWait u).timers = s.timers.set .discover
      { s.timers.discover with condition := .idle, count := s.timers.discover.count + 1 } := by
    rw [← timers]; rfl
  have waited : (endWait u).loop = { u.loop with wait := .none, discovery := none } := rfl
  rw [map]
  cases firstDisagreeing s.settings.pitMap table with
  | none =>
    refine ⟨cancelled, ?_⟩
    dsimp only
    have assigned : ((assignRoles ((endWait u).setLoop { (endWait u).loop with chainEnd := n })
        ((endWait u).setLoop { (endWait u).loop with chainEnd := n }).settings.pitMap)).loop =
      { (endWait u).loop with
        state := .discovering, cycle := 0, firstCycle := true, chainEnd := n
        table := (endWait u).loop.table.map fun e =>
          { e with role := mapRole (endWait u).settings.pitMap e.position, condition := .active, count := 0 } } := rfl
    have kept : (endWait u).settings = s.settings := settings
    refine Eq.trans assigned ?_
    rw [waited, loop, kept]
  | some p =>
    refine ⟨cancelled, ?_, ?_⟩
    · change { (endWait u).loop with state := .mismatch, chainEnd := n } = _
      rw [waited, loop]
    · refine mem_settle_of_mem ?_
      have same : (endWait u).loop.table = table := by rw [waited, loop]
      dsimp only
      rw [← same]
      exact List.mem_append_right _ (List.mem_singleton.mpr rfl)

theorem endDiscovery_handsOn {o u : State} {before : List Notice} (n : Nat) (kept : u.notices = before) :
    handsOn before (settle o (endDiscovery u n)) := by
  subst kept
  refine List.IsPrefix.trans ?_ (settle_handsOn o _)
  unfold endDiscovery
  dsimp only
  split
  · exact List.prefix_rfl
  · exact List.prefix_append _ _

/-- Settles O17: each step either awaits the DISCOVER channel again or ends in `stopDiscovery` or `endDiscovery`. -/
theorem discoveryWalksTheLoop : Obligations.DiscoveryWalksTheLoop := by
  refine ⟨fun s rest h wait => ?dark, fun s p localized powered wait running at_ => ?clean,
    fun s p o localized powered wait running at_ bad => ?faulty, fun s p rest h wait at_ => ?timeout,
    fun s p k kind serial x powered wait running at_ entry => ?good,
    fun s p k kind serial powered wait running at_ => ?bad, fun s p k rest h wait at_ => ?silent⟩
  case dark =>
    have e : exec .darkHoldExpiry s = .next (settle s (diagnose (s.setNotices rest) 1)) :=
      event_discoverExpiry h (by rw [wait]; rfl)
    rw [diagnose, awaitDiscover_eq] at e
    exact ⟨_, e, rfl, rfl, handsOn_settle rfl, execDarkHoldExpiry_onlyChanges e⟩
  case clean =>
    have e : exec (.segmentDiagnosis .clean localized) s =
        .next (awaitDiscover (s.setLoop { s.loop with powered := p }) (.query 1) 40) :=
      event_quiet powered (by rw [if_pos ⟨wait, running⟩, at_]; rfl) (by rw [awaitDiscover_eq]; apply settle_quiet <;> rfl)
    rw [awaitDiscover_eq] at e
    exact ⟨_, e, rfl, rfl, rfl, execSegmentDiagnosis_onlyChanges (outcome := .clean) e⟩
  case faulty =>
    have e : exec (.segmentDiagnosis o localized) s =
        .next (settle s (stopDiscovery s p o (localized && o != .undetermined))) :=
      event_acts powered (by rw [if_pos ⟨wait, running⟩, at_]; exact if_neg bad)
    exact ⟨_, e, discoveryFaults_stop s s.notices p o _, execSegmentDiagnosis_onlyChanges (outcome := o) e⟩
  case timeout =>
    have e : exec .diagnosisTimeout s = _ := event_discoverExpiry h (by rw [wait]; rfl)
    rw [at_] at e
    exact ⟨_, e, discoveryFaults_stop s rest p .undetermined false, execDiagnosisTimeout_onlyChanges e⟩
  case good =>
    subst entry
    by_cases inner : p < 12
    · have e : exec (.identityAnswer true kind serial) s =
          .next (settle s (diagnose (s.setLoop { s.loop with table := s.loop.table ++ [newEntry p kind serial] }) (p + 1))) := by
        change execIdentityAnswer true kind serial s = _
        exact event_acts powered (by rw [wait]; simp [running, at_, inner])
      rw [diagnose, awaitDiscover_eq] at e
      exact ⟨_, e, handsOn_settle rfl, execIdentityAnswer_onlyChanges (ok := true) e, fun _ => ⟨rfl, rfl⟩, by omega⟩
    · have e : exec (.identityAnswer true kind serial) s =
          .next (settle s (endDiscovery (s.setLoop { s.loop with table := s.loop.table ++ [newEntry p kind serial] }) p)) := by
        change execIdentityAnswer true kind serial s = _
        exact event_acts powered (by rw [wait]; simp [running, at_, inner])
      refine ⟨_, e, endDiscovery_handsOn p rfl, execIdentityAnswer_onlyChanges (ok := true) e,
        fun lower => absurd lower inner, fun last => ?_⟩
      subst last
      exact discoveryEnds_end rfl rfl rfl
  case bad =>
    by_cases again : k < 3
    · have e : exec (.identityAnswer false kind serial) s = .next (awaitDiscover s (.query (k + 1)) 40) := by
        change execIdentityAnswer false kind serial s = _
        exact event_quiet powered (by rw [wait]; simp [running, again])
          (by rw [awaitDiscover_eq]; apply settle_quiet <;> rfl)
      rw [awaitDiscover_eq] at e
      exact ⟨_, e, execIdentityAnswer_onlyChanges (ok := false) e, fun _ => ⟨rfl, rfl, rfl⟩, by omega⟩
    · have e : exec (.identityAnswer false kind serial) s = .next (settle s (stopDiscovery s p .undetermined false)) := by
        change execIdentityAnswer false kind serial s = _
        exact event_acts powered (by rw [wait]; simp [running, at_, again])
      exact ⟨_, e, execIdentityAnswer_onlyChanges (ok := false) e, fun less => absurd less again,
        fun _ => discoveryFaults_stop s s.notices p .undetermined false⟩
  case silent =>
    have e : exec .identityQueryTimeout s = _ := event_discoverExpiry h (by rw [wait]; rfl)
    rw [at_] at e
    exact ⟨_, e, discoveryEnds_end (u := (s.setNotices rest).setLoop { s.loop with powered := p - 1 }) rfl rfl rfl,
      endDiscovery_handsOn (p - 1) rfl, execIdentityQueryTimeout_onlyChanges e⟩

/-! ### Cycles (R28 to R33, R41, R45) -/

/-- What the cycle's failures leave of the error counter and the tallies (R33). -/
theorem takeFailures_loop (s : State) (fs : List LoopError) : (takeFailures s fs).loop =
    if 0 < (fs.filter (kindCounted s.settings.errorKinds)).length ∧ 2 ^ (s.settings.errorIndex + 1) ≤
        s.loop.errors + (fs.filter (kindCounted s.settings.errorKinds)).length then
      { s.loop with errors := 0, tallies := { check := 0, silent := 0, order := 0 } }
    else { s.loop with
      errors := s.loop.errors + (fs.filter (kindCounted s.settings.errorKinds)).length
      tallies := fs.foldl tallied s.loop.tallies } := by
  unfold takeFailures
  dsimp only
  split <;> rfl

theorem takeFailures_notices (s : State) (fs : List LoopError) : (takeFailures s fs).notices = s.notices ++
    if 0 < (fs.filter (kindCounted s.settings.errorKinds)).length ∧ 2 ^ (s.settings.errorIndex + 1) ≤
        s.loop.errors + (fs.filter (kindCounted s.settings.errorKinds)).length then
      [.posting .loopQuality .pit (.loopQuality (fs.foldl tallied s.loop.tallies) (2 ^ (s.settings.errorIndex + 1)))]
    else [] := by
  unfold takeFailures
  dsimp only
  split
  · rfl
  · simp

/-- The judged nodes that have a role. -/
theorem filterMap_role_snd (js : List (NodeEntry × CycleOutcome)) :
    (js.filterMap (fun j => j.1.role.map (fun r => (r, j)))).map (·.2) = js.filter (fun j => j.1.role.isSome) := by
  induction js with
  | nil => rfl
  | cons j js ih => cases role : j.1.role <;> simp [role, ih]

theorem filterMap_role_outcome (js : List (NodeEntry × CycleOutcome)) :
    (js.filterMap (fun j => j.1.role.map (fun r => (r, j)))).map (fun r => (r.1, r.2.2)) =
      js.filterMap (fun j => j.1.role.map (fun r => (r, j.2))) := by
  induction js with
  | nil => rfl
  | cons j js ih => cases role : j.1.role <;> simp [role, ih]

/-- The node table's entries, each with the outcome of its cycle. -/
def judgments (s : State) (slots : List (Nat × SlotReport)) : List (NodeEntry × CycleOutcome) :=
  s.loop.table.map (fun e => (e, judge e s.loop.cycle (sparseGet slots e.position)))

/-- The loop after a cycle, its failures not yet counted. -/
def cycledLoop (s : State) (slots : List (Nat × SlotReport)) : LoopControl :=
  { s.loop with
    sent := cycleOrders s
    table := (judgments s slots).map (fun j => if j.1.role.isSome then judgedEntry j.1 j.2 else j.1)
    cycle := s.loop.cycle + 1
    firstCycle := false
    state := .running }

/-- The failures of the nodes that have a role. -/
def cycleFailures (s : State) (slots : List (Nat × SlotReport)) : List LoopError :=
  activeFailures ((judgments s slots).filter (fun j => j.1.role.isSome))

/-- What the judged nodes' owners are handed (R30 to R32). -/
def cycleNotices (s : State) (slots : List (Nat × SlotReport)) : List Notice :=
  ((judgments s slots).filterMap (fun j => j.1.role.map (fun r => (r, j)))).flatMap
    (fun r => judgedNotices s.loop.firstCycle r.1 r.2.1 r.2.2)

/-- What the close of the first cycle hands on (R41, R45). -/
def firstCycleNotices (s : State) (slots : List (Nat × SlotReport)) (chainEnd : Nat) : List Notice :=
  if s.loop.firstCycle = true then
    let outs := (judgments s slots).filterMap (fun j => j.1.role.map (fun r => (r, j.2)))
    [.posting .loopState .pit (.loopRunning chainEnd), .loopUp .lift (ownOutcomes .lift outs),
      .loopUp .clamps (ownOutcomes .clamps outs), .loopUp .heads (ownOutcomes .heads outs)]
  else []

/-- A cycle in RUNNING, or the first: what it makes of the loop and hands on, before it settles. -/
theorem exec_loopCycle {s : State} {slots : List (Nat × SlotReport)} (powered : s.powered = true)
    (running : s.loop.state = .running ∨ s.loop.firstCycle = true) :
    ∃ u, exec (.loopCycle slots) s = .next (settle s u) ∧
      u.loop = (takeFailures (s.setLoop (cycledLoop s slots)) (cycleFailures s slots)).loop ∧
      u.notices = (takeFailures (s.setLoop (cycledLoop s slots)) (cycleFailures s slots)).notices ++
        cycleNotices s slots ++ firstCycleNotices s slots s.loop.chainEnd := by
  refine ⟨_, event_acts powered (if_pos running), ?_, ?_⟩
  · dsimp only
    rw [filterMap_role_snd]
    cases s.loop.firstCycle <;> rfl
  · dsimp only
    rw [filterMap_role_snd, filterMap_role_outcome]
    have kept : ((takeFailures (s.setLoop (cycledLoop s slots)) (cycleFailures s slots)).loop).chainEnd =
        s.loop.chainEnd := by
      rw [takeFailures_loop]
      split <;> rfl
    refine Eq.trans ?_ (congrArg (_ ++ firstCycleNotices s slots ·) kept)
    unfold firstCycleNotices
    cases first : s.loop.firstCycle with
    | true =>
      rw [if_pos rfl, if_pos rfl]
      unfold cycleNotices
      rw [first]
      rfl
    | false =>
      rw [if_neg (by decide : ¬ (false = true)), if_neg (by decide : ¬ (false = true)), List.append_nil]
      unfold cycleNotices
      rw [first]
      rfl

/-- Settles O18: the table is judged entry by entry, the failures go through `takeFailures`, and the notices are sent. -/
theorem loopCycleJudgesNodes : Obligations.LoopCycleJudgesNodes := by
  intro s slots powered running
  obtain ⟨u, e, loop, notices⟩ := exec_loopCycle (slots := slots) powered running
  rw [takeFailures_loop] at loop
  rw [takeFailures_notices] at notices
  have shown (n : Notice) (mem : n ∈ u.notices) : n ∈ (settle s u).notices := mem_settle_of_mem mem
  have prefix_ : handsOn s.notices (settle s u) := by
    refine List.IsPrefix.trans ?_ (settle_handsOn s u)
    rw [notices, List.append_assoc, List.append_assoc]
    exact List.prefix_append _ _
  refine ⟨_, judgments s slots, cycleFailures s slots, _, e, rfl, rfl, rfl, ?_⟩
  change u.loop.table = _ ∧ u.loop.state = _ ∧ u.loop.firstCycle = _ ∧ u.loop.cycle = _ ∧ u.loop.sent = _ ∧
    u.loop.chainEnd = _ ∧ u.loop.fault = _ ∧ u.loop.powered = _ ∧ u.loop.wait = _ ∧ u.loop.discovery = _ ∧
    (if _ then u.loop.errors = _ ∧ u.loop.tallies = _ ∧ _ else u.loop.errors = _ ∧ u.loop.tallies = _) ∧ _
  have handed : (∀ j ∈ judgments s slots, ∀ r, j.1.role = some r →
      ∀ n ∈ judgedNotices s.loop.firstCycle r j.1 j.2, n ∈ (settle s u).notices) ∧
      (s.loop.firstCycle = true →
        Notice.posting .loopState .pit (.loopRunning s.loop.chainEnd) ∈ (settle s u).notices ∧
        ∀ o, Notice.loopUp o (ownOutcomes o ((judgments s slots).filterMap (fun j => j.1.role.map (fun r => (r, j.2))))) ∈
          (settle s u).notices) := by
    refine ⟨fun j mem r role n handed => shown n ?_, fun first => ?_⟩
    · rw [notices]
      refine List.mem_append_left _ (List.mem_append_right _ (List.mem_flatMap.mpr ⟨(r, j), ?_, handed⟩))
      exact List.mem_filterMap.mpr ⟨j, mem, by rw [role]; rfl⟩
    · have closing (n : Notice) (mem : n ∈ firstCycleNotices s slots s.loop.chainEnd) : n ∈ (settle s u).notices :=
        shown n (notices ▸ List.mem_append_right _ mem)
      refine ⟨closing _ (by simp [firstCycleNotices, first]), fun o => closing _ ?_⟩
      cases o <;> simp [firstCycleNotices, first]
  have frame := execLoopCycle_onlyChanges e
  by_cases quality : 0 < ((cycleFailures s slots).filter (kindCounted s.settings.errorKinds)).length ∧
      2 ^ (s.settings.errorIndex + 1) ≤
        s.loop.errors + ((cycleFailures s slots).filter (kindCounted s.settings.errorKinds)).length
  · have loop' := loop.trans (if_pos quality)
    rw [loop']
    refine ⟨rfl, rfl, rfl, rfl, rfl, rfl, rfl, rfl, rfl, rfl, ?_, handed.1, handed.2, prefix_, frame⟩
    rw [if_pos quality]
    refine ⟨rfl, rfl, shown _ ?_⟩
    rw [notices]
    refine List.mem_append_left _ (List.mem_append_left _ (List.mem_append_right _ ?_))
    exact (if_pos quality : ite _ _ _ = _) ▸ List.mem_singleton.mpr rfl
  · have loop' := loop.trans (if_neg quality)
    rw [loop']
    refine ⟨rfl, rfl, rfl, rfl, rfl, rfl, rfl, rfl, rfl, rfl, ?_, handed.1, handed.2, prefix_, frame⟩
    rw [if_neg quality]
    exact ⟨rfl, rfl⟩

end Sys2Proof.Machine

/-! ### The lift (sections 4.1 to 4.8) -/

namespace Sys2Proof.Machine

/-! ### Holds -/

theorem cancelRunning_get (s : State) (c ch : Channel) : (cancelRunning s c).timers.get ch =
    if c = ch ∧ (s.timers.get ch).condition ≠ .idle then cancelledRec (s.timers.get ch) else s.timers.get ch := by
  unfold cancelRunning
  by_cases same : c = ch
  · subst same
    split
    next idle => simp [idle]
    next running => simp [running, cancelTimer_get]
  · rw [if_neg (c := c = ch ∧ _) (fun both => same both.1)]
    split
    · rfl
    · exact TimerBank.get_set_other _ _ _ _ (Ne.symm same)

theorem cancelRunning_gate (s : State) (c : Channel) : (cancelRunning s c).timers.gateOpen = s.timers.gateOpen := by
  unfold cancelRunning
  split
  · rfl
  · cases c <;> rfl

/-- The lift's four channels, and no other (R80, R82). -/
theorem cancelLift_stopped (s : State) : liftTimersStopped s (cancelLift s) := by
  refine ⟨by simp only [cancelLift, cancelRunning_gate], fun ch => ?_⟩
  simp only [cancelLift, cancelRunning_get]
  cases ch <;> simp

/-- What a hold leaves, where the state that it begins from has the lift and the timers of `s` (R66, R80). -/
theorem enterHolding_holds {s u : State} {before : List Notice} (lift : u.lift = s.lift) (timers : u.timers = s.timers)
    (notices : u.notices = before) (reason : HoldReason) (p : Particulars) :
    liftHolds s (enterHolding u reason p) before reason p := by
  subst notices
  have stopped := cancelLift_stopped u
  have kept := cancelLift_lift u
  have under_ := cancelLift_notices u
  unfold liftTimersStopped at stopped
  rw [timers] at stopped
  unfold liftHolds liftTimersStopped enterHolding
  rw [← lift]
  dsimp only
  generalize cancelLift u = t at stopped kept under_ ⊢
  refine ⟨?_, stopped, ?_⟩
  · rw [← kept]
    rfl
  · rw [← kept, ← under_]
    exact List.prefix_rfl

/-- Settling, and an answer, leave a hold as it is. -/
theorem liftHolds.settle {s u : State} {before : List Notice} {reason : HoldReason} {p : Particulars}
    (holds : liftHolds s u before reason p) (o : State) : liftHolds s (settle o u) before reason p := by
  obtain ⟨lift, stopped, handed⟩ := holds
  exact ⟨lift, stopped, handed.trans (settle_handsOn o u)⟩

theorem liftHolds.answer {s u : State} {before : List Notice} {reason : HoldReason} {p : Particulars}
    (holds : liftHolds s u before reason p) (f : Frame) (r : ReplyBody) : liftHolds s (answer u f r) before reason p := by
  obtain ⟨lift, ⟨gate, channels⟩, handed⟩ := holds
  exact ⟨lift, ⟨gate, channels⟩, handed⟩

/-! ### The requests (R69 to R73, R80, R81) -/

theorem settle_answered {o s u : State} (f : Frame) (r : ReplyBody) (link : u.link = s.link) :
    answered s f (settle o (answer u f r)) r := by
  unfold answered answer
  rw [← link]
  rfl

theorem enterHolding_link (s : State) (reason : HoldReason) (p : Particulars) : (enterHolding s reason p).link = s.link := by
  simp [enterHolding, postLiftStopped]

theorem liftMoving_of {w : LiftState} (moving : w = .warning ∨ w = .raising ∨ w = .settling ∨ w = .lowering) :
    liftMoving w = true := by
  rcases moving with rfl | rfl | rfl | rfl <;> rfl

/-- Settles O24: the three requests end in `enterWarning`, LIFT STOP in `enterHolding`. -/
theorem liftRequestsWarnAndStop : Obligations.LiftRequestsWarnAndStop := by
  refine ⟨fun s f k c d h which met => ?warn, fun s f k c r h which => ?refused, fun s f h moving => ?stop,
    fun s f h rest => ?atRest⟩
  case warn =>
    rcases which with ⟨rfl, rfl, rfl, low⟩ | ⟨rfl, rfl, rfl, up⟩ | ⟨rfl, rfl, rfl, holding⟩
    · have e : exec .liftRaise s = .next (settle s (answer (enterWarning (s.setLift { s.lift with direction := .up })) f
          .started)) := event_serve_changes h (by decide) rfl (by simp [firstFailing, low, met])
      exact ⟨_, e, answer_answered s _ f _ rfl, rfl, rfl, handsOn_settle rfl, execLiftRaise_onlyChanges e⟩
    · have may : (s.lift.state == .raised || s.lift.state == .holding || s.lift.state == .faulted) = true := by
        simpa [or_assoc] using up
      have e : exec .liftLower s = .next (settle s (answer (enterWarning (s.setLift { s.lift with direction := .down })) f
          .started)) := event_serve_changes h (by decide) rfl (by rw [firstFailing, may, if_pos rfl, met])
      exact ⟨_, e, answer_answered s _ f _ rfl, rfl, rfl, handsOn_settle rfl, execLiftLower_onlyChanges e⟩
    · have e : exec .liftResume s = .next (settle s (answer (enterWarning s) f .started)) :=
        event_serve_changes h (by decide) rfl (by simp [firstFailing, holding, met])
      exact ⟨_, e, answer_answered s _ f _ rfl, rfl, rfl, handsOn_settle rfl, execLiftResume_onlyChanges e⟩
  case refused =>
    rcases which with ⟨rfl, rfl, failing⟩ | ⟨rfl, rfl, failing⟩ | ⟨rfl, rfl, failing⟩
    · exact event_serve_unchanged h (by decide) rfl (by rw [failing]; rfl)
    · exact event_serve_unchanged h (by decide) rfl (by rw [failing]; rfl)
    · exact event_serve_unchanged h (by decide) rfl (by rw [failing]; rfl)
  case stop =>
    have e : exec .liftStop s = .next (settle s (answer (enterHolding s .host .none) f
        (.done (.liftHeld (s.lift.columns.map (·.height)))))) :=
      event_serve_changes h (by decide) rfl (if_pos (liftMoving_of moving))
    exact ⟨_, e, settle_answered f _ (enterHolding_link s _ _),
      ((enterHolding_holds rfl rfl rfl _ _).answer f _).settle s, execLiftStop_onlyChanges e⟩
  case atRest =>
    exact event_serve_unchanged h (by decide) rfl (if_neg (by rw [rest]; decide))

/-! ### Zone and stop notices -/

/-- Settles O25: both notices set one field of the view, then hold a lift that they concern. -/
theorem breachAndBreakHoldLift : Obligations.BreachAndBreakHoldLift := by
  refine ⟨fun s u rest h view => ?breach, fun s u rest h view => ?break_⟩
  case breach =>
    subst view
    by_cases moving : s.lift.state = .warning ∨ s.lift.state = .raising ∨ s.lift.state = .lowering
    · have e : exec .liftBreachNotice s = .next (settle s (enterHolding ((s.setNotices rest).setLift
          { s.lift with view := { s.lift.view with zone := s.zone.zone } }) .zone .none)) :=
        (event_notice h).trans (congrArg (fun x => Host.Outcome.next (settle s x)) (if_pos moving))
      refine ⟨_, e, execLiftBreachNotice_onlyChanges e, ?_⟩
      rw [if_pos moving]
      exact (enterHolding_holds rfl rfl rfl _ _).settle s
    · have e : exec .liftBreachNotice s = .next ((s.setNotices rest).setLift
          { s.lift with view := { s.lift.view with zone := s.zone.zone } }) :=
        event_notice_quiet h (if_neg moving) (by apply settle_still <;> intros <;> rfl)
      refine ⟨_, e, execLiftBreachNotice_onlyChanges e, ?_⟩
      rw [if_neg moving]
      exact ⟨rfl, rfl, rfl⟩
  case break_ =>
    subst view
    by_cases moving : liftMoving s.lift.state = true
    · have e : exec .liftBreakNotice s = .next (settle s (enterHolding ((s.setNotices rest).setLift
          { s.lift with view := { s.lift.view with stop := s.zone.stop } }) .stopped .none)) :=
        (event_notice h).trans (congrArg (fun x => Host.Outcome.next (settle s x)) (if_pos moving))
      refine ⟨_, e, execLiftBreakNotice_onlyChanges e, ?_⟩
      rw [if_pos moving]
      exact (enterHolding_holds rfl rfl rfl _ _).settle s
    · have e : exec .liftBreakNotice s = .next ((s.setNotices rest).setLift
          { s.lift with view := { s.lift.view with stop := s.zone.stop } }) :=
        event_notice_quiet h (if_neg moving) (by apply settle_still <;> intros <;> rfl)
      refine ⟨_, e, execLiftBreakNotice_onlyChanges e, ?_⟩
      rw [if_neg moving]
      exact ⟨rfl, rfl, rfl⟩

/-! ### Timer expiries -/

section
variable {s u : State} {rest : List Notice} {ch : Channel} {act : State → State}

/-- A current expiry, with what the owner makes of it. -/
theorem event_expiry_acts (h : waits s (isExpiry ch) (.expiry ch (s.timers.get ch).count) rest)
    (made : act (s.setNotices rest) = u) : event s (fun s => onExpiry s ch act) = .next (settle s u) := by
  rw [event_expiry h rfl, made]

theorem event_expiry_quiet (h : waits s (isExpiry ch) (.expiry ch (s.timers.get ch).count) rest)
    (made : act (s.setNotices rest) = u) (quiet : settle s u = u) :
    event s (fun s => onExpiry s ch act) = .next u := by
  rw [event_expiry_acts h made, quiet]

end

/-- Settles O26: the end of the warning enters RAISING or LOWERING, by the direction memory. -/
theorem warningEndStartsMotion : Obligations.WarningEndStartsMotion := by
  intro s rest i h warning next
  subst next
  cases way : s.lift.direction with
  | up =>
    have e : exec .warnExpiry s = .next (settle s (enterRaising (s.setNotices rest))) :=
      event_expiry_acts h ((if_pos warning).trans (by rw [show (s.setNotices rest).lift.direction = .up from way]))
    refine ⟨_, _, e, execWarnExpiry_onlyChanges e, handsOn_settle rfl, rfl, ?_, rfl⟩
    rfl
  | down =>
    have e : exec .warnExpiry s = .next (settle s (enterLowering (s.setNotices rest))) :=
      event_expiry_acts h ((if_pos warning).trans (by rw [show (s.setNotices rest).lift.direction = .down from way]))
    refine ⟨_, _, e, execWarnExpiry_onlyChanges e, handsOn_settle rfl, rfl, ?_, rfl⟩
    rfl

theorem paceStep_issues {s : State} (near : ¬ leastAck s.lift + 2 ≤ s.lift.stepIndex) (more : s.lift.finalIndex = none) :
    paceStep s = issueStep s (s.lift.issued - s.settings.liftStep) := by
  unfold paceStep
  dsimp only
  rw [if_neg near]
  split
  next => rfl
  next final => cases more.symm.trans final

theorem paceStep_counts {s : State} {i : Nat} (near : ¬ leastAck s.lift + 2 ≤ s.lift.stepIndex)
    (final : s.lift.finalIndex = some i) : paceStep s = s.setLift { s.lift with stepIndex := s.lift.stepIndex + 1 } := by
  unfold paceStep
  dsimp only
  rw [if_neg near]
  split
  next more => cases final.symm.trans more
  next => rfl

/-- Settles O27: each expiry either holds the lift, posts LIFT-DONE, or counts the step on. -/
theorem liftTimersHoldOrGoOn : Obligations.LiftTimersHoldOrGoOn := by
  refine ⟨fun s rest h raising => ?step, fun s rest h settling passed => ?raised,
    fun s rest reason p h settling failed => ?settleFails, fun s rest h lowering => ?pace⟩
  case step =>
    have e : exec .stepExpiry s = .next (settle s (enterHolding (s.setNotices rest) .stepTimeout _)) :=
      event_expiry_acts h (if_pos raising)
    exact ⟨_, e, execStepExpiry_onlyChanges e, (enterHolding_holds rfl rfl rfl _ _).settle s⟩
  case raised =>
    have e : exec .settleExpiry s = .next (settle s (postLiftDone ((s.setNotices rest).setLift
        { holdColumns s.lift with state := .raised }) true)) :=
      event_expiry_acts h ((if_pos settling).trans
        (by rw [show levelAndLoad (s.setNotices rest).settings (s.setNotices rest).lift = none from passed]; rfl))
    exact ⟨_, e, ((((onlyChanges_refl [.lift] s).setNotices rest).setLift (by simp) _).post _ _ _).settle s, rfl,
      handsOn_settle rfl⟩
  case settleFails =>
    have e : exec .settleExpiry s = .next (settle s (enterHolding (s.setNotices rest) reason p)) :=
      event_expiry_acts h ((if_pos settling).trans
        (by rw [show levelAndLoad (s.setNotices rest).settings (s.setNotices rest).lift = some (reason, p) from failed]))
    exact ⟨_, e, execSettleExpiry_onlyChanges e, (enterHolding_holds rfl rfl rfl _ _).settle s⟩
  case pace =>
    by_cases lag : leastAck s.lift + 2 ≤ s.lift.stepIndex
    · have e : exec .paceExpiry s = .next (settle s (enterHolding (s.setNotices rest) .lag _)) :=
        event_expiry_acts h ((if_pos lowering).trans (if_pos lag))
      exact ⟨_, e, execPaceExpiry_onlyChanges e, fun _ => (enterHolding_holds rfl rfl rfl _ _).settle s, by omega⟩
    · cases final : s.lift.finalIndex with
      | none =>
        have e : exec .paceExpiry s = .next (issueStep (s.setNotices rest) (s.lift.issued - s.settings.liftStep)) :=
          event_expiry_quiet h ((if_pos lowering).trans (paceStep_issues (s := s.setNotices rest) lag final))
            (by apply settle_still <;> intros <;> rfl)
        refine ⟨_, e, execPaceExpiry_onlyChanges e, fun less => absurd less lag, fun _ =>
          ⟨rfl, rfl, rfl, lowering, fun _ some_ => (nomatch some_), fun _ => ⟨rfl, ?_, fun c => ?_⟩⟩⟩
        · exact congrArg (ite _ _) final
        · cases c <;> rfl
      | some i =>
        have e : exec .paceExpiry s =
            .next ((s.setNotices rest).setLift { s.lift with stepIndex := s.lift.stepIndex + 1 }) :=
          event_expiry_quiet h ((if_pos lowering).trans (paceStep_counts (s := s.setNotices rest) lag final))
            (by apply settle_still <;> intros <;> rfl)
        exact ⟨_, e, execPaceExpiry_onlyChanges e, fun less => absurd less lag, fun _ =>
          ⟨rfl, rfl, rfl, lowering, fun _ _ => rfl, fun none_ => nomatch none_⟩⟩

end Sys2Proof.Machine

/-! ### Column reports, lost columns and the lift's loop-up (sections 4.1 to 4.4, 4.6, 4.8) -/

namespace Sys2Proof.Machine

theorem handsOn_settle_of {before : List Notice} {o n : State} (made : before <+: n.notices) :
    handsOn before (settle o n) :=
  made.trans (settle_handsOn o n)

/-! ### A report recorded (R67) -/

/-- What an acknowledgement leaves of a column's record. -/
theorem acknowledge_record (ack : Nat) (r : ColumnRec) (o : ColumnOrder) :
    (acknowledge ack r o).1.lastAck = ack ∧ (acknowledge ack r o).1.height = r.height ∧
    (acknowledge ack r o).1.load = r.load ∧ (acknowledge ack r o).1.status = r.status ∧
    (acknowledge ack r o).1.condition = r.condition := by
  cases o <;> exact ⟨rfl, rfl, rfl, rfl, rfl⟩

section
variable (l : Lift) (c : Column) (height load : Nat) (status : ColumnStatus) (ack : Nat)

theorem recordColumn_readings : ((recordColumn l c height load status ack).columns.get c).height = some height ∧
    ((recordColumn l c height load status ack).columns.get c).load = some load ∧
    ((recordColumn l c height load status ack).columns.get c).status = some status ∧
    ((recordColumn l c height load status ack).columns.get c).condition = (l.columns.get c).condition := by
  unfold recordColumn
  dsimp only
  split
  next acked =>
    obtain ⟨-, heights, loads, statuses, conditions⟩ := acknowledge_record ack
      { l.columns.get c with height := some height, load := some load, status := some status
                             current := if l.orders.get c = .hold then some height else (l.columns.get c).current }
      (l.orders.get c)
    simp only [PerColumn.get_set_same]
    exact ⟨heights, loads, statuses, conditions⟩
  next => simp only [PerColumn.get_set_same, and_self]

theorem recordColumn_lastAck : ((recordColumn l c height load status ack).columns.get c).lastAck =
    if (l.columns.get c).lastAck < ack ∧ ack ≤ highestIssued l ∧ l.state ≠ .warning then ack
    else (l.columns.get c).lastAck := by
  unfold recordColumn
  dsimp only
  split
  next acked =>
    simp only [PerColumn.get_set_same]
    exact (acknowledge_record ack _ _).1
  next => simp only [PerColumn.get_set_same]

theorem recordColumn_other {c' : Column} (other : c' ≠ c) :
    (recordColumn l c height load status ack).columns.get c' = l.columns.get c' := by
  unfold recordColumn
  dsimp only
  split <;> exact PerColumn.get_set_ne _ other _

theorem recordColumn_state : (recordColumn l c height load status ack).state = l.state := by
  unfold recordColumn
  dsimp only
  split <;> rfl

end

/-! ### The check after a report (R74, R75, R77, R78) -/

theorem liftCheck_raising {s : State} (raising : s.lift.state = .raising) : liftCheck s = stepCheck s := by
  unfold liftCheck
  rw [raising]

theorem liftCheck_lowering {s : State} (lowering : s.lift.state = .lowering) : liftCheck s = completionCheck s := by
  unfold liftCheck
  rw [lowering]

theorem liftCheck_still {s : State} (raising : s.lift.state ≠ .raising) (lowering : s.lift.state ≠ .lowering) :
    liftCheck s = s := by
  unfold liftCheck
  split
  next moving => exact absurd moving raising
  next moving => exact absurd moving lowering
  all_goals rfl

theorem stepCheck_owing {s : State} (owing : allAcknowledged s.lift s.lift.stepIndex = false) : stepCheck s = s := by
  unfold stepCheck
  rw [owing]
  rfl

theorem stepCheck_fails {s : State} {reason : HoldReason} {p : Particulars}
    (acked : allAcknowledged s.lift s.lift.stepIndex = true) (fails : levelAndLoad s.settings s.lift = some (reason, p)) :
    stepCheck s = enterHolding (cancelTimer s .step) reason p := by
  unfold stepCheck
  rw [acked, if_pos rfl]
  dsimp only [cancelTimer_settings, cancelTimer_lift]
  rw [fails]

theorem stepCheck_passes {s : State} (acked : allAcknowledged s.lift s.lift.stepIndex = true)
    (passes : levelAndLoad s.settings s.lift = none) : stepCheck s =
      if s.settings.raiseHeight ≤ s.lift.issued then enterSettling (cancelTimer s .step)
      else offerStep (cancelTimer s .step) (min (s.lift.issued + s.settings.liftStep) s.settings.raiseHeight) := by
  unfold stepCheck
  rw [acked, if_pos rfl]
  dsimp only [cancelTimer_settings, cancelTimer_lift]
  rw [passes]
  rfl

theorem completionCheck_waits {s : State} (owing : ∀ i, s.lift.finalIndex = some i → allAcknowledged s.lift i = false) :
    completionCheck s = s := by
  unfold completionCheck
  split
  · rfl
  next i final =>
    rw [owing i final]
    rfl

theorem completionCheck_done {s : State} {i : Nat} (final : s.lift.finalIndex = some i)
    (acked : allAcknowledged s.lift i = true) : completionCheck s =
      postLiftDone ((cancelTimer s .pace).setLift { holdColumns s.lift with state := .lowered }) false := by
  unfold completionCheck
  rw [final]
  dsimp only
  rw [acked, if_pos rfl]
  rfl

theorem enterHolding_handsOn (s : State) (reason : HoldReason) (p : Particulars) :
    handsOn s.notices (enterHolding s reason p) := by
  obtain ⟨-, -, handed⟩ := enterHolding_holds (s := s) (u := s) rfl rfl rfl reason p
  exact (List.prefix_append _ _).trans handed

theorem liftCheck_handsOn (s : State) : handsOn s.notices (liftCheck s) := by
  have same : handsOn s.notices s := List.prefix_rfl
  by_cases raising : s.lift.state = .raising
  · rw [liftCheck_raising raising]
    cases acked : allAcknowledged s.lift s.lift.stepIndex with
    | false => rwa [stepCheck_owing acked]
    | true =>
      cases check : levelAndLoad s.settings s.lift with
      | some x =>
        rw [stepCheck_fails acked check]
        exact enterHolding_handsOn (cancelTimer s .step) x.1 x.2
      | none =>
        rw [stepCheck_passes acked check]
        split <;> exact same
  · by_cases lowering : s.lift.state = .lowering
    · rw [liftCheck_lowering lowering]
      by_cases done : ∃ i, s.lift.finalIndex = some i ∧ allAcknowledged s.lift i = true
      · obtain ⟨i, final, acked⟩ := done
        rw [completionCheck_done final acked]
        exact List.prefix_append _ _
      · rwa [completionCheck_waits fun i final => by simpa using fun acked => done ⟨i, final, acked⟩]
    · rwa [liftCheck_still raising lowering]

/-- Settles O28: the report is recorded by `recordColumn`, and `liftCheck` does what its state calls for. -/
theorem columnReportsDriveTheLift : Obligations.ColumnReportsDriveTheLift := by
  intro s c height load ack st rest l u h recorded cancelled
  have state : l.state = s.lift.state := recorded ▸ recordColumn_state _ _ _ _ _ _
  obtain ⟨heights, loads, statuses, -⟩ := recordColumn_readings s.lift c height load st ack
  have acks := recordColumn_lastAck s.lift c height load st ack
  have others := fun (c' : Column) (other : c' ≠ c) => recordColumn_other s.lift c height load st ack other
  have e : exec (.columnReport c) s = .next (settle s (liftCheck ((s.setNotices rest).setLift
      (recordColumn s.lift c height load st ack)))) := event_notice h
  rw [← recorded] at heights loads statuses acks others e
  refine ⟨heights, loads, statuses, fun warm above below => acks.trans (if_pos ⟨above, below, warm⟩),
    fun old => acks.trans (if_neg fun new => by omega), others, _, e, execColumnReport_onlyChanges e,
    (liftCheck_handsOn ((s.setNotices rest).setLift l)).trans (settle_handsOn s _), fun notRaising notLowering => ?still, fun raising owing => ?owing,
    fun raising acked => ⟨fun reason p fails => ?fails, fun passes top => ?settles, fun passes below => ?goesOn⟩,
    fun lowering owing => ?waits, fun i lowering final acked => ?lowered⟩
  case still =>
    rw [liftCheck_still (by rwa [← state] at notRaising) (by rwa [← state] at notLowering)]
    exact ⟨rfl, rfl⟩
  case owing =>
    rw [liftCheck_raising (state.trans raising), stepCheck_owing owing]
    exact ⟨rfl, rfl⟩
  case fails =>
    rw [liftCheck_raising (state.trans raising), stepCheck_fails acked fails]
    have holds : liftHolds u (enterHolding (cancelTimer ((s.setNotices rest).setLift l) .step) reason p) rest reason p :=
      enterHolding_holds (by rw [cancelled]; rfl) (by rw [cancelled]; rfl) rfl reason p
    have stopped := holds.2.1.2 .step
    rw [cancelled] at stopped
    refine ⟨holds.settle s, stopped.trans (if_neg ?_)⟩
    rintro ⟨-, running⟩
    exact running rfl
  case settles =>
    rw [liftCheck_raising (state.trans raising), stepCheck_passes acked passes]
    have top : ((s.setNotices rest).setLift l).settings.raiseHeight ≤ ((s.setNotices rest).setLift l).lift.issued := top
    rw [if_pos top, cancelled]
    exact ⟨rfl, rfl⟩
  case goesOn =>
    rw [liftCheck_raising (state.trans raising), stepCheck_passes acked passes]
    have below : ¬ ((s.setNotices rest).setLift l).settings.raiseHeight ≤ ((s.setNotices rest).setLift l).lift.issued :=
      Nat.not_le_of_lt below
    rw [if_neg below]
    exact ⟨state.trans raising, rfl, rfl, rfl, rfl⟩
  case waits =>
    rw [liftCheck_lowering (state.trans lowering), completionCheck_waits owing]
    exact ⟨rfl, rfl⟩
  case lowered =>
    rw [liftCheck_lowering (state.trans lowering), completionCheck_done final acked]
    exact ⟨rfl, rfl, handsOn_settle rfl⟩

/-! ### Lost columns and the first cycle (R68, R82, R83) -/

/-- What the loss of a column leaves of a lift at work (R82). -/
theorem enterLiftFaulted_faults {s u : State} {before : List Notice} (timers : u.timers = s.timers)
    (notices : u.notices = before) (c : Column) :
    (enterLiftFaulted u c).lift = { holdColumns u.lift with state := .faulted, holdReason := none } ∧
    liftTimersStopped s (enterLiftFaulted u c) ∧
    (enterLiftFaulted u c).notices = before ++ [.posting .liftStopped .lift (.liftStopped .faulted none u.lift.direction
      u.lift.stepIndex (columns.map (columnDetail u.lift)) (.lost c)), .liftFaulted .A, .liftFaulted .B] := by
  subst notices
  have stopped := cancelLift_stopped u
  have kept := cancelLift_lift u
  have under_ := cancelLift_notices u
  unfold liftTimersStopped at stopped
  rw [timers] at stopped
  unfold liftTimersStopped enterLiftFaulted
  dsimp only
  generalize cancelLift u = t at stopped kept under_ ⊢
  refine ⟨?_, stopped, ?_⟩
  · rw [← kept]
    rfl
  · rw [← kept, ← under_]
    exact List.append_assoc _ _ _

theorem all_toList {α : Type} (p : PerColumn α) (f : α → Bool) : p.toList.all f = true ↔ ∀ c, f (p.get c) = true := by
  constructor
  · intro all c
    rw [List.all_eq_true] at all
    cases c <;> exact all _ (by simp [PerColumn.toList, PerColumn.get])
  · intro each
    have j1 := each .J1
    have j2 := each .J2
    have j3 := each .J3
    have j4 := each .J4
    simp only [PerColumn.get] at j1 j2 j3 j4
    simp [PerColumn.toList, j1, j2, j3, j4]

/-- A lost column, by the lift's state (R82). -/
theorem exec_columnLost {s v : State} {c : Column} {rest : List Notice}
    (h : waits s (fun n => n == .lost (.column c)) (.lost (.column c)) rest)
    (lost : v = (s.setNotices rest).setLift
      { s.lift with columns := s.lift.columns.set c { s.lift.columns.get c with condition := .lost } }) :
    ∃ w, exec (.columnLost c) s = .next (settle s w) ∧
      (s.lift.state = .lowered ∨ s.lift.state = .unknown → w = v) ∧
      (s.lift.state = .faulted → w = postLiftStopped v (.lost c)) ∧
      (s.lift.state ≠ .lowered → s.lift.state ≠ .unknown → s.lift.state ≠ .faulted → w = enterLiftFaulted v c) := by
  subst lost
  refine ⟨_, event_notice h, ?_, ?_, ?_⟩ <;> dsimp only
  · rintro (low | unknown)
    · simp [low]
    · simp [unknown]
  · intro faulted
    simp [faulted]
  · intro low unknown faulted
    split
    next state => exact absurd state low
    next state => exact absurd state unknown
    next state => exact absurd state faulted
    all_goals rfl

theorem exec_liftLoopUp {s : State} {outs : List (Role × CycleOutcome)} {rest : List Notice} {l : Lift}
    (h : waits s (isLoopUp .lift) (.loopUp .lift outs) rest)
    (filled : l = { s.lift with
      columns := ⟨loopUpColumn (outcomeOf outs (.column .J1)), loopUpColumn (outcomeOf outs (.column .J2)),
        loopUpColumn (outcomeOf outs (.column .J3)), loopUpColumn (outcomeOf outs (.column .J4))⟩
      orders := .all .hold, direction := .up, stepIndex := 0, finalIndex := none, loopUp := true }) :
    exec .liftLoopUp s = .next (settle s (if l.columns.toList.all (fun r => r.height == some 0) = true then
        (s.setNotices rest).setLift { l with state := .lowered, holdReason := none }
      else postLiftStopped ((s.setNotices rest).setLift { l with state := .holding, holdReason := some .recovered })
        (.failedFirstCycle (columns.filter (fun c => (l.columns.get c).height.isNone))))) := by
  subst filled
  exact event_notice h

/-- Settles O29: the loss is recorded and, by the lift's state, faults it; a regained column's report is recorded; the first
cycle fills the records afresh. -/
theorem columnLossAndLoopUpPlaceLift : Obligations.ColumnLossAndLoopUpPlaceLift := by
  refine ⟨fun s c rest l h lost => ?lost, fun s c height load ack st rest h => ?regained, fun s outs rest h => ?loopUp⟩
  case lost =>
    subst lost
    obtain ⟨w, e, atRest, faulted, working⟩ := exec_columnLost h rfl
    have kept : handsOn rest w := by
      by_cases low : s.lift.state = .lowered ∨ s.lift.state = .unknown
      · rw [atRest low]
        exact List.prefix_rfl
      · by_cases fault : s.lift.state = .faulted
        · rw [faulted fault]
          exact List.prefix_append _ _
        · obtain ⟨-, -, posted⟩ := enterLiftFaulted_faults (u := (s.setNotices rest).setLift
            { s.lift with columns := s.lift.columns.set c { s.lift.columns.get c with condition := .lost } }) rfl rfl c
          rw [working (fun h => low (Or.inl h)) (fun h => low (Or.inr h)) fault, handsOn, posted]
          exact List.prefix_append _ _
    refine ⟨_, e, kept.trans (settle_handsOn s w), execColumnLost_onlyChanges (c := c) e, fun low => ?_, fun fault => ?_,
      fun low unknown fault => ?_⟩
    · rw [atRest low]
      exact ⟨rfl, rfl⟩
    · rw [faulted fault]
      refine ⟨rfl, rfl, mem_settle_of_mem (List.mem_append_right _ (List.mem_singleton.mpr ?_))⟩
      rw [← fault]
      rfl
    · rw [working low unknown fault]
      obtain ⟨lift, stopped, posted⟩ := enterLiftFaulted_faults (s := s) (u := (s.setNotices rest).setLift
        { s.lift with columns := s.lift.columns.set c { s.lift.columns.get c with condition := .lost } }) rfl rfl c
      generalize enterLiftFaulted _ c = w at lift stopped posted ⊢
      obtain ⟨gate, channels⟩ := stopped
      exact ⟨lift, ⟨gate, channels⟩, handsOn_settle posted⟩
  case regained =>
    have state := recordColumn_state
      { s.lift with columns := s.lift.columns.set c { s.lift.columns.get c with condition := .active } } c height load st ack
    have e : exec (.columnRegained c) s = .next ((s.setNotices rest).setLift (recordColumn
        { s.lift with columns := s.lift.columns.set c { s.lift.columns.get c with condition := .active } }
        c height load st ack)) :=
      event_notice_quiet h rfl (by apply settle_still <;> intros <;> first | exact state | rfl)
    obtain ⟨-, -, -, condition⟩ := recordColumn_readings
      { s.lift with columns := s.lift.columns.set c { s.lift.columns.get c with condition := .active } } c height load st ack
    refine ⟨_, e, rfl, execColumnRegained_onlyChanges (c := c) e, rfl, state, condition.trans ?_⟩
    rw [PerColumn.get_set_same]
  case loopUp =>
    obtain ⟨l, filled⟩ : ∃ l, l = { s.lift with
      columns := ⟨loopUpColumn (outcomeOf outs (.column .J1)), loopUpColumn (outcomeOf outs (.column .J2)),
        loopUpColumn (outcomeOf outs (.column .J3)), loopUpColumn (outcomeOf outs (.column .J4))⟩
      orders := .all .hold, direction := .up, stepIndex := 0, finalIndex := none, loopUp := true } := ⟨_, rfl⟩
    have e := exec_liftLoopUp h filled
    have each (c : Column) : l.columns.get c = loopUpColumn (outcomeOf outs (.column c)) := by
      rw [filled]
      cases c <;> rfl
    have frame := execLiftLoopUp_onlyChanges e
    have zero := all_toList l.columns (fun r => r.height == some 0)
    by_cases down : l.columns.toList.all (fun r => r.height == some 0) = true
    · rw [if_pos down] at e frame
      refine ⟨_, e, handsOn_settle rfl, frame, ?_⟩
      change l.loopUp = _ ∧ l.orders = _ ∧ l.direction = _ ∧ l.stepIndex = _ ∧ l.finalIndex = _ ∧ l.view = _ ∧ _
      refine ⟨by rw [filled], by rw [filled], by rw [filled], by rw [filled], by rw [filled], by rw [filled], each,
        fun _ => ⟨rfl, rfl⟩, fun notDown => ?_⟩
      obtain ⟨c, above⟩ := notDown
      exact absurd (by simpa using zero.mp down c) above
    · rw [if_neg down] at e frame
      refine ⟨_, e, handsOn_settle_of (List.prefix_append _ _), frame, ?_⟩
      change l.loopUp = _ ∧ l.orders = _ ∧ l.direction = _ ∧ l.stepIndex = _ ∧ l.finalIndex = _ ∧ l.view = _ ∧ _
      have way : l.direction = .up ∧ l.stepIndex = 0 := by rw [filled]; exact ⟨rfl, rfl⟩
      refine ⟨by rw [filled], by rw [filled], by rw [filled], by rw [filled], by rw [filled], by rw [filled], each,
        fun allDown => absurd (zero.mpr fun c => beq_iff_eq.mpr (allDown c)) down, fun _ => ⟨rfl, rfl, ?_⟩⟩
      refine mem_settle_of_mem (List.mem_append_right _ (List.mem_singleton.mpr ?_))
      rw [← way.1, ← way.2]
      rfl

end Sys2Proof.Machine

/-! ### The axle clamps (section 4.9) -/

namespace Sys2Proof.Machine

theorem clamp_setClamp_same (s : State) (st : StationId) (x : Clamp) : (s.setClamp st x).clamp st = x :=
  PerStation.get_set_same s.clamps.recs st x

theorem clamp_setClamp_ne (s : State) {st other : StationId} (ne : other ≠ st) (x : Clamp) :
    (s.setClamp st x).clamp other = s.clamp other :=
  PerStation.get_set_ne s.clamps.recs ne x

theorem setClamp_setClamp (s : State) (st : StationId) (x y : Clamp) : (s.setClamp st x).setClamp st y = s.setClamp st y := by
  cases st <;> rfl

/-- One clamp alone may have changed among the clamps. -/
theorem setClamp_only (s : State) (st : StationId) (x : Clamp) : (s.setClamp st x).clamps =
    { s.clamps with recs := s.clamps.recs.set st ((s.setClamp st x).clamp st) } := by
  rw [clamp_setClamp_same]
  rfl

/-- A clamp's readings and condition are not what the Warning Outputs are shown of it. -/
theorem settle_setClamp {s : State} {st : StationId} {x : Clamp} (rest : List Notice)
    (state : x.state = (s.clamp st).state) :
    settle s ((s.setNotices rest).setClamp st x) = (s.setNotices rest).setClamp st x := by
  refine settle_still rfl (fun other => ?_) rfl rfl (fun _ => rfl) rfl rfl rfl rfl rfl
  by_cases same : other = st
  · subst same
    rw [clamp_setClamp_same, state]
  · rw [clamp_setClamp_ne _ same]
    rfl

/-! ### A clamp that faults (R89) -/

/-- What a fault leaves, from a state with the timers of `s` and the notices given. -/
theorem faultClamp_faults {s u : State} {before : List Notice} {st : StationId} {c : Clamp} (own : u.clamp st = c)
    (timers : u.timers = s.timers) (notices : u.notices = before) (cause : ClampCause) :
    clampFaults s (faultClamp u st cause) before st c cause := by
  unfold clampFaults faultClamp
  rw [own, ← timers, ← notices]
  exact ⟨clamp_setClamp_same _ st _, rfl, List.prefix_rfl⟩

theorem faultClamp_only {s : State} {st : StationId} (c : Clamp) (cause : ClampCause) :
    (faultClamp (s.setClamp st c) st cause).clamps = { s.clamps with
      recs := s.clamps.recs.set st ((faultClamp (s.setClamp st c) st cause).clamp st) } := by
  cases st <;> rfl

theorem clampFaults.send {s u : State} {before : List Notice} {st : StationId} {c : Clamp} {cause : ClampCause}
    (faults : clampFaults s u before st c cause) (ns : List Notice) : clampFaults s (send u ns) before st c cause := by
  obtain ⟨clamp, timers, handed⟩ := faults
  exact ⟨clamp, timers, handed.trans (send_handsOn u ns)⟩

theorem clampFaults.settle {s u : State} {before : List Notice} {st : StationId} {c : Clamp} {cause : ClampCause}
    (faults : clampFaults s u before st c cause) (o : State) : clampFaults s (settle o u) before st c cause := by
  obtain ⟨clamp, timers, handed⟩ := faults
  exact ⟨clamp, timers, handed.trans (settle_handsOn o u)⟩

/-! ### The requests (R84, R85) -/

/-- Settles O30: both requests put the clamp in its travelling state and start its channel. -/
theorem clampRequestsStartTravel : Obligations.ClampRequestsStartTravel := by
  refine ⟨fun s f st b c x o k h station which => ?taken, fun s f st b c r k h station which => ?refused⟩
  case taken =>
    rcases which with ⟨rfl, rfl, rfl, rfl, met⟩ | ⟨rfl, rfl, rfl, rfl, met⟩
    · have e : exec .clampClose s = .next (settle s (answer (startTimer (moveClamp s st .closing) (.clamp st)) f .started)) :=
        event_serve_changes h (by decide) station (by rw [met])
      exact ⟨_, e, settle_answered f _ rfl, rfl, rfl, handsOn_settle rfl, execClampClose_onlyChanges e⟩
    · have e : exec .clampOpen s = .next (settle s (answer (startTimer (moveClamp s st .opening) (.clamp st)) f .started)) :=
        event_serve_changes h (by decide) station (by rw [met])
      exact ⟨_, e, settle_answered f _ rfl, rfl, rfl, handsOn_settle rfl, execClampOpen_onlyChanges e⟩
  case refused =>
    rcases which with ⟨rfl, rfl, failing⟩ | ⟨rfl, rfl, failing⟩
    · exact event_serve_unchanged h (by decide) station (by rw [failing]; rfl)
    · exact event_serve_unchanged h (by decide) station (by rw [failing]; rfl)

/-! ### Reports (R86, R88) -/

theorem reportClosed_iff {jaw : Jaw} {force holding : Nat} :
    reportClosed jaw force holding = true ↔ jaw = .atClosed ∧ holding ≤ force := by
  simp [reportClosed]

/-- What a report makes of a clamp's state: its record alone, or a completion, or a fault. -/
theorem clampReported_eq {s : State} {st : StationId} {jaw : Jaw} {force holding : Nat} {c : Clamp}
    (recorded : c = recordClamp (s.clamp st) jaw force holding) : clampReported s st jaw force holding =
      if c.state = .closing ∧ reportClosed jaw force holding = true then
        cancelTimer (moveClamp (s.setClamp st c) st .closed) (.clamp st)
      else if c.state = .opening ∧ jaw = .atOpen then
        cancelTimer (moveClamp (s.setClamp st c) st .opened) (.clamp st)
      else if c.state = .closed ∧ reportClosed jaw force holding = false then
        send (faultClamp (s.setClamp st c) st .force) [.clampFailed st]
      else s.setClamp st c := by
  subst recorded
  unfold clampReported
  dsimp only
  rw [clamp_setClamp_same]
  cases state : (recordClamp (s.clamp st) jaw force holding).state <;>
    cases reportClosed jaw force holding <;> simp

theorem clampReported_handsOn (s : State) (st : StationId) (jaw : Jaw) (force holding : Nat) :
    handsOn s.notices (clampReported s st jaw force holding) := by
  rw [clampReported_eq rfl]
  split
  · exact List.prefix_rfl
  · split
    · exact List.prefix_rfl
    · split
      · exact (List.prefix_append _ _).trans (List.prefix_append _ _)
      · exact List.prefix_rfl

theorem clampReported_only (s : State) (st : StationId) (jaw : Jaw) (force holding : Nat) :
    (clampReported s st jaw force holding).clamps = { s.clamps with
      recs := s.clamps.recs.set st ((clampReported s st jaw force holding).clamp st) } := by
  rw [clampReported_eq rfl]
  generalize recordClamp (s.clamp st) jaw force holding = c
  split
  · cases st <;> rfl
  · split
    · cases st <;> rfl
    · split <;> cases st <;> rfl

/-- Settles O31: the report is recorded, and completes a travel or faults a closed clamp by its jaws and force. -/
theorem clampReportsCompleteTravel : Obligations.ClampReportsCompleteTravel := by
  intro s st jaw force holding rest c closed h recorded meaning
  subst meaning
  have e : exec (.clampReport st) s = .next (settle s (clampReported (s.setNotices rest) st jaw force holding)) :=
    event_notice h
  have made := clampReported_eq (s := s.setNotices rest) (c := c) recorded
  have judged := reportClosed_iff (jaw := jaw) (force := force) (holding := holding)
  refine ⟨_, e, (clampReported_handsOn (s.setNotices rest) st jaw force holding).trans (settle_handsOn s _),
    execClampReport_onlyChanges (st := st) e, clampReported_only (s.setNotices rest) st jaw force holding,
    fun closing shut => ?closes, fun opening wide => ?opens, fun shut loose => ?faults, fun still => ?still⟩
  case closes =>
    rw [made, if_pos ⟨closing, judged.mpr shut⟩, moveClamp, clamp_setClamp_same, setClamp_setClamp]
    exact ⟨clamp_setClamp_same _ st _, rfl⟩
  case opens =>
    rw [made, if_neg (by simp [opening]), if_pos ⟨opening, wide⟩, moveClamp, clamp_setClamp_same, setClamp_setClamp]
    exact ⟨clamp_setClamp_same _ st _, rfl⟩
  case faults =>
    have loose : reportClosed jaw force holding = false := Bool.eq_false_iff.mpr fun held => loose (judged.mp held)
    rw [made, if_neg (by simp [shut]), if_neg (by simp [shut]), if_pos ⟨shut, loose⟩]
    exact ⟨((faultClamp_faults (clamp_setClamp_same _ st c) rfl rfl .force).send _).settle s,
      mem_settle_of_mem (List.mem_append_right _ (List.mem_singleton.mpr rfl))⟩
  case still =>
    have kept : clampReported (s.setNotices rest) st jaw force holding = (s.setNotices rest).setClamp st c := by
      rw [made]
      rcases still with ⟨state, loose⟩ | ⟨state, narrow⟩ | ⟨state, held⟩ | state | state
      · simp [state, mt judged.mp loose]
      · simp [state, narrow]
      · simp [state, judged.mpr held]
      · simp [state]
      · simp [state]
    rw [kept, settle_setClamp rest (by rw [recorded])]
    exact ⟨clamp_setClamp_same _ st c, rfl, rfl⟩

/-! ### Faults and the first cycle (R86, R88 to R91) -/

theorem clampTravels_iff {c : Clamp} : clampTravels c = true ↔ c.state = .closing ∨ c.state = .opening := by
  simp [clampTravels]

/-- What a clamp's first cycle makes of it (R91). -/
structure ClampDerived (outs : List (Role × CycleOutcome)) (st : StationId) (x : Clamp) : Prop where
  active : x.condition = .active
  reported : ∀ jaw force holding, outcomeOf outs (.clamp st) = some (.good (.clamp jaw force holding)) →
    x.jaw = some jaw ∧ x.force = some force ∧ x.holding = some holding ∧
    (jaw = .atClosed → holding ≤ force → x.state = .closed ∧ x.order = .close) ∧
    (jaw = .atOpen → x.state = .opened ∧ x.order = .opened) ∧
    (jaw = .between ∨ (jaw = .atClosed ∧ force < holding) →
      x.state = .faulted ∧ x.cause = some .recovered ∧ x.order = .hold)
  failed : ∀ e, outcomeOf outs (.clamp st) = some (.failed e) →
    x.state = .faulted ∧ x.cause = some .recovered ∧ x.order = .hold

theorem faultClamp_clamp (s : State) (st : StationId) (cause : ClampCause) : (faultClamp s st cause).clamp st =
    { s.clamp st with state := .faulted, cause := some cause, order := .hold } :=
  clamp_setClamp_same _ st _

theorem faultClamp_timers (s : State) (st : StationId) (cause : ClampCause) : (faultClamp s st cause).timers =
    s.timers.set (.clamp st) (cancelledRec (s.timers.get (.clamp st))) := rfl

theorem moveClamp_clamp (s : State) (st : StationId) (x : ClampState) : (moveClamp s st x).clamp st =
    { s.clamp st with state := x, cause := none, order := clampOrder x } :=
  clamp_setClamp_same _ st _

theorem deriveClamp_derived (outs : List (Role × CycleOutcome)) (s : State) (st : StationId) :
    ClampDerived outs st ((deriveClamp outs s st).clamp st) := by
  have lost (u : State) : u = faultClamp (s.setClamp st { s.clamp st with condition := .active }) st .recovered →
      (u.clamp st).condition = .active ∧ (u.clamp st).state = .faulted ∧ (u.clamp st).cause = some .recovered ∧
      (u.clamp st).order = .hold := by
    rintro rfl
    rw [faultClamp_clamp, clamp_setClamp_same]
    exact ⟨rfl, rfl, rfl, rfl⟩
  unfold deriveClamp
  dsimp only
  split
  next jaw force holding good =>
    have own {P : Prop} (e : LoopError) : outcomeOf outs (.clamp st) = some (.failed e) → P := fun bad => by
      rw [good] at bad
      cases bad
    have same {j : Jaw} {x y : Nat} (h : outcomeOf outs (.clamp st) = some (.good (.clamp j x y))) :
        j = jaw ∧ x = force ∧ y = holding := by
      rw [good] at h
      cases h
      exact ⟨rfl, rfl, rfl⟩
    split
    next held =>
      obtain ⟨shut, strong⟩ := reportClosed_iff.mp held
      rw [moveClamp_clamp, clamp_setClamp_same]
      refine ⟨rfl, fun j x y h => ?_, fun e => own e⟩
      obtain ⟨rfl, rfl, rfl⟩ := same h
      refine ⟨rfl, rfl, rfl, fun _ _ => ⟨rfl, rfl⟩, fun wide => ?_, fun loose => ?_⟩
      · cases shut.symm.trans wide
      · rcases loose with between | ⟨-, weak⟩
        · cases shut.symm.trans between
        · omega
    next loose =>
      split
      next wide =>
        rw [moveClamp_clamp, clamp_setClamp_same]
        refine ⟨rfl, fun j x y h => ?_, fun e => own e⟩
        obtain ⟨rfl, rfl, rfl⟩ := same h
        refine ⟨rfl, rfl, rfl, fun shut => ?_, fun _ => ⟨rfl, rfl⟩, fun other => ?_⟩
        · cases wide.symm.trans shut
        · rcases other with between | ⟨shut, -⟩
          · cases wide.symm.trans between
          · cases wide.symm.trans shut
      next narrow =>
        rw [faultClamp_clamp, clamp_setClamp_same]
        refine ⟨rfl, fun j x y h => ?_, fun e => own e⟩
        obtain ⟨rfl, rfl, rfl⟩ := same h
        exact ⟨rfl, rfl, rfl, fun shut strong => absurd (reportClosed_iff.mpr ⟨shut, strong⟩) loose,
          fun wide => absurd wide narrow, fun _ => ⟨rfl, rfl, rfl⟩⟩
  all_goals
    next outcome =>
      obtain ⟨active, faulted⟩ := lost _ rfl
      refine ⟨active, fun j x y h => ?_, fun _ _ => faulted⟩
      rw [outcome] at h
      cases h

theorem deriveClamp_other (outs : List (Role × CycleOutcome)) (s : State) {st other : StationId} (ne : other ≠ st) :
    (deriveClamp outs s st).clamp other = s.clamp other := by
  have fault (c : Clamp) : (faultClamp (s.setClamp st c) st .recovered).clamp other = s.clamp other :=
    (clamp_setClamp_ne _ ne _).trans (clamp_setClamp_ne s ne c)
  unfold deriveClamp
  dsimp only
  split
  · split
    · exact (clamp_setClamp_ne _ ne _).trans (clamp_setClamp_ne s ne _)
    · split
      · exact (clamp_setClamp_ne _ ne _).trans (clamp_setClamp_ne s ne _)
      · exact fault _
  all_goals exact fault _

/-- The first cycle's derivation leaves what Clamp Control sees of the pit, and hands on a fault's posting alone. -/
theorem deriveClamp_keeps (outs : List (Role × CycleOutcome)) (s : State) (st : StationId) :
    (deriveClamp outs s st).clamps.loopUp = s.clamps.loopUp ∧ (deriveClamp outs s st).clamps.view = s.clamps.view ∧
    handsOn s.notices (deriveClamp outs s st) := by
  have fault (c : Clamp) : (faultClamp (s.setClamp st c) st .recovered).clamps.loopUp = s.clamps.loopUp ∧
      (faultClamp (s.setClamp st c) st .recovered).clamps.view = s.clamps.view ∧
      handsOn s.notices (faultClamp (s.setClamp st c) st .recovered) :=
    ⟨rfl, rfl, List.prefix_append _ _⟩
  unfold deriveClamp
  dsimp only
  split
  · split
    · exact ⟨rfl, rfl, List.prefix_rfl⟩
    · split
      · exact ⟨rfl, rfl, List.prefix_rfl⟩
      · exact fault _
  all_goals exact fault _

/-- What the break notice makes of one clamp (R90). -/
def breakClamp (s : State) (st : StationId) : State :=
  if clampTravels (s.clamp st) = true then faultClamp s st .stopped else s

theorem breakClamp_other (s : State) {st other : StationId} (ne : other ≠ st) :
    (breakClamp s st).clamp other = s.clamp other ∧
    (breakClamp s st).timers.get (.clamp other) = s.timers.get (.clamp other) := by
  unfold breakClamp
  split
  · refine ⟨clamp_setClamp_ne _ ne _, ?_⟩
    rw [faultClamp_timers]
    refine TimerBank.get_set_other _ _ _ _ fun same => ne ?_
    cases same
    rfl
  · exact ⟨rfl, rfl⟩

theorem breakClamp_keeps (s : State) (st : StationId) : (breakClamp s st).clamps.view = s.clamps.view ∧
    (breakClamp s st).clamps.loopUp = s.clamps.loopUp ∧ handsOn s.notices (breakClamp s st) := by
  unfold breakClamp
  split
  · exact ⟨rfl, rfl, List.prefix_append _ _⟩
  · exact ⟨rfl, rfl, List.prefix_rfl⟩

/-- What the break notice leaves of a clamp whose record and timer stand as given. -/
structure ClampBroken (u : State) (st : StationId) (c : Clamp) (timer : TimerRec) : Prop where
  travelling : c.state = .closing ∨ c.state = .opening →
    u.clamp st = { c with state := .faulted, cause := some .stopped, order := .hold } ∧
    u.timers.get (.clamp st) = cancelledRec timer ∧
    .posting .clampFault (.station st) (.clampFault st .stopped c.state c.jaw c.force c.holding) ∈ u.notices
  atRest : ¬ (c.state = .closing ∨ c.state = .opening) → u.clamp st = c ∧ u.timers.get (.clamp st) = timer

theorem breakClamp_own (s : State) (st : StationId) :
    ClampBroken (breakClamp s st) st (s.clamp st) (s.timers.get (.clamp st)) := by
  refine ⟨fun travels => ?_, fun still => ?_⟩
  · rw [breakClamp, if_pos (clampTravels_iff.mpr travels)]
    exact ⟨faultClamp_clamp s st _, by rw [faultClamp_timers, TimerBank.get_set_same], List.mem_append_right _ (List.mem_singleton.mpr rfl)⟩
  · rw [breakClamp, if_neg (mt clampTravels_iff.mp still)]
    exact ⟨rfl, rfl⟩

/-- What the loss of its node makes of a clamp whose record says so (R90). -/
def lostClamp (s : State) (st : StationId) : State :=
  match (s.clamp st).state with
  | .closing => faultClamp s st .lost
  | .opening => faultClamp s st .lost
  | .closed => send (faultClamp s st .lost) [.clampFailed st]
  | .opened => s
  | .faulted => s

theorem lostClamp_still {s : State} {st : StationId} (still : (s.clamp st).state = .opened ∨ (s.clamp st).state = .faulted) :
    lostClamp s st = s := by
  unfold lostClamp
  rcases still with state | state <;> rw [state]

theorem lostClamp_closed {s : State} {st : StationId} (shut : (s.clamp st).state = .closed) :
    lostClamp s st = send (faultClamp s st .lost) [.clampFailed st] := by
  unfold lostClamp
  rw [shut]

theorem lostClamp_travelling {s : State} {st : StationId}
    (travels : (s.clamp st).state = .closing ∨ (s.clamp st).state = .opening) : lostClamp s st = faultClamp s st .lost := by
  unfold lostClamp
  rcases travels with state | state <;> rw [state]

theorem lostClamp_only {s : State} {st : StationId} (c : Clamp) : (lostClamp (s.setClamp st c) st).clamps =
    { s.clamps with recs := s.clamps.recs.set st ((lostClamp (s.setClamp st c) st).clamp st) } := by
  unfold lostClamp
  split
  · exact faultClamp_only c .lost
  · exact faultClamp_only c .lost
  · exact faultClamp_only c .lost
  · exact setClamp_only s st c
  · exact setClamp_only s st c

/-- Settles O32: each cause ends in `faultClamp` at a clamp that it concerns, and the first cycle in `deriveClamp`. -/
theorem clampFaultsAndRecovery : Obligations.ClampFaultsAndRecovery := by
  refine ⟨fun s st rest h => ?timeout, fun s rest h => ?break_, fun s st rest c h lost => ?lost,
    fun s st jaw force holding rest h => ?regained, fun s outs rest h => ?loopUp⟩
  case timeout =>
    by_cases travels : (s.clamp st).state = .closing ∨ (s.clamp st).state = .opening
    · have e : exec (.clampTimerExpiry st) s = .next (settle s (faultClamp (s.setNotices rest) st .timeout)) :=
        event_expiry_acts (ch := .clamp st) h (if_pos (clampTravels_iff.mpr travels))
      refine ⟨_, e, execClampTimerExpiry_onlyChanges (st := st) e, ?_⟩
      rw [if_pos travels]
      exact (faultClamp_faults rfl rfl rfl .timeout).settle s
    · have e : exec (.clampTimerExpiry st) s = .next (s.setNotices rest) :=
        event_expiry_quiet (ch := .clamp st) h (if_neg (mt clampTravels_iff.mp travels)) (settle_setNotices s rest)
      refine ⟨_, e, execClampTimerExpiry_onlyChanges (st := st) e, ?_⟩
      rw [if_neg travels]
      exact ⟨rfl, rfl, rfl⟩
  case break_ =>
    obtain ⟨v, hv⟩ : ∃ v, v = (s.setNotices rest).setClamps
      { s.clamps with view := { s.clamps.view with stop := s.zone.stop } } := ⟨_, rfl⟩
    have e : exec .clampBreakNotice s = .next (settle s (breakClamp (breakClamp v .A) .B)) := by
      rw [hv]
      exact event_notice h
    obtain ⟨viewA, upA, handedA⟩ := breakClamp_keeps v .A
    obtain ⟨viewB, upB, handedB⟩ := breakClamp_keeps (breakClamp v .A) .B
    have notices : v.notices = rest := by rw [hv]; rfl
    refine ⟨_, e, ?_, execClampBreakNotice_onlyChanges e, (viewB.trans viewA).trans (by rw [hv]; rfl),
      (upB.trans upA).trans (by rw [hv]; rfl), ?_⟩
    · rw [← notices]
      exact handsOn_settle_of (handedA.trans handedB)
    · have each (st : StationId) : ClampBroken (breakClamp (breakClamp v .A) .B) st (v.clamp st)
          (v.timers.get (.clamp st)) := by
        cases st with
        | A =>
          obtain ⟨travelling, atRest⟩ := breakClamp_own v .A
          obtain ⟨clamp, timer⟩ := breakClamp_other (breakClamp v .A) (st := .B) (other := .A) (by decide)
          refine ⟨fun travels => ?_, fun still => ?_⟩
          · rw [clamp, timer]
            obtain ⟨faulted, cancelled, posted⟩ := travelling travels
            exact ⟨faulted, cancelled, handedB.subset posted⟩
          · rw [clamp, timer]
            exact atRest still
        | B =>
          obtain ⟨clamp, timer⟩ := breakClamp_other v (st := .A) (other := .B) (by decide)
          rw [← clamp, ← timer]
          exact breakClamp_own (breakClamp v .A) .B
      intro st
      obtain ⟨travelling, atRest⟩ := each st
      have clamp : v.clamp st = s.clamp st := by rw [hv]; rfl
      have timers : v.timers = s.timers := by rw [hv]; rfl
      rw [clamp, timers] at travelling atRest
      split
      next travels =>
        obtain ⟨faulted, cancelled, posted⟩ := travelling travels
        exact ⟨faulted, cancelled, mem_settle_of_mem posted⟩
      next still => exact atRest still
  case lost =>
    obtain ⟨v, hv⟩ : ∃ v, v = (s.setNotices rest).setClamp st c := ⟨_, rfl⟩
    have own : v.clamp st = c := by rw [hv]; exact clamp_setClamp_same _ st c
    have faults := faultClamp_faults (s := s) (u := v) (before := rest) own (by rw [hv]; rfl) (by rw [hv]; rfl) .lost
    have e : exec (.clampLost st) s = .next (settle s (lostClamp v st)) := by
      rw [hv, lost]
      exact event_notice h
    have frame := execClampLost_onlyChanges (st := st) e
    have only : (lostClamp v st).clamps = { s.clamps with recs := s.clamps.recs.set st ((lostClamp v st).clamp st) } := by
      rw [hv]
      exact lostClamp_only (s := s.setNotices rest) c
    refine ⟨_, e, frame, only, fun still => ?_, fun other => ?_, fun shut => ?_⟩
    · rw [lostClamp_still (by rwa [own]), hv, settle_setClamp rest (by rw [lost])]
      exact ⟨clamp_setClamp_same _ st c, rfl, rfl⟩
    · rcases other with closing | opening | shut
      · rw [lostClamp_travelling (by rw [own]; exact Or.inl closing)]
        exact faults.settle s
      · rw [lostClamp_travelling (by rw [own]; exact Or.inr opening)]
        exact faults.settle s
      · rw [lostClamp_closed (by rwa [own])]
        exact (faults.send _).settle s
    · rw [lostClamp_closed (by rwa [own])]
      exact mem_settle_of_mem (List.mem_append_right _ (List.mem_singleton.mpr rfl))
  case regained =>
    have e : exec (.clampRegained st) s = .next ((s.setNotices rest).setClamp st { s.clamp st with
        condition := .active, jaw := some jaw, force := some force, holding := some holding }) :=
      event_notice_quiet h rfl (settle_setClamp rest rfl)
    exact ⟨_, e, rfl, execClampRegained_onlyChanges (st := st) e, setClamp_only _ st _, clamp_setClamp_same _ st _⟩
  case loopUp =>
    obtain ⟨v, hv⟩ : ∃ v, v = (s.setNotices rest).setClamps { s.clamps with loopUp := true } := ⟨_, rfl⟩
    have e : exec .clampLoopUp s = .next (settle s (deriveClamp outs (deriveClamp outs v .A) .B)) := by
      rw [hv]
      exact event_notice h
    obtain ⟨upA, viewA, handedA⟩ := deriveClamp_keeps outs v .A
    obtain ⟨upB, viewB, handedB⟩ := deriveClamp_keeps outs (deriveClamp outs v .A) .B
    have notices : v.notices = rest := by rw [hv]; rfl
    refine ⟨_, e, ?_, execClampLoopUp_onlyChanges e, (upB.trans upA).trans (by rw [hv]; rfl),
      (viewB.trans viewA).trans (by rw [hv]; rfl), fun st => ?_⟩
    · rw [← notices]
      exact handsOn_settle_of (handedA.trans handedB)
    · have derived : ClampDerived outs st ((deriveClamp outs (deriveClamp outs v .A) .B).clamp st) := by
        cases st with
        | A =>
          rw [deriveClamp_other outs _ (st := .B) (other := .A) (by decide)]
          exact deriveClamp_derived outs v .A
        | B => exact deriveClamp_derived outs _ .B
      obtain ⟨active, reported, failed⟩ := derived
      exact ⟨active, reported, failed⟩

end Sys2Proof.Machine

/-! ### The wheel heads: tasks, faults, halts and withdrawals (section 5.6) -/

namespace Sys2Proof.Machine

theorem head_setHead_ne (s : State) {h other : HeadId} (ne : other ≠ h) (x : Head) :
    (s.setHead h x).head other = s.head other :=
  headGet_headSet_ne s.heads.recs ne x

theorem headSet_self {α : Type} (p : PerHead α) (h : HeadId) : headSet p h (headGet p h) = p := by
  obtain ⟨st, d⟩ := h
  cases st <;> cases d <;> rfl

theorem headSet_headSet {α : Type} (p : PerHead α) (h : HeadId) (x y : α) :
    headSet (headSet p h x) h y = headSet p h y := by
  obtain ⟨st, d⟩ := h
  cases st <;> cases d <;> rfl

theorem head_channel_ne {h other : HeadId} (ne : other ≠ h) : Channel.head other ≠ .head h := by
  intro same
  cases same
  exact ne rfl

/-! ### One head alone -/

section
variable {s t u : State} {h : HeadId}

theorem onlyHead_refl (s : State) (h : HeadId) : onlyHead s s h := by
  unfold onlyHead State.head
  rw [headSet_self]

theorem onlyHead.of_heads (only : onlyHead s t h) (same : u.heads = t.heads) : onlyHead s u h := by
  unfold onlyHead State.head at only ⊢
  rw [same]
  exact only

theorem onlyHead.setHead (only : onlyHead s t h) (x : Head) : onlyHead s (t.setHead h x) h := by
  unfold onlyHead at only ⊢
  rw [head_setHead_same]
  unfold State.setHead
  rw [State.setHeads_heads, only, headSet_headSet]

/-- A change of none of the blocks that the Warning Outputs are shown hands them nothing. -/
theorem settle_of_onlyChanges {ps : List Part} (frame : onlyChanges ps s t)
    (apart : ∀ p ∈ [Part.attention, .settings, .loop, .zone, .lift, .clamps, .stations, .history], p ∉ ps) :
    settle s t = t := by
  obtain ⟨-, -, -, same⟩ := frame
  have attention := same .attention (apart _ (by simp))
  have settings := same .settings (apart _ (by simp))
  have loop := same .loop (apart _ (by simp))
  have zone := same .zone (apart _ (by simp))
  have lift := same .lift (apart _ (by simp))
  have clamps := same .clamps (apart _ (by simp))
  have stations := same .stations (apart _ (by simp))
  have history := same .history (apart _ (by simp))
  simp only [agree] at attention settings loop zone lift clamps stations history
  refine settle_quiet s t lift ?_ ?_ ?_ stations zone attention history ?_
  · rw [clamps]
  · rw [loop]
  · rw [loop]
  · rw [settings]

/-- A notice that concerns the heads and their channels alone. -/
theorem event_notice_heads {p : Notice → Bool} {act : Notice → State → State} {n : Notice} {rest : List Notice}
    (w : waits s p n rest) (made : act n (s.setNotices rest) = u) (frame : onlyChanges [.heads, .timers] s u) :
    event s (fun s => onNotice s p act) = .next u :=
  event_notice_quiet w made (settle_of_onlyChanges frame (by simp))

end

/-! ### Tasks (R103) -/

/-- What the taking of a task keeps. -/
theorem takeTask_keeps (s : State) (h : HeadId) (k : HeadTask) :
    (takeTask s h k).notices = s.notices ∧ onlyHead s (takeTask s h k) h := by
  have same : s.notices = s.notices ∧ onlyHead s s h := ⟨rfl, onlyHead_refl s h⟩
  have set (x : Head) : (s.setHead h x).notices = s.notices ∧ onlyHead s (s.setHead h x) h :=
    ⟨rfl, (onlyHead_refl s h).setHead x⟩
  have start : (startTask s h k).notices = s.notices ∧ onlyHead s (startTask s h k) h :=
    ⟨rfl, (set _).2.of_heads rfl⟩
  unfold takeTask
  split
  · unfold takeTaskParked
    split
    · exact same
    · split
      · exact start
      · exact set _
  · exact set _
  · split
    · exact start
    · exact set _
  all_goals exact same

/-- What a head that takes a task makes of it, by its state, the zone and the stop chain (R103). -/
structure TaskTaken (s t : State) (h : HeadId) (k : HeadTask) : Prop where
  started : s.zone.stop = .healthy → s.zone.zone = .clear → (s.head h).state = .parked ∨ (s.head h).state = .paused →
    t.head h = { s.head h with state := taskState k, task := some k, order := taskOrder k } ∧
    t.timers = s.timers.set (.head h)
      (startedRec s.timers.gateOpen (.head h) (s.timers.get (.head h)) (s.settings.headTimeout * 100))
  kept : s.zone.stop = .healthy → s.zone.zone = .breached → (s.head h).state = .parked →
    t.head h = { s.head h with state := .paused, task := some k, order := .halt } ∧ t.timers = s.timers
  dropped : s.zone.stop = .broken → (s.head h).state = .parked → t.head h = s.head h ∧ t.timers = s.timers
  pending : (s.head h).state = .returning → t.head h = { s.head h with pendingTask := some k } ∧ t.timers = s.timers
  halted : (s.head h).state = .paused → s.zone.stop = .broken ∨ s.zone.zone = .breached →
    t.head h = { s.head h with task := some k } ∧ t.timers = s.timers
  ignored : (s.head h).state = .faulted ∨ headWorking (s.head h).state = true → t.head h = s.head h ∧ t.timers = s.timers

theorem startTask_taken (s : State) (h : HeadId) (k : HeadTask) :
    (startTask s h k).head h = { s.head h with state := taskState k, task := some k, order := taskOrder k } ∧
    (startTask s h k).timers = s.timers.set (.head h)
      (startedRec s.timers.gateOpen (.head h) (s.timers.get (.head h)) (s.settings.headTimeout * 100)) :=
  ⟨head_setHead_same s h _, rfl⟩

theorem takeTask_taken (s : State) (h : HeadId) (k : HeadTask) : TaskTaken s (takeTask s h k) h k := by
  constructor
  case started =>
    rintro healthy clear (parked | paused)
    · rw [takeTask, parked]
      simp only [takeTaskParked, healthy, clear, reduceCtorEq, if_false, if_true]
      exact startTask_taken s h k
    · rw [takeTask, paused]
      simp only [healthy, clear, and_self, if_true]
      exact startTask_taken s h k
  case kept =>
    intro healthy breached parked
    rw [takeTask, parked]
    simp only [takeTaskParked, healthy, breached, reduceCtorEq, if_false]
    exact ⟨head_setHead_same s h _, rfl⟩
  case dropped =>
    intro broken parked
    rw [takeTask, parked]
    simp only [takeTaskParked, broken, if_true, and_self]
  case pending =>
    intro returning
    rw [takeTask, returning]
    exact ⟨head_setHead_same s h _, rfl⟩
  case halted =>
    intro paused unsafe_
    have still : ¬ (s.zone.stop = .healthy ∧ s.zone.zone = .clear) := by
      rintro ⟨healthy, clear⟩
      rcases unsafe_ with broken | breached
      · cases healthy.symm.trans broken
      · cases clear.symm.trans breached
    rw [takeTask, paused]
    dsimp only
    rw [if_neg still]
    exact ⟨head_setHead_same s h _, rfl⟩
  case ignored =>
    rintro (faulted | working)
    · rw [takeTask, faulted]
      exact ⟨rfl, rfl⟩
    · unfold takeTask
      split <;> first | exact ⟨rfl, rfl⟩ | simp_all [headWorking]

/-- Settles O33: the notice hands the task to `takeTask`, which goes by the head's state. -/
theorem tasksTakenByHeadState : Obligations.TasksTakenByHeadState := by
  intro s h k rest w
  have frame : onlyChanges [.heads, .timers] s (takeTask (s.setNotices rest) h k) :=
    ((onlyChanges_refl _ s).setNotices rest).takeTask (by simp) (by simp) h k
  have e : exec (.taskHanded h) s = .next (takeTask (s.setNotices rest) h k) := event_notice_heads w rfl frame
  obtain ⟨notices, only⟩ := takeTask_keeps (s.setNotices rest) h k
  obtain ⟨started, kept, dropped, pending, halted, ignored⟩ := takeTask_taken (s.setNotices rest) h k
  exact ⟨_, e, notices, only, frame, started, kept, dropped, pending, halted, ignored⟩

/-! ### Faults (R104, R107) -/

/-- What a fault leaves, from a state with the timers, the stations and the heads' record given. -/
theorem faultHead_faults {s u : State} {before : List Notice} {h : HeadId} {c : Head} (own : u.head h = c)
    (timers : u.timers = s.timers) (stations : u.stations = s.stations) (notices : u.notices = before)
    (cause : HeadCause) : headFaults s (faultHead u h cause) before h c cause := by
  subst notices
  have inHand : operationInHand s h.station = operationInHand u h.station := by
    unfold operationInHand State.station
    rw [stations]
  unfold headFaults faultHead
  rw [own, ← timers, inHand]
  dsimp only
  have still : operationInHand ((cancelHead u h).setHead h { c with
      state := .faulted, cause := if c.state = .faulted then c.cause else some cause
      order := .halt, task := none, pendingTask := none }) h.station = operationInHand u h.station := rfl
  cases operationInHand u h.station with
  | true =>
    rw [if_pos rfl, if_pos rfl]
    exact ⟨head_setHead_same _ h _, rfl, rfl⟩
  | false =>
    rw [if_neg (by decide : ¬ (false = true)), if_neg (by decide : ¬ (false = true))]
    exact ⟨head_setHead_same _ h _, rfl, rfl⟩

theorem faultHead_only {s u : State} {h : HeadId} (only : onlyHead s u h) (cause : HeadCause) :
    onlyHead s (faultHead u h cause) h := by
  unfold faultHead
  dsimp only
  split
  · exact ((only.of_heads (u := cancelHead u h) rfl).setHead _).of_heads rfl
  · exact (only.of_heads (u := cancelHead u h) rfl).setHead _

/-- Settles O36: a timeout and a loss end in `faultHead` but for the heads that they leave. -/
theorem headsFaultByCause : Obligations.HeadsFaultByCause := by
  refine ⟨fun s h rest w => ?timeout, fun s h rest c w lost => ?lost, fun s h r rest w => ?regained⟩
  case timeout =>
    have base := (onlyChanges_refl [.heads, .timers] s).setNotices rest
    by_cases running : headWorking (s.head h).state = true ∨ (s.head h).state = .returning
    · have frame := base.faultHead (by simp) (by simp) h .timeout
      have e : exec (.headTimerExpiry h) s = .next (faultHead (s.setNotices rest) h .timeout) :=
        event_expiry_quiet (ch := .head h) w (if_pos running) (settle_of_onlyChanges frame (by simp))
      refine ⟨_, e, faultHead_only (s := s) (u := s.setNotices rest) (onlyHead_refl s h) .timeout, frame, ?_⟩
      rw [if_pos running]
      exact faultHead_faults rfl rfl rfl rfl .timeout
    · have e : exec (.headTimerExpiry h) s = .next (s.setNotices rest) :=
        event_expiry_quiet (ch := .head h) w (if_neg running) (settle_setNotices s rest)
      refine ⟨_, e, onlyHead_refl s h, base, ?_⟩
      rw [if_neg running]
      exact ⟨rfl, rfl, rfl⟩
  case lost =>
    obtain ⟨v, hv⟩ : ∃ v, v = (s.setNotices rest).setHead h c := ⟨_, rfl⟩
    have own : v.head h = c := by rw [hv]; exact head_setHead_same _ h c
    have base : onlyChanges [.heads, .timers] s v := by
      rw [hv]
      exact ((onlyChanges_refl _ s).setNotices rest).setHead (by simp) h c
    have only : onlyHead s v h := by
      rw [hv]
      exact (onlyHead_refl s h).setHead c
    have inHand : operationInHand v h.station = operationInHand s h.station := by rw [hv]; rfl
    have taken : exec (.headLost h) s = .next (settle s (if (v.head h).state = .parked ∧
        operationInHand v h.station = false then v else faultHead v h .lost)) := by
      rw [hv, lost]
      exact event_notice w
    rw [own, inHand] at taken
    by_cases spared : c.state = .parked ∧ operationInHand s h.station = false
    · rw [if_pos spared, settle_of_onlyChanges base (by simp)] at taken
      refine ⟨_, taken, only, base, ?_⟩
      rw [if_pos spared]
      exact ⟨own, by rw [hv]; rfl, by rw [hv]; rfl⟩
    · have frame := base.faultHead (by simp) (by simp) h .lost
      rw [if_neg spared, settle_of_onlyChanges frame (by simp)] at taken
      refine ⟨_, taken, faultHead_only only .lost, frame, ?_⟩
      rw [if_neg spared]
      exact faultHead_faults own (by rw [hv]; rfl) (by rw [hv]; rfl) (by rw [hv]; rfl) .lost
  case regained =>
    have frame : onlyChanges [.heads] s ((s.setNotices rest).setHead h
        { s.head h with condition := .active, latest := some (latestOf r) }) :=
      ((onlyChanges_refl _ s).setNotices rest).setHead (by simp) h _
    have e : exec (.headRegained h) s = .next ((s.setNotices rest).setHead h
        { s.head h with condition := .active, latest := some (latestOf r) }) :=
      event_notice_heads w rfl (frame.mono (by simp))
    exact ⟨_, e, rfl, (onlyHead_refl s h).setHead _, frame, head_setHead_same _ h _⟩

/-! ### What one notice makes of several heads -/

/-- What an action on one head makes of it and of its channel, with all else about the heads kept: `g` is the head's record
after it, `k` its timer's. -/
structure HeadAction (f : State → HeadId → State) (g : HeadId → Head → Head)
    (k : State → HeadId → Head → TimerRec → TimerRec) : Prop where
  head : ∀ s h, (f s h).head h = g h (s.head h)
  timer : ∀ s h, (f s h).timers.get (.head h) = k s h (s.head h) (s.timers.get (.head h))
  otherHead : ∀ s h other, other ≠ h → (f s h).head other = s.head other
  otherTimer : ∀ s h other, other ≠ h → (f s h).timers.get (.head other) = s.timers.get (.head other)
  again : ∀ s h, k (f s h) = k s
  loopUp : ∀ s h, (f s h).heads.loopUp = s.heads.loopUp
  view : ∀ s h, (f s h).heads.view = s.heads.view
  notices : ∀ s h, (f s h).notices = s.notices

/-- What an action on each head of a list makes of the heads. -/
structure HeadsActed (hs : List HeadId) (g : HeadId → Head → Head) (k : State → HeadId → Head → TimerRec → TimerRec)
    (s t : State) : Prop where
  reached : ∀ h ∈ hs, t.head h = g h (s.head h) ∧ t.timers.get (.head h) = k s h (s.head h) (s.timers.get (.head h))
  spared : ∀ h, h ∉ hs → t.head h = s.head h ∧ t.timers.get (.head h) = s.timers.get (.head h)
  loopUp : t.heads.loopUp = s.heads.loopUp
  view : t.heads.view = s.heads.view
  notices : t.notices = s.notices

theorem HeadAction.foldl {f : State → HeadId → State} {g : HeadId → Head → Head}
    {k : State → HeadId → Head → TimerRec → TimerRec} (action : HeadAction f g k) {hs : List HeadId} (distinct : hs.Nodup)
    (s : State) : HeadsActed hs g k s (hs.foldl f s) := by
  induction hs generalizing s with
  | nil => exact ⟨fun _ mem => (nomatch mem), fun _ _ => ⟨rfl, rfl⟩, rfl, rfl, rfl⟩
  | cons a hs ih =>
    obtain ⟨fresh, distinct⟩ := List.nodup_cons.mp distinct
    obtain ⟨reached, spared, loopUp, view, notices⟩ := ih distinct (f s a)
    rw [List.foldl_cons]
    refine ⟨fun h mem => ?_, fun h out => ?_, loopUp.trans (action.loopUp s a), view.trans (action.view s a),
      notices.trans (action.notices s a)⟩
    · rcases List.mem_cons.mp mem with rfl | later
      · obtain ⟨head, timer⟩ := spared h fresh
        exact ⟨head.trans (action.head s h), timer.trans (action.timer s h)⟩
      · have ne : h ≠ a := fun same => fresh (same ▸ later)
        obtain ⟨head, timer⟩ := reached h later
        rw [action.otherHead s a h ne] at head timer
        rw [action.otherTimer s a h ne, action.again] at timer
        exact ⟨head, timer⟩
    · simp only [List.mem_cons, not_or] at out
      obtain ⟨ne, out⟩ := out
      obtain ⟨head, timer⟩ := spared h out
      exact ⟨head.trans (action.otherHead s a h ne), timer.trans (action.otherTimer s a h ne)⟩

theorem mem_headIds (h : HeadId) : h ∈ headIds := by
  obtain ⟨st, d⟩ := h
  cases st <;> cases d <;> decide

theorem mem_headsOf {h : HeadId} {st : StationId} : h ∈ headsOf st ↔ h.station = st := by
  obtain ⟨own, d⟩ := h
  cases own <;> cases d <;> cases st <;> decide

theorem nodup_headIds : headIds.Nodup := by decide

theorem nodup_headsOf (st : StationId) : (headsOf st).Nodup := by cases st <;> decide

/-! ### Halts and withdrawals (R105, R107) -/

/-- A head's record after a halt (R105). -/
def haltedHead (c : Head) : Head :=
  if headWorking c.state = true then { c with state := .paused, order := .halt, pendingTask := none }
  else { c with pendingTask := none }

theorem haltHead_action : HeadAction haltHead (fun _ => haltedHead)
    (fun _ _ c r => if headWorking c.state = true then cancelledRec r else r) := by
  have cases_ (s : State) (h : HeadId) : haltHead s h =
      if headWorking (s.head h).state = true then
        cancelHead (s.setHead h { s.head h with state := .paused, order := .halt, pendingTask := none }) h
      else s.setHead h { s.head h with pendingTask := none } := by
    unfold haltHead
    dsimp only
    rw [head_setHead_same]
    split
    · unfold State.setHead
      rw [State.setHeads_heads, headSet_headSet]
      rfl
    · rfl
  constructor
  case head =>
    intro s h
    rw [cases_, haltedHead]
    split <;> exact head_setHead_same _ h _
  case timer =>
    intro s h
    rw [cases_]
    split
    · exact cancelTimer_get _ _
    · rfl
  case otherHead =>
    intro s h other ne
    rw [cases_]
    split <;> exact head_setHead_ne s ne _
  case otherTimer =>
    intro s h other ne
    rw [cases_]
    split
    · exact TimerBank.get_set_other _ _ _ _ (head_channel_ne ne)
    · rfl
  case again => exact fun _ _ => rfl
  all_goals
    intro s h
    rw [cases_]
    split <;> rfl

/-- A head's record after a withdrawal (R107). -/
def withdrawnHead (c : Head) : Head :=
  if headWorking c.state = true ∨ c.state = .paused then
    { c with state := .returning, order := .ret, task := none, pendingTask := none }
  else { c with pendingTask := none }

theorem withdrawHead_action : HeadAction withdrawHead (fun _ => withdrawnHead) (fun s h c r =>
    if headWorking c.state = true ∨ c.state = .paused then
      startedRec s.timers.gateOpen (.head h) r (s.settings.headTimeout * 100)
    else r) := by
  have cases_ (s : State) (h : HeadId) : withdrawHead s h =
      if headWorking (s.head h).state = true ∨ (s.head h).state = .paused then
        startTimer (s.setHead h { s.head h with state := .returning, order := .ret, task := none, pendingTask := none })
          (.head h)
      else s.setHead h { s.head h with pendingTask := none } := by
    unfold withdrawHead
    dsimp only
    rw [head_setHead_same]
    split
    · unfold State.setHead
      rw [State.setHeads_heads, headSet_headSet]
      rfl
    · rfl
  constructor
  case head =>
    intro s h
    rw [cases_, withdrawnHead]
    split <;> exact head_setHead_same _ h _
  case timer =>
    intro s h
    rw [cases_]
    split
    · exact startTimer_get _ _
    · rfl
  case otherHead =>
    intro s h other ne
    rw [cases_]
    split <;> exact head_setHead_ne s ne _
  case otherTimer =>
    intro s h other ne
    rw [cases_]
    split
    · exact TimerBank.get_set_other _ _ _ _ (head_channel_ne ne)
    · rfl
  case again =>
    intro s h
    rw [cases_]
    split <;> rfl
  all_goals
    intro s h
    rw [cases_]
    split <;> rfl

section
variable {s v t : State} {hs : List HeadId} {reached : HeadId → Prop}

/-- A halt of the heads of a list, from a state that has the heads' records and the timers of `s` (R105). -/
theorem HeadsActed.halted (acted : HeadsActed hs (fun _ => haltedHead)
      (fun _ _ c r => if headWorking c.state = true then cancelledRec r else r) v t)
    (heads : v.heads.recs = s.heads.recs) (timers : v.timers = s.timers) (which : ∀ h, reached h ↔ h ∈ hs) (h : HeadId) :
    (reached h → headWorking (s.head h).state = true →
      t.head h = { s.head h with state := .paused, order := .halt, pendingTask := none } ∧
      t.timers.get (.head h) = cancelledRec (s.timers.get (.head h))) ∧
    (reached h → headWorking (s.head h).state = false →
      t.head h = { s.head h with pendingTask := none } ∧ t.timers.get (.head h) = s.timers.get (.head h)) ∧
    (¬ reached h → t.head h = s.head h ∧ t.timers.get (.head h) = s.timers.get (.head h)) := by
  obtain ⟨hit, spared, -, -, -⟩ := acted
  have same : v.head h = s.head h := congrArg (headGet · h) heads
  rw [which]
  refine ⟨fun mem working => ?_, fun mem idle => ?_, fun out => ?_⟩
  · obtain ⟨head, timer⟩ := hit h mem
    rw [same, haltedHead, if_pos working] at head
    rw [same, timers, if_pos working] at timer
    exact ⟨head, timer⟩
  · obtain ⟨head, timer⟩ := hit h mem
    rw [same, haltedHead, if_neg (by simp [idle])] at head
    rw [same, timers, if_neg (by simp [idle])] at timer
    exact ⟨head, timer⟩
  · obtain ⟨head, timer⟩ := spared h out
    rw [same] at head
    rw [timers] at timer
    exact ⟨head, timer⟩

/-- A withdrawal of the heads of a list (R107). -/
theorem HeadsActed.withdrawn (acted : HeadsActed hs (fun _ => withdrawnHead) (fun s h c r =>
      if headWorking c.state = true ∨ c.state = .paused then
        startedRec s.timers.gateOpen (.head h) r (s.settings.headTimeout * 100)
      else r) v t)
    (heads : v.heads.recs = s.heads.recs) (timers : v.timers = s.timers) (settings : v.settings = s.settings)
    (which : ∀ h, reached h ↔ h ∈ hs) (h : HeadId) :
    (reached h → headWorking (s.head h).state = true ∨ (s.head h).state = .paused →
      t.head h = { s.head h with state := .returning, order := .ret, task := none, pendingTask := none } ∧
      t.timers.get (.head h) =
        startedRec s.timers.gateOpen (.head h) (s.timers.get (.head h)) (s.settings.headTimeout * 100)) ∧
    (reached h → headWorking (s.head h).state = false → (s.head h).state ≠ .paused →
      t.head h = { s.head h with pendingTask := none } ∧ t.timers.get (.head h) = s.timers.get (.head h)) ∧
    (¬ reached h → t.head h = s.head h ∧ t.timers.get (.head h) = s.timers.get (.head h)) := by
  obtain ⟨hit, spared, -, -, -⟩ := acted
  have same : v.head h = s.head h := congrArg (headGet · h) heads
  rw [which]
  refine ⟨fun mem working => ?_, fun mem idle unpaused => ?_, fun out => ?_⟩
  · obtain ⟨head, timer⟩ := hit h mem
    rw [same, withdrawnHead, if_pos working] at head
    rw [same, timers, settings, if_pos working] at timer
    exact ⟨head, timer⟩
  · obtain ⟨head, timer⟩ := hit h mem
    rw [same, withdrawnHead, if_neg (by simp [idle, unpaused])] at head
    rw [same, timers, settings, if_neg (by simp [idle, unpaused])] at timer
    exact ⟨head, timer⟩
  · obtain ⟨head, timer⟩ := spared h out
    rw [same] at head
    rw [timers] at timer
    exact ⟨head, timer⟩

end

/-- A withdrawal of one station's heads, from the notice taken. -/
theorem exec_withdrawNotice {s : State} {st : StationId} {rest : List Notice}
    (w : waits s (fun m => m == .withdraw st) (.withdraw st) rest) :
    exec (.withdrawNotice st) s = .next ((headsOf st).foldl withdrawHead (s.setNotices rest)) :=
  event_notice_heads w rfl (onlyChanges.foldl
    (fun v k => (onlyChanges_refl _ v).withdrawHead (by simp) (by simp) k) _ ((onlyChanges_refl _ s).setNotices rest))

/-- Settles O37: each notice acts on the heads of a list one by one, and no head's action touches another's. -/
theorem haltsAndWithdrawalsReachHeads : Obligations.HaltsAndWithdrawalsReachHeads := by
  refine ⟨fun s c n rest reached w which => ?halts, fun s c n rest reached w which => ?withdrawals,
    fun s st rest w => ?withdraw⟩
  case halts =>
    have base := (onlyChanges_refl [Part.heads, Part.timers] s).setNotices rest
    rcases which with ⟨rfl, rfl, all⟩ | ⟨st, rfl, rfl, own⟩
    · have frame := onlyChanges.foldl (fun v k => (onlyChanges_refl [Part.heads, Part.timers] v).haltHead (by simp) (by simp) k)
        headIds (base.setHeads (by simp) { s.heads with view := { s.heads.view with zone := s.zone.zone } })
      have e : exec .headBreachNotice s = .next _ := event_notice_heads w rfl frame
      have acted := haltHead_action.foldl nodup_headIds
        ((s.setNotices rest).setHeads { s.heads with view := { s.heads.view with zone := s.zone.zone } })
      exact ⟨_, e, acted.notices, frame, acted.loopUp, acted.view.trans (if_pos rfl).symm,
        acted.halted rfl rfl fun h => ⟨fun _ => mem_headIds h, fun _ => all h⟩⟩
    · have frame := onlyChanges.foldl (fun v k => (onlyChanges_refl [Part.heads, Part.timers] v).haltHead (by simp) (by simp) k)
        (headsOf st) base
      have e : exec (.haltNotice st) s = .next _ := event_notice_heads w rfl frame
      have acted := haltHead_action.foldl (nodup_headsOf st) (s.setNotices rest)
      exact ⟨_, e, acted.notices, frame, acted.loopUp, acted.view.trans (if_neg (fun z => nomatch z)).symm,
        acted.halted rfl rfl fun h => (own h).trans mem_headsOf.symm⟩
  case withdrawals =>
    have base := (onlyChanges_refl [Part.heads, Part.timers] s).setNotices rest
    rcases which with ⟨rfl, rfl, all⟩ | ⟨st, rfl, rfl, own⟩
    · have frame := onlyChanges.foldl
        (fun v k => (onlyChanges_refl [Part.heads, Part.timers] v).withdrawHead (by simp) (by simp) k)
        headIds (base.setHeads (by simp) { s.heads with view := { s.heads.view with stop := s.zone.stop } })
      have e : exec .headBreakNotice s = .next _ := event_notice_heads w rfl frame
      have acted := withdrawHead_action.foldl nodup_headIds
        ((s.setNotices rest).setHeads { s.heads with view := { s.heads.view with stop := s.zone.stop } })
      exact ⟨_, e, acted.notices, frame, acted.loopUp, acted.view.trans (if_pos rfl).symm,
        acted.withdrawn rfl rfl rfl fun h => ⟨fun _ => mem_headIds h, fun _ => all h⟩⟩
    · have e := exec_withdrawNotice w
      have acted := withdrawHead_action.foldl (nodup_headsOf st) (s.setNotices rest)
      exact ⟨_, e, acted.notices, execWithdrawNotice_onlyChanges (st := st) e, acted.loopUp,
        acted.view.trans (if_neg (fun z => nomatch z)).symm,
        acted.withdrawn rfl rfl rfl fun h => (own h).trans mem_headsOf.symm⟩
  case withdraw =>
    have e := exec_withdrawNotice w
    have acted := withdrawHead_action.foldl (nodup_headsOf st) (s.setNotices rest)
    have each := acted.withdrawn (s := s) (reached := fun h => h.station = st) rfl rfl rfl fun h => mem_headsOf.symm
    refine ⟨_, e, acted.notices, execWithdrawNotice_onlyChanges (st := st) e, acted.loopUp, acted.view, fun d => ?_⟩
    obtain ⟨-, -, other⟩ := each ⟨otherStation st, d⟩
    obtain ⟨working, idle, -⟩ := each ⟨st, d⟩
    have apart : otherStation st ≠ st := by cases st <;> decide
    obtain ⟨head, timer⟩ := other apart
    refine ⟨head, timer, ?_⟩
    split
    next reached => exact working rfl reached
    next still =>
      obtain ⟨idle_, unpaused⟩ := not_or.mp still
      exact idle rfl (by simpa using idle_) unpaused

end Sys2Proof.Machine

/-! ### Head reports (R104 to R106, R108) -/

namespace Sys2Proof.Machine

theorem TimerBank.set_set (b : TimerBank) (ch : Channel) (x y : TimerRec) : (b.set ch x).set ch y = b.set ch y := by
  cases ch with
  | clamp st => cases st <;> rfl
  | head h =>
    obtain ⟨st, d⟩ := h
    cases st <;> cases d <;> rfl
  | _ => rfl

theorem onlyHead.trans {s t u : State} {h : HeadId} (first : onlyHead s t h) (second : onlyHead t u h) :
    onlyHead s u h := by
  unfold onlyHead at first second ⊢
  rw [second, first]
  simp only [headSet_headSet]

/-! ### Pass completions wear the insert (R108) -/

/-- The insert pass count after a report with or without a pass completion. -/
def wornCount (s : State) (h : HeadId) (pass : Option Nat) : Nat :=
  if pass.isSome = true ∧ (s.head h).insertCount < s.settings.insertLife then (s.head h).insertCount + 1
  else (s.head h).insertCount

theorem countPass_eq (s : State) (h : HeadId) (n : Nat) : countPass s h =
    send (s.setHead h { s.head h with insertCount := wornCount s h (some n) }) (insertDuePosted s h (some n)) := by
  unfold countPass wornCount insertDuePosted
  dsimp only
  by_cases beyond : s.settings.insertLife ≤ (s.head h).insertCount
  · have still : ¬ (s.head h).insertCount < s.settings.insertLife := by omega
    by_cases full : (s.head h).insertCount = s.settings.insertLife
    · simp [full, post]
    · have past : ¬ (s.head h).insertCount + 1 = s.settings.insertLife := by omega
      simp [beyond, still, full, past, send, State.setNotices, State.setHead, State.setHeads]
  · have room : (s.head h).insertCount < s.settings.insertLife := by omega
    have notFull : ¬ (s.head h).insertCount = s.settings.insertLife := by omega
    by_cases last : (s.head h).insertCount + 1 = s.settings.insertLife
    · simp [beyond, room, notFull, last, post]
    · simp [beyond, room, notFull, last, send, State.setNotices, State.setHead, State.setHeads]

/-- The INSERT-DUE of a report depends on the insert count, the settings and the loop alone. -/
theorem insertDuePosted_congr {s t : State} {h : HeadId} (count : (t.head h).insertCount = (s.head h).insertCount)
    (settings : t.settings = s.settings) (loop : t.loop = s.loop) (pass : Option Nat) :
    insertDuePosted t h pass = insertDuePosted s h pass := by
  unfold insertDuePosted headPosition
  rw [count, settings, loop]

theorem wornCount_congr {s t : State} {h : HeadId} (count : (t.head h).insertCount = (s.head h).insertCount)
    (settings : t.settings = s.settings) (pass : Option Nat) : wornCount t h pass = wornCount s h pass := by
  unfold wornCount
  rw [count, settings]

/-- A head's record as its report leaves it before any task of its is taken up (R67, R104). -/
def reportedHead (s : State) (h : HeadId) (r : HeadReadings) : Head :=
  { s.head h with latest := some (latestOf r), insertCount := wornCount s h r.passDone }

/-- A report of a head that is at rest: its record, and the wear (R106, R108). -/
def wearHead (s : State) (h : HeadId) (r : HeadReadings) : State :=
  send (s.setHead h (reportedHead s h r)) (insertDuePosted s h r.passDone)

theorem send_nil (s : State) : send s [] = s := by
  simp [send, State.setNotices]

theorem wear_of_report (s : State) (h : HeadId) (r : HeadReadings) :
    (if r.passDone.isSome = true then countPass (s.setHead h (recordHead (s.head h) (.head r))) h
      else s.setHead h (recordHead (s.head h) (.head r))) = wearHead s h r := by
  have record : recordHead (s.head h) (.head r) = { s.head h with latest := some (latestOf r) } := rfl
  have own := head_setHead_same s h { s.head h with latest := some (latestOf r) }
  unfold wearHead reportedHead
  rw [record]
  cases pass : r.passDone with
  | none =>
    have none_ : insertDuePosted s h none = [] := by simp [insertDuePosted]
    rw [none_, send_nil]
    rfl
  | some n =>
    rw [if_pos Option.isSome_some, countPass_eq _ h n, own,
      insertDuePosted_congr (s := s) (t := s.setHead h { s.head h with latest := some (latestOf r) }) (by rw [own]) rfl rfl,
      wornCount_congr (s := s) (t := s.setHead h { s.head h with latest := some (latestOf r) }) (by rw [own]) rfl]
    unfold State.setHead
    rw [State.setHeads_heads, headSet_headSet]
    rfl

/-- A head that is RETURNING, PARKED or FAULTED has worn its insert; a RETURNING one at its park goes on (R106). -/
theorem headReported_atRest {s : State} {h : HeadId} (r : HeadReadings)
    (atRest : (s.head h).state = .returning ∨ (s.head h).state = .parked ∨ (s.head h).state = .faulted) :
    headReported s h r = if (s.head h).state = .returning ∧ r.status = .atPark then parkHead (wearHead s h r) h
      else wearHead s h r := by
  have state : ((s.setHead h (recordHead (s.head h) (.head r))).head h).state = (s.head h).state := by
    rw [head_setHead_same]
    rfl
  unfold headReported
  dsimp only
  rw [state]
  rcases atRest with returning | parked | faulted
  · rw [returning]
    dsimp only
    rw [wear_of_report]
    simp
  · rw [parked]
    dsimp only
    rw [wear_of_report, if_neg (by simp)]
  · rw [faulted]
    dsimp only
    rw [wear_of_report, if_neg (by simp)]

theorem wearHead_frame (s : State) (h : HeadId) (r : HeadReadings) {ps : List Part} (heads : Part.heads ∈ ps) :
    onlyChanges ps s (wearHead s h r) :=
  ((onlyChanges_refl ps s).setHead heads h _).send _

/-- A head parks with its channel cancelled (R106). -/
def parkedState (s : State) (h : HeadId) : State :=
  (cancelHead s h).setHead h { s.head h with state := .parked, order := .halt, pendingTask := none }

theorem parkHead_idle {s : State} {h : HeadId} (none_ : (s.head h).pendingTask = none) :
    parkHead s h = parkedState s h := by
  unfold parkHead
  dsimp only
  rw [none_]
  rfl

theorem parkHead_pending {s : State} {h : HeadId} {k : HeadTask} (pending : (s.head h).pendingTask = some k) :
    parkHead s h = takeTask (parkedState s h) h k := by
  unfold parkHead
  dsimp only
  rw [pending]
  rfl

/-! ### The first cycle (R102) -/

/-- A head's record as the first cycle derives it (R102). -/
def derivedHead (outs : List (Role × CycleOutcome)) (h : HeadId) (c : Head) : Head :=
  let idle := { c with condition := .active, task := none, pendingTask := none, order := .halt }
  match outcomeOf outs (.head h) with
  | some (.good (.head r)) =>
    if r.status = .atPark then { idle with latest := some (latestOf r), state := .parked, cause := none }
    else { idle with latest := some (latestOf r), state := .faulted, cause := some .recovered }
  | some (.good (.column _ _ _ _)) => { idle with state := .faulted, cause := some .recovered }
  | some (.good (.clamp _ _ _)) => { idle with state := .faulted, cause := some .recovered }
  | some (.failed _) => { idle with state := .faulted, cause := some .recovered }
  | none => { idle with state := .faulted, cause := some .recovered }

theorem deriveHead_eq (outs : List (Role × CycleOutcome)) (s : State) (h : HeadId) :
    deriveHead outs s h = s.setHead h (derivedHead outs h (s.head h)) := by
  unfold deriveHead derivedHead
  cases outcomeOf outs (.head h) with
  | none => rfl
  | some o =>
    cases o with
    | failed => rfl
    | good readings =>
      cases readings with
      | column => rfl
      | clamp => rfl
      | head r => by_cases park : r.status = .atPark <;> simp [park]

theorem deriveHead_action (outs : List (Role × CycleOutcome)) :
    HeadAction (deriveHead outs) (derivedHead outs) (fun _ _ _ r => r) := by
  constructor
  case head =>
    intro s h
    rw [deriveHead_eq]
    exact head_setHead_same s h _
  case otherHead =>
    intro s h other ne
    rw [deriveHead_eq]
    exact head_setHead_ne s ne _
  case again => exact fun _ _ => rfl
  all_goals
    intros
    rw [deriveHead_eq]
    rfl

/-- What the first cycle leaves of each head (R102). -/
theorem derivedHead_spec (outs : List (Role × CycleOutcome)) (h : HeadId) (c : Head) :
    (derivedHead outs h c).condition = .active ∧ (derivedHead outs h c).task = none ∧
    (derivedHead outs h c).pendingTask = none ∧ (derivedHead outs h c).order = .halt ∧
    (derivedHead outs h c).insertCount = c.insertCount ∧
    (∀ r, outcomeOf outs (.head h) = some (.good (.head r)) →
      (derivedHead outs h c).latest = some (latestOf r) ∧
      (r.status = .atPark → (derivedHead outs h c).state = .parked ∧ (derivedHead outs h c).cause = none) ∧
      (r.status ≠ .atPark → (derivedHead outs h c).state = .faulted ∧ (derivedHead outs h c).cause = some .recovered)) ∧
    (∀ e, outcomeOf outs (.head h) = some (.failed e) →
      (derivedHead outs h c).state = .faulted ∧ (derivedHead outs h c).cause = some .recovered) := by
  unfold derivedHead
  cases outcome : outcomeOf outs (.head h) with
  | none => simp
  | some o =>
    cases o with
    | failed e => simp
    | good readings =>
      cases readings with
      | column => simp
      | clamp => simp
      | head r => by_cases park : r.status = .atPark <;> simp [park]

/-- Settles O35: a head at rest wears its insert and may park, a pending task is then taken by `takeTask`, and the first cycle
acts on the heads one by one. -/
theorem headsParkAndDerive : Obligations.HeadsParkAndDerive := by
  refine ⟨fun s h r rest w atRest idle => ?rest_, fun s h r rest k w returning park pending => ?pending,
    fun s outs rest w => ?derive⟩
  case rest_ =>
    have reported := headReported_atRest (s := s.setNotices rest) r atRest
    have own : (wearHead (s.setNotices rest) h r).head h = reportedHead s h r := head_setHead_same _ h _
    have worn := wearHead_frame (s.setNotices rest) h r (ps := [.heads, .timers]) (by simp)
    by_cases parks : (s.head h).state = .returning ∧ r.status = .atPark
    · have none_ : ((wearHead (s.setNotices rest) h r).head h).pendingTask = none := by
        rw [own]
        rcases idle with none_ | state | status
        · exact none_
        · exact absurd parks.1 state
        · exact absurd parks.2 status
      have reported := (reported.trans (if_pos parks)).trans (parkHead_idle none_)
      have frame : onlyChanges [.heads, .timers] s (parkedState (wearHead (s.setNotices rest) h r) h) :=
        (((onlyChanges_refl _ s).setNotices rest).trans worn).cancelHead (by simp) h |>.setHead (by simp) h _
      have e : exec (.headReport h) s = .next (parkedState (wearHead (s.setNotices rest) h r) h) :=
        event_notice_heads w reported frame
      have parked : (parkedState (wearHead (s.setNotices rest) h r) h).head h =
          { reportedHead s h r with state := .parked, order := .halt, pendingTask := none } :=
        (head_setHead_same _ h _).trans (by rw [own])
      refine ⟨_, e, rfl, ((onlyHead_refl s h).setHead (reportedHead s h r)).of_heads (u := cancelHead _ h) rfl |>.setHead _,
        frame, by rw [parked]; rfl, by rw [parked]; rfl, fun _ _ => ⟨by rw [parked], by rw [parked], rfl⟩, fun other => ?_⟩
      rcases other with state | status
      · exact absurd parks.1 state
      · exact absurd parks.2 status
    · have reported := reported.trans (if_neg parks)
      have frame : onlyChanges [.heads, .timers] s (wearHead (s.setNotices rest) h r) :=
        ((onlyChanges_refl _ s).setNotices rest).trans worn
      have e : exec (.headReport h) s = .next (wearHead (s.setNotices rest) h r) := event_notice_heads w reported frame
      exact ⟨_, e, rfl, (onlyHead_refl s h).setHead (reportedHead s h r), frame, by rw [own]; rfl, by rw [own]; rfl,
        fun state status => absurd ⟨state, status⟩ parks, fun _ => ⟨by rw [own]; rfl, by rw [own]; rfl, rfl⟩⟩
  case pending =>
    have reported := headReported_atRest (s := s.setNotices rest) r (Or.inl returning)
    have own : (wearHead (s.setNotices rest) h r).head h = reportedHead s h r := head_setHead_same _ h _
    have reported := (reported.trans (if_pos ⟨returning, park⟩)).trans (parkHead_pending (k := k) (by rw [own]; exact pending))
    obtain ⟨v, hv⟩ : ∃ v, v = parkedState (wearHead (s.setNotices rest) h r) h := ⟨_, rfl⟩
    rw [← hv] at reported
    have parked : v.head h = { reportedHead s h r with state := .parked, order := .halt, pendingTask := none } := by
      rw [hv]
      exact (head_setHead_same _ h _).trans (by rw [own])
    have base : onlyChanges [.heads, .timers] s v := by
      rw [hv]
      exact (((onlyChanges_refl _ s).setNotices rest).trans
        (wearHead_frame (s.setNotices rest) h r (by simp))).cancelHead (by simp) h |>.setHead (by simp) h _
    have frame := base.takeTask (by simp) (by simp) h k
    have e : exec (.headReport h) s = .next (takeTask v h k) := event_notice_heads w reported frame
    have timers : v.timers = s.timers.set (.head h) (cancelledRec (s.timers.get (.head h))) := by rw [hv]; rfl
    have zone : v.zone = s.zone := by rw [hv]; rfl
    have settings : v.settings = s.settings := by rw [hv]; rfl
    have onlyV : onlyHead s v h := by
      rw [hv]
      exact ((onlyHead_refl s h).setHead (reportedHead s h r)).of_heads (u := cancelHead _ h) rfl |>.setHead _
    obtain ⟨notices, only⟩ := takeTask_keeps v h k
    obtain ⟨started, kept, dropped, -, -, -⟩ := takeTask_taken v h k
    rw [zone, parked, timers] at started
    rw [zone, parked, timers] at kept
    rw [zone, parked, timers] at dropped
    refine ⟨_, e, ?_, onlyV.trans only, frame, ?_⟩
    · rw [notices, hv]
      rfl
    · cases stop : s.zone.stop with
      | broken =>
        obtain ⟨head, still⟩ := dropped stop rfl
        rw [head, still]
        exact ⟨rfl, rfl, fun z => (nomatch z), fun z => (nomatch z), fun _ => ⟨rfl, rfl, rfl, rfl⟩⟩
      | healthy =>
        cases zone : s.zone.zone with
        | clear =>
          obtain ⟨head, begun⟩ := started stop zone (Or.inl rfl)
          rw [head, begun]
          refine ⟨rfl, rfl, fun _ _ => ⟨rfl, rfl, rfl, ?_⟩, fun _ z => (nomatch z), fun z => nomatch z⟩
          rw [TimerBank.set_set, TimerBank.get_set_same, settings]
          rfl
        | breached =>
          obtain ⟨head, still⟩ := kept stop zone rfl
          rw [head, still]
          exact ⟨rfl, rfl, fun _ z => (nomatch z), fun _ _ => ⟨rfl, rfl, rfl, rfl⟩, fun z => nomatch z⟩
  case derive =>
    have frame := onlyChanges.foldl (fun v k => (onlyChanges_refl [Part.heads] v).deriveHead (by simp) outs k) headIds
      (((onlyChanges_refl [Part.heads] s).setNotices rest).setHeads (by simp) { s.heads with loopUp := true })
    have e : exec .headLoopUp s = .next _ := event_notice_heads w rfl (frame.mono (by simp))
    have acted := (deriveHead_action outs).foldl nodup_headIds
      ((s.setNotices rest).setHeads { s.heads with loopUp := true })
    refine ⟨_, e, acted.notices, frame, acted.loopUp, acted.view, fun h => ?_⟩
    obtain ⟨head, -⟩ := acted.reached h (mem_headIds h)
    have same : ((s.setNotices rest).setHeads { s.heads with loopUp := true }).head h = s.head h := rfl
    rw [same] at head
    change headGet _ h = _ at head
    have spec := derivedHead_spec outs h (s.head h)
    rw [← head] at spec
    exact spec

end Sys2Proof.Machine

/-! ### Reports of a head at work (R104 to R106, R108) -/

namespace Sys2Proof.Machine

/-! ### What the steps of a report hand on and change -/

theorem handOn_eq (s : State) (h : HeadId) (ns : List Notice) :
    handOn s h ns = send s (if operationInHand s h.station = true then ns else []) := by
  unfold handOn
  split
  · rfl
  · exact (send_nil s).symm

/-- The station's record of a head's cursor, and nothing else, may change (R104, step 2). -/
theorem recordCursor_eq (s : State) (h : HeadId) (c : Option Cursor) :
    recordCursor s h c = s.setStations (recordCursor s h c).stations := by
  unfold recordCursor
  split
  · rfl
  · split <;> rfl

theorem recordCursor_station (s : State) (h : HeadId) (c : Option Cursor) (st : StationId) :
    (recordCursor s h c).station st =
      if st = h.station ∧ c.isSome = true ∧ operationInHand s h.station = true then
        { s.station st with cursor := (s.station st).cursor.set h.side c }
      else s.station st := by
  unfold recordCursor
  cases c with
  | none => simp
  | some x =>
    dsimp only
    by_cases inHand : operationInHand s h.station = true
    · rw [if_pos inHand]
      by_cases own : st = h.station
      · subst own
        rw [if_pos ⟨rfl, rfl, inHand⟩]
        exact PerStation.get_set_same _ _ _
      · rw [if_neg (fun all => own all.1)]
        exact PerStation.get_set_ne _ own _
    · rw [if_neg inHand, if_neg (fun all => inHand all.2.2)]

/-- A head's record after a pass completion, its task and order carrying the passes that remain (R102, R169). -/
def advancedHead (c : Head) : Option Nat → Head
  | none => c
  | some n => advanceTask c n

theorem advancedHead_keeps (c : Head) (pass : Option Nat) : (advancedHead c pass).state = c.state ∧
    (advancedHead c pass).latest = c.latest ∧ (advancedHead c pass).insertCount = c.insertCount ∧
    (advancedHead c pass).task.map taskKind = c.task.map taskKind := by
  cases pass with
  | none => exact ⟨rfl, rfl, rfl, rfl⟩
  | some n =>
    cases task : c.task with
    | none => simp [advancedHead, advanceTask, task]
    | some k => cases k <;> simp [advancedHead, advanceTask, task, taskKind]

theorem setHead_self (s : State) (h : HeadId) : s.setHead h (s.head h) = s := by
  unfold State.setHead State.head
  rw [headSet_self]
  rfl

/-- What a report's pass completion hands to the station (R104, step 3). -/
def passNotices (s : State) (h : HeadId) (pass : Option Nat) : List Notice :=
  if operationInHand s h.station = true then pass.toList.map (.passDone h) else []

theorem handPass_eq (s : State) (h : HeadId) (pass : Option Nat) : handPass s h pass =
    send (send (s.setHead h { advancedHead (s.head h) pass with insertCount := wornCount s h pass })
      (insertDuePosted s h pass)) (passNotices s h pass) := by
  cases pass with
  | none =>
    have worn : wornCount s h none = (s.head h).insertCount := by simp [wornCount]
    have none_ : insertDuePosted s h none = [] := by simp [insertDuePosted]
    have nothing : passNotices s h none = [] := by simp [passNotices]
    rw [worn, none_, nothing, send_nil, send_nil]
    exact (setHead_self s h).symm
  | some n =>
    obtain ⟨-, -, count, -⟩ := advancedHead_keeps (s.head h) (some n)
    unfold handPass
    dsimp only
    have own := head_setHead_same s h (advanceTask (s.head h) n)
    have same : ((s.setHead h (advanceTask (s.head h) n)).head h).insertCount = (s.head h).insertCount := by
      rw [own]; exact count
    rw [handOn_eq, countPass_eq _ h n, own, insertDuePosted_congr (s := s) same rfl rfl, wornCount_congr (s := s) same rfl]
    have twice (x y : Head) : (s.setHead h x).setHead h y = s.setHead h y := by
      unfold State.setHead
      rw [State.setHeads_heads, headSet_headSet]
      rfl
    rw [twice]
    unfold passNotices
    rfl

theorem endTask_eq {s : State} {h : HeadId} {k : HeadTask} (task : (s.head h).task = some k) : endTask s h =
    startTimer (send ((cancelHead s h).setHead h { s.head h with state := .returning, order := .ret, task := none })
      (if operationInHand s h.station = true then [.taskDone h (taskKind k)] else [])) (.head h) := by
  unfold endTask
  rw [task]
  dsimp only
  rw [handOn_eq]
  rfl

/-! ### The whole report -/

/-- What a report of a head at work has changed by the moment its task ends or goes on: the head's record is `c`, and the
notices under way are `sent`. -/
structure ReportTaken (s t : State) (h : HeadId) (cursor : Option Cursor) (c : Head) (sent : List Notice) : Prop where
  head : t.head h = c
  only : onlyHead s t h
  station : ∀ st, t.station st =
    if st = h.station ∧ cursor.isSome = true ∧ operationInHand s h.station = true then
      { s.station st with cursor := (s.station st).cursor.set h.side cursor }
    else s.station st
  frame : onlyChanges [.heads, .timers, .stations] s t
  notices : t.notices = sent

theorem ReportTaken.inHand {s t : State} {h : HeadId} {cursor : Option Cursor} {c : Head} {sent : List Notice}
    (taken : ReportTaken s t h cursor c sent) (st : StationId) : operationInHand t st = operationInHand s st := by
  unfold operationInHand
  rw [taken.station]
  split <;> rfl

/-- A report's station keeps everything but the cursor, so the Warning Outputs are shown nothing new. -/
theorem ReportTaken.settle {s t : State} {h : HeadId} {cursor : Option Cursor} {c : Head} {sent : List Notice}
    (taken : ReportTaken s t h cursor c sent) : settle s t = t := by
  obtain ⟨-, -, station, frame, -⟩ := taken
  obtain ⟨-, -, -, same⟩ := frame
  have attention := same .attention (by simp)
  have settings := same .settings (by simp)
  have loop := same .loop (by simp)
  have zone := same .zone (by simp)
  have lift := same .lift (by simp)
  have clamps := same .clamps (by simp)
  have history := same .history (by simp)
  simp only [agree] at attention settings loop zone lift clamps history
  have reserved (st : StationId) : stationReserved (t.station st) = stationReserved (s.station st) := by
    rw [station]
    split <;> rfl
  refine settle_still (by rw [lift]) (fun st => ?_) (by rw [loop]) (by rw [loop]) (fun st => ?_) zone attention history ?_
    (by rw [settings])
  · unfold State.clamp
    rw [clamps]
  · rw [station]
    split <;> rfl
  · exact congrArg₂ (· + ·) (reserved .A) (reserved .B)

/-- The head's record once its report's pass completion has been taken. -/
def progressedHead (s : State) (h : HeadId) (r : HeadReadings) : Head :=
  { advancedHead { s.head h with latest := some (latestOf r) } r.passDone with insertCount := wornCount s h r.passDone }

/-- What a report hands on before its task ends (R104). -/
def reportNotices (s : State) (h : HeadId) (r : HeadReadings) : List Notice :=
  (if operationInHand s h.station = true then sampleNotices h (s.head h).task r else []) ++
    insertDuePosted s h r.passDone ++ passNotices s h r.passDone

/-- The report recorded, its samples, cursor and pass completion handed on. -/
def progressed (s : State) (h : HeadId) (r : HeadReadings) : State :=
  handPass (recordCursor (handOn (s.setHead h { s.head h with latest := some (latestOf r) }) h
    (sampleNotices h (s.head h).task r)) h r.cursor) h r.passDone

theorem progressed_taken (s : State) (h : HeadId) (r : HeadReadings) :
    ReportTaken s (progressed s h r) h r.cursor (progressedHead s h r) (s.notices ++ reportNotices s h r) ∧
    (progressed s h r).timers = s.timers ∧ (progressed s h r).settings = s.settings := by
  obtain ⟨v, hv⟩ : ∃ v, v = s.setHead h { s.head h with latest := some (latestOf r) } := ⟨_, rfl⟩
  have own : v.head h = { s.head h with latest := some (latestOf r) } := by rw [hv]; exact head_setHead_same s h _
  have stations : v.stations = s.stations := by rw [hv]; rfl
  have inHandV : operationInHand v h.station = operationInHand s h.station := by
    unfold operationInHand State.station
    rw [stations]
  obtain ⟨x, hx⟩ : ∃ x, x = send v (if operationInHand s h.station = true then sampleNotices h (s.head h).task r else []) :=
    ⟨_, rfl⟩
  obtain ⟨y, hy⟩ : ∃ y, y = recordCursor x h r.cursor := ⟨_, rfl⟩
  have stationX (st : StationId) : x.station st = s.station st := by rw [hx, hv]; rfl
  have inHandX : operationInHand x h.station = operationInHand s h.station := by
    unfold operationInHand
    rw [stationX]
  have stationY (st : StationId) : y.station st =
      if st = h.station ∧ r.cursor.isSome = true ∧ operationInHand s h.station = true then
        { s.station st with cursor := (s.station st).cursor.set h.side r.cursor }
      else s.station st := by
    rw [hy, recordCursor_station, inHandX, stationX]
  have inHandY : operationInHand y h.station = operationInHand s h.station := by
    unfold operationInHand
    rw [stationY]
    split <;> rfl
  have whole : y = x.setStations y.stations := by
    rw [hy]
    exact recordCursor_eq x h r.cursor
  have headY : y.head h = { s.head h with latest := some (latestOf r) } := by
    rw [whole, hx]
    exact own
  have settings : y.settings = s.settings := by rw [whole, hx, hv]; rfl
  have loop : y.loop = s.loop := by rw [whole, hx, hv]; rfl
  have count : (y.head h).insertCount = (s.head h).insertCount := by rw [headY]
  have onlyY : onlyHead s y h := ((onlyHead_refl s h).setHead { s.head h with latest := some (latestOf r) }).of_heads
    (by rw [whole, hx, hv]; rfl)
  have frameY : onlyChanges [.heads, .timers, .stations] s y := by
    rw [whole, hx, hv]
    exact (((onlyChanges_refl _ s).setHead (by simp) h _).send _).setStations (by simp) _
  have passes : passNotices y h r.passDone = passNotices s h r.passDone := by
    unfold passNotices
    rw [inHandY]
  have made : progressed s h r = send (send (y.setHead h (progressedHead s h r)) (insertDuePosted s h r.passDone))
      (passNotices s h r.passDone) := by
    unfold progressed progressedHead
    rw [← hv, handOn_eq, inHandV, ← hx, ← hy, handPass_eq, headY, insertDuePosted_congr count settings loop,
      wornCount_congr count settings, passes]
  rw [made]
  refine ⟨⟨head_setHead_same y h _, (onlyY.setHead _).of_heads rfl, stationY,
    ((frameY.setHead (by simp) h _).send _).send _, ?_⟩, ?_, settings⟩
  · have noticesY : y.notices = s.notices ++
        (if operationInHand s h.station = true then sampleNotices h (s.head h).task r else []) := by
      rw [whole, hx, hv]
      rfl
    change (y.notices ++ _) ++ _ = _
    rw [noticesY]
    unfold reportNotices
    simp only [List.append_assoc]
  · change y.timers = s.timers
    rw [whole, hx, hv]
    rfl

/-! ### The task goes on or ends -/

theorem ReportTaken.startTimer {s t : State} {h : HeadId} {cursor : Option Cursor} {c : Head} {sent : List Notice}
    (taken : ReportTaken s t h cursor c sent) : ReportTaken s (startTimer t (.head h)) h cursor c sent :=
  ⟨taken.head, taken.only.of_heads rfl, taken.station, taken.frame.setTimers (by simp) _, taken.notices⟩

/-- What a head's completion hands to its station (R106). -/
def endNotices (s : State) (h : HeadId) (k : HeadTask) : List Notice :=
  if operationInHand s h.station = true then [.taskDone h (taskKind k)] else []

theorem ReportTaken.endTask {s t : State} {h : HeadId} {cursor : Option Cursor} {c : Head} {sent : List Notice}
    (taken : ReportTaken s t h cursor c sent) {k : HeadTask} (task : c.task = some k) :
    ReportTaken s (endTask t h) h cursor { c with state := .returning, order := .ret, task := none }
      (sent ++ endNotices s h k) ∧
    ((Machine.endTask t h).timers.get (.head h)).remaining = t.settings.headTimeout * 100 := by
  rw [endTask_eq (k := k) (by rw [taken.head]; exact task), taken.head, taken.inHand]
  refine ⟨⟨head_setHead_same _ h _, (taken.only.of_heads (u := cancelHead t h) rfl |>.setHead _).of_heads rfl,
    taken.station, ?_, ?_⟩, ?_⟩
  · exact (((taken.frame.cancelHead (by simp) h).setHead (by simp) h _).send _).setTimers (by simp) _
  · exact congrArg (· ++ _) taken.notices
  · rw [startTimer_get]
    exact congrArg TimerRec.remaining (if_pos (Or.inr rfl))

/-- A report of a working or PAUSED head: the report taken, the channel afresh where a working head progressed, and the task
ended by its mark. -/
def reportedAtWork (s : State) (h : HeadId) (r : HeadReadings) (moved : Bool) : State :=
  let t := progressed s h r
  let t := if headWorking (s.head h).state && moved then startTimer t (.head h) else t
  if r.taskDone then endTask t h else t

theorem progressedHead_keeps (s : State) (h : HeadId) (r : HeadReadings) :
    (progressedHead s h r).state = (s.head h).state ∧ (progressedHead s h r).latest = some (latestOf r) ∧
    (progressedHead s h r).task.map taskKind = (s.head h).task.map taskKind := by
  obtain ⟨state, latest, -, task⟩ := advancedHead_keeps { s.head h with latest := some (latestOf r) } r.passDone
  exact ⟨state, latest, task⟩

theorem headReported_atWork {s : State} {h : HeadId} (r : HeadReadings)
    (atWork : headWorking (s.head h).state = true ∨ (s.head h).state = .paused) :
    headReported s h r = reportedAtWork s h r
      (((s.head h).latest.bind (·.cursor)) != r.cursor || r.passDone.isSome || r.taskDone) := by
  have own := head_setHead_same s h { s.head h with latest := some (latestOf r) }
  have atRest_absurd {x : HeadState} (found : ((s.setHead h (recordHead (s.head h) (.head r))).head h).state = x)
      (atRest : headWorking x = false ∧ x ≠ .paused) : False := by
    rw [head_setHead_same] at found
    change (s.head h).state = x at found
    rw [found, atRest.1] at atWork
    exact atWork.elim Bool.false_ne_true atRest.2
  have progress : headReported s h r =
      headProgress (s.setHead h { s.head h with latest := some (latestOf r) }) h (s.head h).latest r := by
    unfold headReported
    dsimp only
    split
    case h_5 found | h_6 found | h_7 found => exact (atRest_absurd found (by decide)).elim
    all_goals rfl
  rw [progress]
  have state : ((progressed s h r).head h).state = (s.head h).state := by
    rw [(progressed_taken s h r).1.head]
    exact (progressedHead_keeps s h r).1
  have task : ((s.setHead h { s.head h with latest := some (latestOf r) }).head h).task = (s.head h).task := by rw [own]
  unfold headProgress
  rw [task]
  unfold reportedAtWork
  rw [← state]
  rfl

theorem mem_sampleNotices_walk {h : HeadId} {start : Cursor} {r : HeadReadings}
    (some_ : r.samples ≠ [] ∨ r.backFace.isSome = true) :
    .traceSamples h r.samples r.backFace ∈ sampleNotices h (some (.walk start)) r := by
  refine mem_noticeIf.mpr ⟨?_, rfl⟩
  rcases some_ with samples | backFace
  · simp [samples]
  · simp [backFace]

theorem mem_sampleNotices_scan {h : HeadId} {m : ScanMode} {start : Cursor} {r : HeadReadings}
    (some_ : r.samples ≠ [] ∨ r.cursor.isSome = true) :
    .scanSamples h r.samples r.cursor ∈ sampleNotices h (some (.scan m start)) r := by
  refine mem_noticeIf.mpr ⟨?_, rfl⟩
  rcases some_ with samples | cursor
  · simp [samples]
  · simp [cursor]

/-- The whole report in one statement: the head's record, the notices handed on, and the timer. -/
theorem reportedAtWork_taken (s : State) (h : HeadId) (r : HeadReadings) (moved : Bool) {k : HeadTask}
    (task : (s.head h).task = some k) : ∃ c,
    ReportTaken s (reportedAtWork s h r moved) h r.cursor c
      (s.notices ++ reportNotices s h r ++ if r.taskDone = true then endNotices s h k else []) ∧
    c.latest = some (latestOf r) ∧ c.insertCount = wornCount s h r.passDone ∧
    (r.taskDone = true → c.state = .returning ∧ c.order = .ret ∧ c.task = none ∧
      ((reportedAtWork s h r moved).timers.get (.head h)).remaining = s.settings.headTimeout * 100) ∧
    (r.taskDone = false → c.state = (s.head h).state ∧ (reportedAtWork s h r moved).timers =
      if (headWorking (s.head h).state && moved) = true then s.timers.set (.head h)
        (startedRec s.timers.gateOpen (.head h) (s.timers.get (.head h)) (s.settings.headTimeout * 100))
      else s.timers) := by
  obtain ⟨taken, timers, settings⟩ := progressed_taken s h r
  obtain ⟨state, latest, kind⟩ := progressedHead_keeps s h r
  obtain ⟨t, ht⟩ : ∃ t, t = if (headWorking (s.head h).state && moved) = true then
    Machine.startTimer (progressed s h r) (.head h) else progressed s h r := ⟨_, rfl⟩
  have whole : reportedAtWork s h r moved = if r.taskDone then endTask t h else t := by rw [ht]; rfl
  have on : ReportTaken s t h r.cursor (progressedHead s h r) (s.notices ++ reportNotices s h r) := by
    rw [ht]
    split
    · exact taken.startTimer
    · exact taken
  have clock : t.timers = if (headWorking (s.head h).state && moved) = true then s.timers.set (.head h)
        (startedRec s.timers.gateOpen (.head h) (s.timers.get (.head h)) (s.settings.headTimeout * 100))
      else s.timers := by
    rw [ht, ← timers, ← settings]
    split <;> rfl
  have unit : t.settings = s.settings := by
    rw [ht, ← settings]
    split <;> rfl
  rw [whole]
  cases done : r.taskDone with
  | false =>
    rw [if_neg Bool.false_ne_true, if_neg Bool.false_ne_true, List.append_nil]
    exact ⟨_, on, latest, rfl, fun z => (nomatch z), fun _ => ⟨state, clock⟩⟩
  | true =>
    obtain ⟨k', own⟩ : ∃ k', (progressedHead s h r).task = some k' := by
      rw [task] at kind
      exact Option.map_eq_some_iff.mp kind |>.imp fun _ both => both.1
    have sameKind : taskKind k' = taskKind k := by
      rw [own, task] at kind
      exact Option.some.inj kind
    obtain ⟨ended, remaining⟩ := on.endTask own
    have notices : endNotices s h k' = endNotices s h k := by unfold endNotices; rw [sameKind]
    rw [notices] at ended
    rw [if_pos rfl, if_pos rfl]
    exact ⟨_, ended, latest, rfl, fun _ => ⟨rfl, rfl, rfl, by rw [remaining, unit]⟩, fun z => nomatch z⟩

/-- Settles O34: the report is taken, the channel goes on and the task ends, each step by its own lemma. -/
theorem headReportsAdvanceWork : Obligations.HeadReportsAdvanceWork := by
  intro s h r rest k moved w atWork task hmoved
  obtain ⟨c, taken, latest, worn, ended, goesOn⟩ := reportedAtWork_taken (s.setNotices rest) h r moved (k := k) task
  have due : insertDuePosted (s.setNotices rest) h r.passDone = insertDuePosted s h r.passDone :=
    insertDuePosted_congr (s := s) rfl rfl rfl _
  have made : headReported (s.setNotices rest) h r = reportedAtWork (s.setNotices rest) h r moved := by
    rw [hmoved]
    exact headReported_atWork r atWork
  have e : exec (.headReport h) s = .next (reportedAtWork (s.setNotices rest) h r moved) :=
    event_notice_quiet w made taken.settle
  have frame : onlyChanges [.heads, .timers, .stations] s (reportedAtWork (s.setNotices rest) h r moved) :=
    ((onlyChanges_refl _ s).setNotices rest).trans taken.frame
  have station := taken.station
  have notices := taken.notices
  have head := taken.head
  unfold reportNotices passNotices endNotices at notices
  rw [due] at notices
  change _ = ((rest ++ _) ++ _) at notices
  have inHand : operationInHand (s.setNotices rest) h.station = operationInHand s h.station := rfl
  simp only [inHand] at notices
  refine ⟨_, e, ?_, taken.only, frame, by rw [head]; exact latest, fun st => ?_, fun st d => ?_, by rw [head]; exact worn,
    fun n mem => ?_, fun inHand => ?_, fun idle => ?_, fun done => ?_, fun done => ?_⟩
  · exact ⟨_, by rw [notices, List.append_assoc]⟩
  · rw [station]
    split <;> rfl
  · rw [station]
    by_cases taken : st = h.station ∧ r.cursor.isSome = true ∧ operationInHand (s.setNotices rest) h.station = true
    · obtain ⟨own, sent, inHand⟩ := taken
      rw [if_pos ⟨own, sent, inHand⟩]
      by_cases side : d = h.side
      · rw [side, if_pos ⟨own, rfl, sent, inHand⟩]
        exact PerSide.get_set_same _ _ _
      · rw [if_neg (fun all => side all.2.1)]
        exact PerSide.get_set_ne _ side _
    · rw [if_neg taken, if_neg (fun all => taken ⟨all.1, all.2.2⟩)]
      rfl
  · rw [notices]
    simp [mem]
  · rw [if_pos inHand, if_pos inHand, if_pos inHand] at notices
    rw [notices]
    refine ⟨fun n pass => by simp [pass], fun start walk some_ => ?_, fun m start scan some_ => ?_, fun done => by simp [done]⟩
    · have mem := mem_sampleNotices_walk (h := h) (start := start) some_
      rw [← walk, ← task] at mem
      have mem : _ ∈ sampleNotices h ((s.setNotices rest).head h).task r := mem
      simp [mem]
    · have mem := mem_sampleNotices_scan (h := h) (m := m) (start := start) some_
      rw [← scan, ← task] at mem
      have mem : _ ∈ sampleNotices h ((s.setNotices rest).head h).task r := mem
      simp [mem]
  · rw [notices]
    simp [idle]
  · rw [head]
    exact ended done
  · obtain ⟨state, timers⟩ := goesOn done
    rw [head]
    refine ⟨state, fun working moved => ?_, fun still => ?_⟩
    · rw [timers]
      exact if_pos (by rw [moved]; exact (Bool.and_true _).trans working)
    · rw [timers]
      refine if_neg ?_
      rcases still with still | paused
      · simp [still]
      · have : ((s.setNotices rest).head h).state = .paused := paused
        simp [this, headWorking]

end Sys2Proof.Machine


/-! ### The arithmetic of planning (R153 to R160) -/

namespace Sys2Proof.Machine

/-- A quotient rounded up is at most `k` where `k` divisors hold the dividend. -/
theorem ceilDiv_le_iff {a b k : Int} (pos : 0 < b) : ceilDiv a b ≤ k ↔ a ≤ k * b := by
  unfold ceilDiv
  rw [Int.ediv_le_iff_le_mul pos]
  constructor <;> intro h <;> linarith

/-- The dividend lies within the rounded quotient's divisors, and above those of one less. -/
theorem ceilDiv_bounds {a b : Int} (pos : 0 < b) : a ≤ ceilDiv a b * b ∧ ceilDiv a b * b < a + b := by
  refine ⟨(ceilDiv_le_iff pos).mp le_rfl, ?_⟩
  have := Int.ediv_mul_le (a + b - 1) (Int.ne_of_gt pos)
  unfold ceilDiv
  omega

theorem le_roundUp5 (a : Int) : a ≤ roundUp5 a := by
  have := (ceilDiv_bounds (a := a) (b := 5) (by decide)).1
  unfold roundUp5
  omega

theorem governing_greatest (terms : List (GoverningTerm × Int)) : ∀ x ∈ terms, x.2 ≤ (governing terms).2 := by
  induction terms with
  | nil => simp
  | cons x xs ih =>
    cases xs with
    | nil => simp [governing]
    | cons y ys =>
      intro z mem
      unfold governing
      rcases List.mem_cons.mp mem with here | there
      · subst here
        split <;> omega
      · have := ih z there
        split <;> omega

/-- The radial cut takes a wheel to the target or less than 10 below it. -/
theorem radialCut_bounds (d t : Geometry) : d - 2 * radialCut d t ≤ t ∧ t - 10 < d - 2 * radialCut d t := by
  obtain ⟨enough, tight⟩ := ceilDiv_bounds (a := d - t) (b := 10) (by decide)
  have cut : radialCut d t = 5 * ceilDiv (d - t) 10 := rfl
  unfold Geometry at *
  omega

theorem dvd_radialCut (d t : Geometry) : (5 : Int) ∣ radialCut d t := ⟨_, rfl⟩

theorem PerSide.get_map {α β : Type} (f : α → β) (p : PerSide α) (d : Side) : (p.map f).get d = f (p.get d) := by
  cases d <;> rfl

/-- The target of a computation: no wheel's requirement and no ceiling lies below it (R154). -/
theorem compute_target (p : Profile) (ceiling : Option Geometry) (rs : PerSide TraceResults) :
    (∀ d, (compute p ceiling rs).target ≤ (requireWheel p (rs.get d)).traced - 2 * (requireWheel p (rs.get d)).a) ∧
    ∀ x, ceiling = some x → (compute p ceiling rs).target ≤ x := by
  obtain ⟨two, htwo⟩ : ∃ two, two = (compute p ceiling rs).stepTwo := ⟨_, rfl⟩
  have below (d : Side) : two ≤ (requireWheel p (rs.get d)).traced - 2 * (requireWheel p (rs.get d)).a := by
    rw [htwo]
    cases d
    · exact min_le_left _ _
    · exact min_le_right _ _
  cases ceiling with
  | none =>
    have target : (compute p none rs).target = two := by rw [htwo]; rfl
    exact ⟨fun d => target ▸ below d, fun x h => nomatch h⟩
  | some c =>
    have target : (compute p (some c) rs).target = if decide (c < two) = true then c else two := by rw [htwo]; rfl
    rw [target]
    by_cases lower : c < two
    · rw [if_pos (decide_eq_true lower)]
      exact ⟨fun d => lower.le.trans (below d), fun x h => (Option.some.inj h).le⟩
    · rw [if_neg (by simpa using lower)]
      exact ⟨below, fun x h => Option.some.inj h ▸ not_lt.mp lower⟩

/-- A wheel of a computation, as its steps 1 and 4 form it. -/
theorem compute_wheel (p : Profile) (ceiling : Option Geometry) (rs : PerSide TraceResults) (d : Side) :
    (compute p ceiling rs).wheels.get d = formWheel (compute p ceiling rs).target (requireWheel p (rs.get d)) := by
  change (formWheels _ (rs.map (requireWheel p))).get d = _
  unfold formWheels
  rw [PerSide.get_map, PerSide.get_map]
  rfl

/-- The bounds of one wheel of a computation (R153 to R155). -/
theorem compute_bounds (p : Profile) (ceiling : Option Geometry) (rs : PerSide TraceResults) (d : Side) {c : Calc}
    {w : WheelCalc} (hc : c = compute p ceiling rs) (hw : w = c.wheels.get d) :
    ((5 : Int) ∣ w.a) ∧ (∀ x ∈ requirementTerms p (rs.get d), x.2 ≤ w.a) ∧ w.traced = (rs.get d).d.getD 0 ∧
    c.target ≤ w.traced - 2 * w.a ∧ ((5 : Int) ∣ w.c) ∧ w.a ≤ w.c ∧ w.final = w.traced - 2 * w.c ∧
    w.final ≤ c.target ∧ c.target - 10 < w.final := by
  have target := (compute_target p ceiling rs).1 d
  rw [← hc] at target
  have wheel : w = formWheel c.target (requireWheel p (rs.get d)) := by
    rw [hw, hc]
    exact compute_wheel p ceiling rs d
  have a : w.a = roundUp5 (governing (requirementTerms p (rs.get d))).2 := by rw [wheel]; rfl
  have traced : w.traced = (requireWheel p (rs.get d)).traced := by rw [wheel]; rfl
  have required : (requireWheel p (rs.get d)).a = w.a := by rw [wheel]; rfl
  have cut : w.c = radialCut w.traced c.target := by rw [wheel]; rfl
  have final : w.final = w.traced - 2 * w.c := by rw [wheel]; rfl
  have five : (5 : Int) ∣ w.a := a ▸ ⟨_, rfl⟩
  rw [← traced, required] at target
  obtain ⟨upper, lower⟩ := radialCut_bounds w.traced c.target
  rw [← cut, ← final] at upper lower
  have dvd : (5 : Int) ∣ w.c := cut ▸ dvd_radialCut _ _
  refine ⟨five, fun x mem => ?_, traced.trans rfl, target, dvd, ?_, final, upper, lower⟩
  · rw [a]
    exact (governing_greatest _ x mem).trans (le_roundUp5 _)
  · have below : w.traced - 2 * w.c ≤ w.traced - 2 * w.a := final ▸ upper.trans target
    exact le_of_mul_le_mul_left (sub_le_sub_iff_left _ |>.mp below) (by decide)

/-! ### Bogie matching (R157) -/

/-- Lowering a pair's member leaves it alone where its target lies within the limit, and marks it where it does not. -/
theorem lowerTo_adopted (limit : Geometry) (slot : Nat) (p : Profile) (fb : Bool) (c : Calc) (low : Bool) : ∃ d m,
    lowerTo limit (.adopted slot p fb c low) = .adopted slot p fb d m ∧ d.target = min c.target limit ∧
    (m = true ↔ low = true ∨ limit < c.target) ∧ (c.target ≤ limit → d = c) := by
  unfold lowerTo
  dsimp only
  by_cases above : limit < c.target
  · rw [if_pos above]
    exact ⟨_, _, rfl, (min_eq_right above.le).symm, by simp [above], fun within => absurd above (not_lt.mpr within)⟩
  · rw [if_neg above]
    exact ⟨_, _, rfl, (min_eq_left (not_lt.mp above)).symm, by simp [above], fun _ => rfl⟩

theorem matchBogie_adopted {btol : Geometry} (tolerant : 0 ≤ btol) (sa sb : Nat) (pa pb : Profile) (fa fb : Bool)
    (ca cb : Calc) (la lb : Bool) : ∃ da db ma mb,
    matchBogie btol (.adopted sa pa fa ca la) (.adopted sb pb fb cb lb) =
      (.adopted sa pa fa da ma, .adopted sb pb fb db mb) ∧
    da.target = min ca.target (cb.target + btol) ∧ db.target = min cb.target (ca.target + btol) ∧
    (ma = true ↔ la = true ∨ cb.target + btol < ca.target) ∧ (mb = true ↔ lb = true ∨ ca.target + btol < cb.target) ∧
    (ca.target ≤ cb.target + btol → da = ca) ∧ (cb.target ≤ ca.target + btol → db = cb) := by
  have within {x y : Geometry} (le : x ≤ y) : x ≤ y + btol := le.trans (le_add_of_nonneg_right tolerant)
  have untouched {x y : Geometry} (le : x ≤ y) (low : Bool) :
      x = min x (y + btol) ∧ (low = true ↔ low = true ∨ y + btol < x) :=
    ⟨(min_eq_left (within le)).symm, by simp [not_lt.mpr (within le)]⟩
  unfold matchBogie
  dsimp only
  by_cases higher : cb.target < ca.target
  · obtain ⟨da, ma, made, target, mark, kept⟩ := lowerTo_adopted (cb.target + btol) sa pa fa ca la
    obtain ⟨same, still⟩ := untouched higher.le lb
    rw [if_pos higher, made]
    exact ⟨da, cb, ma, lb, rfl, target, same, mark, still, kept, fun _ => rfl⟩
  · obtain ⟨same, still⟩ := untouched (not_lt.mp higher) la
    rw [if_neg higher]
    by_cases lower : ca.target < cb.target
    · obtain ⟨db, mb, made, target, mark, kept⟩ := lowerTo_adopted (ca.target + btol) sb pb fb cb lb
      rw [if_pos lower, made]
      exact ⟨ca, db, la, mb, rfl, same, target, still, mark, fun _ => rfl, kept⟩
    · obtain ⟨sameB, stillB⟩ := untouched (not_lt.mp lower) lb
      rw [if_neg lower]
      exact ⟨ca, cb, la, lb, rfl, same, sameB, still, stillB, fun _ => rfl, fun _ => rfl⟩

theorem matchBogie_condemned (btol : Geometry) (a b : Planned)
    (condemned : a = .flagged ∨ (∃ c f, a = .scrap c f) ∨ b = .flagged ∨ ∃ c f, b = .scrap c f) :
    matchBogie btol a b = (a, b) := by
  rcases condemned with rfl | ⟨c, f, rfl⟩ | rfl | ⟨c, f, rfl⟩
  · rfl
  · rfl
  · cases a <;> rfl
  · cases a <;> rfl

/-- Settles O48: each bound is one of the computation's wheel, and matching lowers at most the larger target. -/
theorem planArithmeticBounds : Obligations.PlanArithmeticBounds := by
  refine ⟨fun p ceiling rs d c w hc hw => ?_, fun btol a b tolerant => ⟨?_, matchBogie_condemned btol a b⟩⟩
  · obtain ⟨five, terms, traced, target, dvd, enough, final, upper, lower⟩ := compute_bounds p ceiling rs d hc hw
    obtain ⟨-, -, -, -, -, -, -, upperL, lowerL⟩ := compute_bounds p ceiling rs .L hc rfl
    obtain ⟨-, -, -, -, -, -, -, upperR, lowerR⟩ := compute_bounds p ceiling rs .R hc rfl
    have cleanUp := terms (.cleanUp, max 0 p.cmin) (by simp [requirementTerms])
    refine ⟨five, terms, (le_max_left _ _).trans cleanUp, (le_max_right _ _).trans cleanUp, traced, target,
      fun x h => hc ▸ (compute_target p ceiling rs).2 x h, dvd, enough, final, upper, lower, ?_, ?_⟩
    · exact sub_lt_comm.mp (lt_of_le_of_lt (sub_le_sub_right upperL 10) lowerR)
    · exact sub_lt_comm.mp (lt_of_le_of_lt (sub_le_sub_right upperR 10) lowerL)
  · rintro sa pa fa ca la sb pb fb cb lb rfl rfl
    exact matchBogie_adopted tolerant sa sb pa pb fa fb ca cb la lb

/-! ### The pass list (R160) -/

/-- Division into passes, in multiples of 5: the count is the fewest that hold the cut, all but the last are equally deep,
and the last takes what they leave. -/
theorem passes_arithmetic {m q n e : Int} (cut : 0 < m) (limit : 0 < q) (count : n = ceilDiv m q) (depth : e = ceilDiv m n) :
    1 ≤ n ∧ (n - 1) * q < m ∧ m ≤ n * q ∧ 1 ≤ e ∧ e ≤ q ∧ 1 ≤ m - (n - 1) * e ∧ m - (n - 1) * e ≤ e := by
  obtain ⟨holds, few⟩ := ceilDiv_bounds (a := m) limit
  rw [← count] at holds few
  have pos : 1 ≤ n := by
    by_contra none
    have : n * q ≤ 0 := Int.mul_nonpos_of_nonpos_of_nonneg (by omega) limit.le
    omega
  obtain ⟨enough, -⟩ := ceilDiv_bounds (a := m) (b := n) (by omega)
  have within : e ≤ q := by
    rw [depth]
    exact (ceilDiv_le_iff (by omega)).mpr (by rw [Int.mul_comm]; exact holds)
  rw [← depth] at enough
  have deep : 1 ≤ e := by
    by_contra none
    have : e * n ≤ 0 := Int.mul_nonpos_of_nonpos_of_nonneg (by omega) (by omega)
    omega
  have others : (n - 1) * e ≤ (n - 1) * q := Int.mul_le_mul_of_nonneg_left within (by omega)
  have split : (n - 1) * q = n * q - q := by ring
  have same : (n - 1) * e = e * n - e := by ring
  omega

theorem ceilDiv_mul_mul {a b k : Int} (pos : 0 < k) (divisor : 0 < b) : ceilDiv (k * a) (k * b) = ceilDiv a b := by
  have all (x : Int) : ceilDiv (k * a) (k * b) ≤ x ↔ ceilDiv a b ≤ x := by
    rw [ceilDiv_le_iff (Int.mul_pos pos divisor), ceilDiv_le_iff divisor, Int.mul_left_comm]
    exact Int.mul_le_mul_left pos
  exact le_antisymm ((all _).mpr le_rfl) ((all _).mp le_rfl)

/-- A list without recut passes: equal passes, then the last. -/
theorem passList_eq {x : WheelPlan} {k : Nat} (count : x.count = k + 1) (recuts : x.recuts = 0) : passList x =
    (List.range k).map (fun i => { number := i + 1, depth := x.depth }) ++ [{ number := k + 1, depth := x.last }] := by
  have others : (List.range k).map (fun i => ({ number := i + 1, depth := if i + 1 = k + 1 then x.last else x.depth } : Pass)) =
      (List.range k).map (fun i => { number := i + 1, depth := x.depth }) := by
    refine List.map_congr_left fun i mem => ?_
    rw [if_neg (by have := List.mem_range.mp mem; omega)]
  unfold passList
  rw [recuts, count, List.range_succ, List.map_append, others]
  simp

/-- A cut of one wheel divided by `dividePasses`, in multiples of 5. -/
theorem dividePasses_eq {q m : Int} {w : WheelCalc} (limit : 0 < q) (cut : 0 < m) (hc : w.c = 5 * m) :
    ∃ n e : Int, n = ceilDiv m q ∧ e = ceilDiv m n ∧ 1 ≤ n ∧ (dividePasses (5 * q) w).count = n.toNat ∧
      (dividePasses (5 * q) w).depth = 5 * e ∧ (dividePasses (5 * q) w).last = 5 * (m - (n - 1) * e) ∧
      (dividePasses (5 * q) w).recuts = 0 := by
  obtain ⟨pos, -⟩ := passes_arithmetic cut limit rfl rfl
  have whole : max 1 (ceilDiv w.c (5 * q)) = ceilDiv m q := by
    rw [hc, ceilDiv_mul_mul (by decide) limit]
    exact max_eq_right pos
  have deep : ceilDiv w.c (5 * ceilDiv m q) = ceilDiv m (ceilDiv m q) := by
    rw [hc]
    exact ceilDiv_mul_mul (by decide) pos
  refine ⟨_, _, rfl, rfl, pos, ?_, ?_, ?_, rfl⟩
  · change (max 1 (ceilDiv w.c (5 * q))).toNat = _
    rw [whole]
  · change 5 * ceilDiv w.c (5 * max 1 (ceilDiv w.c (5 * q))) = _
    rw [whole, deep]
  · change w.c - (max 1 (ceilDiv w.c (5 * q)) - 1) * (5 * ceilDiv w.c (5 * max 1 (ceilDiv w.c (5 * q)))) = _
    rw [whole, deep, hc]
    ring

/-- Settles O49: the passes in multiples of 5 take the cut exactly, and one pass fewer would not. -/
theorem passesTakeTheCut : Obligations.PassesTakeTheCut := by
  rintro pm w x limit ⟨q, rfl⟩ cut ⟨m, hc⟩ rfl
  have limit : 0 < q := pos_of_mul_pos_right limit (by decide)
  have positive : 0 < m := pos_of_mul_pos_right (hc ▸ cut : (0 : Int) < 5 * m) (by decide)
  obtain ⟨n, e, hn, he, pos, count, depth, last, recuts⟩ := dividePasses_eq (w := w) limit positive hc
  obtain ⟨-, few, holds, deep, within, some_, shallow⟩ := passes_arithmetic positive limit hn he
  generalize dividePasses (5 * q) w = x at *
  obtain ⟨k, rfl⟩ : ∃ k : Nat, n = k + 1 := ⟨(n - 1).toNat, by omega⟩
  have passes : x.count = k + 1 := by omega
  have rest : ((k : Int) + 1 - 1) = k := by ring
  rw [rest] at few last some_ shallow
  rw [passList_eq passes recuts, passes, depth, last, hc]
  refine ⟨?_, ?_, ?_, ?_, ?_, ?_⟩
  · simp [List.range_succ]
  · rw [List.map_append, List.map_map, List.sum_append]
    have constant : (List.range k).map ((·.depth) ∘ fun i => ({ number := i + 1, depth := 5 * e } : Pass)) =
        List.replicate k (5 * e) := by
      rw [List.eq_replicate_iff]
      simp
    rw [constant, List.sum_replicate]
    simp
    ring
  · intro pass mem
    rcases List.mem_append.mp mem with other | final
    · obtain ⟨i, -, rfl⟩ := List.mem_map.mp other
      exact ⟨by change (5 : Int) ≤ 5 * e; omega, by change 5 * e ≤ 5 * q; omega, ⟨_, rfl⟩⟩
    · rw [List.mem_singleton.mp final]
      exact ⟨by change (5 : Int) ≤ 5 * _; omega, by change (5 : Int) * _ ≤ 5 * q; omega, ⟨_, rfl⟩⟩
  · change (5 : Int) * _ ≤ 5 * _
    omega
  · calc ((↑(k + 1) : Int) - 1) * (5 * q) = 5 * (k * q) := by push_cast; ring
      _ < 5 * m := by omega
  · calc 5 * m ≤ 5 * ((k + 1) * q) := by omega
      _ = (↑(k + 1) : Int) * (5 * q) := by push_cast; ring

end Sys2Proof.Machine

/-! ### The extraction (R117 to R126) -/

namespace Sys2Proof.Machine

theorem roundHalfUp_iff {q a b : Int} (pos : 0 < b) : roundHalfUp a b = q ↔ roundsHalfUp q a b := by
  unfold roundHalfUp roundsHalfUp
  rw [Int.ediv_eq_iff_of_pos (by omega)]
  constructor
  · rintro ⟨low, high⟩
    exact ⟨by linarith, by linarith⟩
  · rintro ⟨low, high⟩
    exact ⟨by linarith, by linarith⟩

/-! ### The circumferential sweep -/

theorem greatest_spec {rs : List Geometry} (some_ : rs ≠ []) : greatest rs ∈ rs ∧ ∀ x ∈ rs, x ≤ greatest rs := by
  induction rs with
  | nil => exact absurd rfl some_
  | cons x xs ih =>
    cases xs with
    | nil => simp [greatest]
    | cons y ys =>
      obtain ⟨mem, all⟩ := ih (by simp)
      have made : greatest (x :: y :: ys) = max x (greatest (y :: ys)) := rfl
      rw [made]
      constructor
      · rcases max_choice x (greatest (y :: ys)) with left | right
        · rw [left]
          exact List.mem_cons_self
        · rw [right]
          exact List.mem_cons_of_mem _ mem
      · intro z hz
        rcases List.mem_cons.mp hz with rfl | there
        · exact le_max_left _ _
        · exact (all z there).trans (le_max_right _ _)

theorem least_spec {rs : List Geometry} (some_ : rs ≠ []) : least rs ∈ rs ∧ ∀ x ∈ rs, least rs ≤ x := by
  induction rs with
  | nil => exact absurd rfl some_
  | cons x xs ih =>
    cases xs with
    | nil => simp [least]
    | cons y ys =>
      obtain ⟨mem, all⟩ := ih (by simp)
      have made : least (x :: y :: ys) = min x (least (y :: ys)) := rfl
      rw [made]
      constructor
      · rcases min_choice x (least (y :: ys)) with left | right
        · rw [left]
          exact List.mem_cons_self
        · rw [right]
          exact List.mem_cons_of_mem _ mem
      · intro z hz
        rcases List.mem_cons.mp hz with rfl | there
        · exact min_le_left _ _
        · exact (min_le_right _ _).trans (all z there)

theorem total_eq_sum (rs : List Geometry) : total rs = rs.sum := by
  induction rs with
  | nil => rfl
  | cons x xs ih => rw [List.sum_cons, ← ih]; rfl

theorem sweepFigures_of_ne_nil {rs : List Geometry} (some_ : rs ≠ []) : sweepFigures rs (diameterOf rs) (outOfRound rs) := by
  obtain ⟨greatMem, great⟩ := greatest_spec some_
  obtain ⟨leastMem, least_⟩ := least_spec some_
  have pos : (0 : Int) < rs.length := by exact_mod_cast List.length_pos_of_ne_nil some_
  refine ⟨⟨roundHalfUp (total rs) rs.length, ?_, rfl⟩, greatest rs, greatMem, least rs, leastMem,
    fun x mem => ⟨least_ x mem, great x mem⟩, rfl⟩
  rw [← total_eq_sum]
  exact (roundHalfUp_iff pos).mp rfl

theorem outOfRound_nonneg (rs : List Geometry) : 0 ≤ outOfRound rs := by
  by_cases none_ : rs = []
  · subst none_
    decide
  · exact sub_nonneg.mpr ((least_spec none_).2 _ (greatest_spec none_).1)

theorem goodRadius_eq_some {o : Option Reading} {x : Geometry} :
    goodRadius o = some x ↔ ∃ y, o = some y ∧ y.status = .good ∧ y.radius = x := by
  unfold goodRadius
  cases o with
  | none => simp
  | some r => by_cases good : r.status = .good <;> simp [good]

theorem mem_goodRadii {xs : List (Nat × Reading)} {x : Geometry} :
    x ∈ goodRadii xs ↔ ∃ i y, i < 64 ∧ sparseGet xs i = some y ∧ y.status = .good ∧ y.radius = x := by
  simp [goodRadii, List.mem_filterMap, goodRadius_eq_some]

/-- Of the points of a phase, each either has a GOOD radius or is missing. -/
theorem length_goodRadii (xs : List (Nat × Reading)) : (goodRadii xs).length + missingCount 64 xs = 64 := by
  have count (is : List Nat) : (is.filterMap (fun i => goodRadius (sparseGet xs i))).length +
      (is.filter (fun i => (goodRadius (sparseGet xs i)).isNone)).length = is.length := by
    induction is with
    | nil => rfl
    | cons i is ih =>
      cases found : goodRadius (sparseGet xs i) with
      | none => simp [found, ← ih]; omega
      | some x => simp [found, ← ih]; omega
  exact (count _).trans List.length_range

/-! ### The flange tip (R121) -/

/-- The tip among the points given, which stand in rising order. -/
theorem flangeTip_spec (h : Nat → Option Geometry) {is : List Nat} (rising : is.Pairwise (· < ·)) :
    (flangeTip h is = none ↔ ∀ i ∈ is, h i = none) ∧
    ∀ tip sh, flangeTip h is = some (tip, sh) →
      tip ∈ is ∧ h tip = some sh ∧ ∀ i ∈ is, ∀ y, h i = some y → y ≤ sh ∧ (y = sh → tip ≤ i) := by
  induction is with
  | nil => simp [flangeTip]
  | cons i is ih =>
    obtain ⟨first, rest⟩ := List.pairwise_cons.mp rising
    obtain ⟨none_, found⟩ := ih rest
    unfold flangeTip
    cases here : h i with
    | none =>
      refine ⟨by simp [here, none_], fun tip sh e => ?_⟩
      obtain ⟨mem, height, top⟩ := found tip sh e
      refine ⟨List.mem_cons_of_mem _ mem, height, fun j hj y hy => ?_⟩
      rcases List.mem_cons.mp hj with rfl | there
      · exact absurd (here.symm.trans hy) (by simp)
      · exact top j there y hy
    | some x =>
      cases later : flangeTip h is with
      | none =>
        refine ⟨by simp [here], fun tip sh e => ?_⟩
        obtain ⟨rfl, rfl⟩ := Prod.mk.inj (Option.some.inj e)
        refine ⟨List.mem_cons_self, here, fun j hj y hy => ?_⟩
        rcases List.mem_cons.mp hj with rfl | there
        · exact ⟨(Option.some.inj (here.symm.trans hy)).ge, fun _ => le_rfl⟩
        · exact absurd ((none_.mp later j there).symm.trans hy) (by simp)
      | some best =>
        obtain ⟨j, y⟩ := best
        obtain ⟨mem, height, top⟩ := found j y later
        refine ⟨by dsimp only; split <;> simp [here], fun tip sh e => ?_⟩
        by_cases less : x < y
        · obtain ⟨rfl, rfl⟩ := Prod.mk.inj (Option.some.inj ((if_pos less).symm.trans e))
          refine ⟨List.mem_cons_of_mem _ mem, height, fun k hk z hz => ?_⟩
          rcases List.mem_cons.mp hk with rfl | there
          · have same : x = z := Option.some.inj (here.symm.trans hz)
            exact ⟨same ▸ less.le, fun equal => absurd (same.trans equal) less.ne⟩
          · exact top k there z hz
        · obtain ⟨rfl, rfl⟩ := Prod.mk.inj (Option.some.inj ((if_neg less).symm.trans e))
          refine ⟨List.mem_cons_self, here, fun k hk z hz => ?_⟩
          rcases List.mem_cons.mp hk with rfl | there
          · exact ⟨(Option.some.inj (here.symm.trans hz)).ge, fun _ => le_rfl⟩
          · exact ⟨(top k there z hz).1.trans (not_lt.mp less), fun _ => (first k there).le⟩

theorem pairwise_range_lt (n : Nat) : (List.range n).Pairwise (· < ·) := List.pairwise_lt_range

/-- The tip found among the points 0 to 40 is the one that R121 names. -/
theorem tipOf_of_flangeTip {h : Nat → Option Geometry} {sh : Geometry} {tip : Nat}
    (found : flangeTip h (List.range 41) = some (tip, sh)) : tipOf h sh tip := by
  obtain ⟨mem, height, top⟩ := (flangeTip_spec h (pairwise_range_lt 41)).2 tip sh found
  exact ⟨by have := List.mem_range.mp mem; omega, height,
    fun i y low hy => top i (List.mem_range.mpr (by omega)) y hy⟩

theorem tipOf_unique {h : Nat → Option Geometry} {sh sh' : Geometry} {tip tip' : Nat} (a : tipOf h sh tip)
    (b : tipOf h sh' tip') : tip = tip' ∧ sh = sh' := by
  obtain ⟨lowA, heightA, topA⟩ := a
  obtain ⟨lowB, heightB, topB⟩ := b
  obtain ⟨le, first⟩ := topA tip' sh' lowB heightB
  obtain ⟨ge, first'⟩ := topB tip sh lowA heightA
  have same := le_antisymm ge le
  exact ⟨Nat.le_antisymm (first same.symm) (first' same), same⟩

theorem flangeTip_of_tipOf {h : Nat → Option Geometry} {sh : Geometry} {tip : Nat} (named : tipOf h sh tip) :
    flangeTip h (List.range 41) = some (tip, sh) := by
  cases found : flangeTip h (List.range 41) with
  | none =>
    have none_ := (flangeTip_spec h (pairwise_range_lt 41)).1.mp found tip (List.mem_range.mpr (by have := named.1; omega))
    exact absurd (named.2.1.symm.trans none_) (by simp)
  | some best =>
    obtain ⟨tip', sh'⟩ := best
    obtain ⟨rfl, rfl⟩ := tipOf_unique named (tipOf_of_flangeTip found)
    rfl

/-! ### Crossings (R122) -/

theorem crossing_cons_of_not {h : Nat → Option Geometry} {level : Geometry} {i : Nat} {is : List Nat}
    (none_ : ¬ crossedAfter h level i) : crossing h level (i :: is) = crossing h level is := by
  conv_lhs => unfold crossing
  split
  next a b ha hb => exact if_neg fun between => none_ ⟨a, b, ha, hb, between.1, between.2⟩
  next => rfl
  next => rfl

theorem crossing_cons_of_crossed {h : Nat → Option Geometry} {level a b : Geometry} {i : Nat} {is : List Nat}
    (ha : h i = some a) (hb : h (i + 1) = some b) (above : level ≤ a) (below : b < level) :
    crossing h level (i :: is) = some (100 * (i : Int) + roundHalfUp (100 * (a - level)) (a - b)) := by
  unfold crossing
  simp [ha, hb, above, below]

theorem crossing_eq_none {h : Nat → Option Geometry} {level : Geometry} {is : List Nat}
    (none_ : ∀ i ∈ is, ¬ crossedAfter h level i) : crossing h level is = none := by
  induction is with
  | nil => rfl
  | cons i is ih =>
    rw [crossing_cons_of_not (none_ i List.mem_cons_self)]
    exact ih fun j mem => none_ j (List.mem_cons_of_mem _ mem)

theorem crossing_first {h : Nat → Option Geometry} {level a b : Geometry} {i : Nat} {is : List Nat}
    (rising : is.Pairwise (· < ·)) (mem : i ∈ is) (before : ∀ j ∈ is, j < i → ¬ crossedAfter h level j)
    (ha : h i = some a) (hb : h (i + 1) = some b) (above : level ≤ a) (below : b < level) :
    crossing h level is = some (100 * (i : Int) + roundHalfUp (100 * (a - level)) (a - b)) := by
  induction is with
  | nil => nomatch mem
  | cons j is ih =>
    obtain ⟨first, rest⟩ := List.pairwise_cons.mp rising
    rcases List.mem_cons.mp mem with rfl | there
    · exact crossing_cons_of_crossed ha hb above below
    · rw [crossing_cons_of_not (before j List.mem_cons_self (first i there))]
      exact ih rest there fun k hk => before k (List.mem_cons_of_mem _ hk)

theorem mem_pairsFrom {tip i : Nat} : i ∈ pairsFrom tip ↔ tip ≤ i ∧ i ≤ 138 := by
  simp [pairsFrom]
  omega

theorem crossing_of_noCrossing {h : Nat → Option Geometry} {level : Geometry} {tip : Nat} (none_ : noCrossing h level tip) :
    crossing h level (pairsFrom tip) = none :=
  crossing_eq_none fun i mem => none_ i (mem_pairsFrom.mp mem).1 (mem_pairsFrom.mp mem).2

theorem crossing_of_crossesAt {h : Nat → Option Geometry} {level x : Geometry} {tip : Nat}
    (named : crossesAt h level tip x) : crossing h level (pairsFrom tip) = some x := by
  obtain ⟨i, a, b, q, from_, upTo, before, ha, hb, above, below, rounds, rfl⟩ := named
  have q_eq : roundHalfUp (100 * (a - level)) (a - b) = q :=
    (roundHalfUp_iff (sub_pos.mpr (lt_of_lt_of_le below above))).mpr rounds
  have rising : (pairsFrom tip).Pairwise (· < ·) := (pairwise_range_lt 139).filter _
  rw [crossing_first rising (mem_pairsFrom.mpr ⟨from_, upTo⟩)
    (fun j mem => before j (mem_pairsFrom.mp mem).1) ha hb above below, q_eq]

/-! ### The steps in order -/

/-- The results known before the sweep's figures (R118, R119). -/
def countedResults (w : TraceRecord) (r70 : Geometry) : TraceResults :=
  { nothingDerived with
    r70 := some r70, missLateral := some (missingCount 140 w.lateral), missCirc := some (missingCount 64 w.circ) }

/-- The results once the sweep has given its figures (R120). -/
def sweptResults (w : TraceRecord) (r70 : Geometry) : TraceResults :=
  { countedResults w r70 with d := some (diameterOf (goodRadii w.circ)), f := some (outOfRound (goodRadii w.circ)) }

/-- An extraction's status and results, each failing step by its condition (R117 to R120). -/
theorem extract_eq (tolerance : Nat) (w : TraceRecord) : ∃ out, extract tolerance w =
      { w with status := out.1, results := out.2 } ∧
    (goodRadius (sparseGet w.lateral 70) = none → out = (.unresolved, nothingDerived)) ∧
    ∀ r70, goodRadius (sparseGet w.lateral 70) = some r70 → out =
      if tolerance < missingCount 140 w.lateral ∨ tolerance < missingCount 64 w.circ then (.incomplete, countedResults w r70)
      else if anySaturated w.circ then (.saturated, countedResults w r70)
      else extractFlange w r70 (sweptResults w r70) := by
  refine ⟨_, rfl, fun none_ => by rw [none_], fun r70 found => by rw [found]; rfl⟩

/-- What a GOOD outcome of the flange's steps has found (R121 to R123). -/
theorem extractFlange_good {w : TraceRecord} {r70 : Geometry} {res : TraceResults}
    (good : (extractFlange w r70 res).1 = .good) : ∃ tip sh sd xs, tipOf (heightAt w r70) sh tip ∧ 1000 ≤ sh ∧
      (extractFlange w r70 res).2 = { res with
        sh := some sh, tip := some tip, sd := some sd, xs := some xs, qr := some (sd - xs) } := by
  unfold extractFlange at good ⊢
  dsimp only at good ⊢
  cases tipFound : flangeTip (heightAt w r70) (List.range 41) with
  | none => rw [tipFound] at good; exact nomatch good
  | some best =>
    obtain ⟨tip, sh⟩ := best
    rw [tipFound] at good
    dsimp only at good ⊢
    by_cases low : sh < 1000
    · rw [if_pos low] at good
      exact nomatch good
    · rw [if_neg low] at good ⊢
      cases sdFound : crossing (heightAt w r70) 1000 (pairsFrom tip) with
      | none => rw [sdFound] at good; exact nomatch good
      | some sd =>
        rw [sdFound] at good
        dsimp only at good ⊢
        cases xsFound : crossing (heightAt w r70) (sh - 200) (pairsFrom tip) with
        | none => rw [xsFound] at good; exact nomatch good
        | some xs => exact ⟨tip, sh, sd, xs, tipOf_of_flangeTip tipFound, not_lt.mp low, rfl⟩

/-- The flange's steps fail without a tip. -/
theorem extractFlange_no_tip {w : TraceRecord} {r70 : Geometry} (res : TraceResults)
    (none_ : ∀ i, i ≤ 40 → heightAt w r70 i = none) : extractFlange w r70 res = (.unresolved, res) := by
  have nothing : flangeTip (heightAt w r70) (List.range 41) = none :=
    (flangeTip_spec _ (pairwise_range_lt 41)).1.mpr fun i mem => none_ i (by have := List.mem_range.mp mem; omega)
  unfold extractFlange
  dsimp only
  rw [nothing]

/-- The flange's steps where a crossing is missing or both are there. -/
theorem extractFlange_steps {w : TraceRecord} {r70 sh : Geometry} {tip : Nat} (res : TraceResults)
    (named : tipOf (heightAt w r70) sh tip) :
    (sh < 1000 ∨ noCrossing (heightAt w r70) 1000 tip →
      extractFlange w r70 res = (.unresolved, { res with sh := some sh, tip := some tip })) ∧
    ∀ sd, 1000 ≤ sh → crossesAt (heightAt w r70) 1000 tip sd →
      (noCrossing (heightAt w r70) (sh - 200) tip →
        extractFlange w r70 res = (.unresolved, { res with sh := some sh, tip := some tip, sd := some sd })) ∧
      ∀ xs, crossesAt (heightAt w r70) (sh - 200) tip xs → extractFlange w r70 res =
        (.good, { res with sh := some sh, tip := some tip, sd := some sd, xs := some xs, qr := some (sd - xs) }) := by
  unfold extractFlange
  dsimp only
  rw [flangeTip_of_tipOf named]
  dsimp only
  refine ⟨fun fails => ?_, fun sd high first => ?_⟩
  · by_cases low : sh < 1000
    · rw [if_pos low]
    · rw [if_neg low, crossing_of_noCrossing (fails.resolve_left low)]
  · rw [if_neg (not_lt.mpr high), crossing_of_crossesAt first]
    exact ⟨fun none_ => by rw [crossing_of_noCrossing none_], fun xs second => by rw [crossing_of_crossesAt second]⟩

/-! ### Limit checks and the trace formed (R124 to R127) -/

theorem checkLimit_some (p : Param) (wheel : FindingWheel) (x : LimitLine) (v : Geometry) :
    checkLimit p wheel x (some v) = if lineAction x (bandOutcome x v) = .nothing then [] else
      [{ kind := .param p, wheel := wheel, outcome := some (bandOutcome x v)
         hold := decide (lineAction x (bandOutcome x v) = .hold), v1 := some v, v2 := some x.lo, v3 := some x.hi }] := by
  unfold checkLimit
  dsimp only
  cases lineAction x (bandOutcome x v) <;> rfl

theorem length_checkLimit_le (p : Param) (wheel : FindingWheel) (x : LimitLine) (v : Option Geometry) :
    (checkLimit p wheel x v).length ≤ 1 := by
  cases v with
  | none => exact Nat.zero_le 1
  | some v =>
    rw [checkLimit_some]
    split <;> simp

theorem length_checkWheel_le (set : LimitSet) (d : Side) (r : TraceResults) : (checkWheel set d r).length ≤ 4 := by
  unfold checkWheel
  have sh := length_checkLimit_le .sh (.wheel d) set.sh r.sh
  have sd := length_checkLimit_le .sd (.wheel d) set.sd r.sd
  have qr := length_checkLimit_le .qr (.wheel d) set.qr r.qr
  have f := length_checkLimit_le .f (.wheel d) set.f r.f
  simp only [List.length_append]
  omega

theorem length_traceFindings_le (set : LimitSet) (ws : PerSide TraceRecord) (b : Option Geometry) :
    (traceFindings set ws b).length ≤ 9 := by
  unfold traceFindings
  have left := length_checkWheel_le set .L ws.l.results
  have right := length_checkWheel_le set .R ws.r.results
  have wheelset := length_checkLimit_le .b .wheelset set.b b
  simp only [List.length_append]
  omega

theorem backToBack_eq (ws : PerSide TraceRecord) :
    backToBack ws = ws.l.backFace.bind (fun x => ws.r.backFace.map (fun y => x + y)) := by
  unfold backToBack
  cases ws.l.backFace <;> cases ws.r.backFace <;> rfl

theorem formTrace_usable (ws : PerSide TraceRecord) (profile : Option (Nat × Profile)) (now : Stamp) :
    (formTrace ws profile now).usable = true ↔ ws.l.status = .good ∧ ws.r.status = .good := by
  change (ws.l.status == .good && ws.r.status == .good) = true ↔ _
  simp

/-- Settles O45: each outcome is a branch of the extraction's steps, and the findings are the checks in their order. -/
theorem extractionDerivesInOrder : Obligations.ExtractionDerivesInOrder := by
  refine ⟨fun tolerance w => ?extraction, fun p wheel x v o a ho ha => ⟨rfl, ?check⟩, fun ws slot p now b hb => ?trace⟩
  case extraction =>
    obtain ⟨out, whole, unseen, steps⟩ := extract_eq tolerance w
    rw [whole]
    refine ⟨rfl, fun none_ => by rw [unseen none_]; exact ⟨rfl, rfl⟩, fun good => ?_, fun x => mem_goodRadii,
      length_goodRadii w.circ, fun r70 known seen hknown => ?_⟩
    · have good : out.1 = .good := good
      cases seen : goodRadius (sparseGet w.lateral 70) with
      | none => exact absurd ((congrArg Prod.fst (unseen seen)).symm.trans good) (by decide)
      | some r70 =>
        have made := steps r70 seen
        by_cases many : tolerance < missingCount 140 w.lateral ∨ tolerance < missingCount 64 w.circ
        · rw [if_pos many] at made
          exact absurd ((congrArg Prod.fst made).symm.trans good) (by simp)
        rw [if_neg many] at made
        by_cases saturated : anySaturated w.circ = true
        · rw [if_pos saturated] at made
          exact absurd ((congrArg Prod.fst made).symm.trans good) (by simp)
        rw [if_neg saturated] at made
        rw [made] at good
        obtain ⟨tip, sh, sd, xs, named, high, results⟩ := extractFlange_good good
        obtain ⟨few, fewCirc⟩ := not_or.mp many
        refine ⟨r70, diameterOf (goodRadii w.circ), outOfRound (goodRadii w.circ), sh, tip, sd, xs, ?_, rfl, Nat.le_of_not_lt few,
          Nat.le_of_not_lt fewCirc, Bool.not_eq_true _ ▸ saturated, named.1, high, named.2.1, named.2.2, ⟨_, rfl⟩,
          outOfRound_nonneg _⟩
        change out.2 = _
        rw [made, results]
        rfl
    · have made := steps r70 seen
      have hknown : countedResults w r70 = known := hknown.symm
      have swept : sweptResults w r70 =
          { known with d := some (diameterOf (goodRadii w.circ)), f := some (outOfRound (goodRadii w.circ)) } := by
        rw [← hknown]
        rfl
      rw [hknown, swept] at made
      refine ⟨fun many => ?_, fun few fewCirc saturated => ?_, fun few fewCirc clean radii => ?_⟩
      · rw [if_pos many] at made
        rw [made]
        exact ⟨rfl, rfl⟩
      · rw [if_neg (not_or.mpr ⟨Nat.not_lt.mpr few, Nat.not_lt.mpr fewCirc⟩), if_pos saturated] at made
        rw [made]
        exact ⟨rfl, rfl⟩
      · rw [if_neg (not_or.mpr ⟨Nat.not_lt.mpr few, Nat.not_lt.mpr fewCirc⟩), if_neg (by simp [clean])] at made
        rw [made]
        refine ⟨_, _, sweepFigures_of_ne_nil radii, fun none_ => ?_, fun sh tip named => ?_⟩
        · rw [extractFlange_no_tip _ none_]
          exact ⟨rfl, rfl⟩
        · obtain ⟨fails, goesOn⟩ := extractFlange_steps (w := w) (r70 := r70)
            { known with d := some (diameterOf (goodRadii w.circ)), f := some (outOfRound (goodRadii w.circ)) } named
          refine ⟨fun fail => by rw [fails fail]; exact ⟨rfl, rfl⟩, fun sd high first => ?_⟩
          obtain ⟨stops, ends⟩ := goesOn sd high first
          exact ⟨fun none_ => by rw [stops none_]; exact ⟨rfl, rfl⟩, fun xs second => by rw [ends xs second]; exact ⟨rfl, rfl⟩⟩
  case check =>
    have outcome : bandOutcome x v = o := ho.symm
    have action : lineAction x o = a := by
      rw [ha]
      cases o <;> rfl
    rw [checkLimit_some, outcome, action]
  case trace =>
    have distance : backToBack ws = b := (backToBack_eq ws).trans hb.symm
    refine ⟨?_, length_traceFindings_le _ _ _, rfl, fun q => ⟨distance, rfl, rfl, rfl, formTrace_usable ws q now⟩⟩
    change traceFindings p.limits ws (backToBack ws) = _
    unfold traceFindings checkWheel
    rw [distance]
    simp only [List.append_assoc]

end Sys2Proof.Machine

/-! ### Samples stored and judged (R116, R138 to R140, R143) -/

namespace Sys2Proof.Machine

theorem sparseGet_set {α : Type} (m : List (Nat × α)) (k i : Nat) (x : α) :
    sparseGet (sparseSet m k x) i = if i = k then some x else sparseGet m i := by
  by_cases same : i = k
  · rw [if_pos same, same]
    exact sparseGet_set_same m k x
  · rw [if_neg same]
    exact sparseGet_set_other m k i x same

/-! ### Samples stored -/

/-- Where a sample goes: into its point of its phase, and nowhere where the phase has no such point (R116, R138). -/
theorem storeWalkSample_get (w : TraceRecord) (x : Sample) (i : Nat) :
    sparseGet (storeWalkSample w x).lateral i =
      (if x.phase = .lateral ∧ x.index < 140 ∧ i = x.index then some { radius := x.radius, status := x.status }
       else sparseGet w.lateral i) ∧
    sparseGet (storeWalkSample w x).circ i =
      (if x.phase = .circumferential ∧ x.index < 64 ∧ i = x.index then some { radius := x.radius, status := x.status }
       else sparseGet w.circ i) := by
  unfold storeWalkSample
  cases phase : x.phase with
  | lateral =>
    by_cases inside : x.index < 140
    · simp [inside, sparseGet_set]
    · simp [inside]
  | circumferential =>
    by_cases inside : x.index < 64
    · simp [inside, sparseGet_set]
    · simp [inside]
  | datum => simp

theorem storeWalkSample_keeps (w : TraceRecord) (x : Sample) : (storeWalkSample w x).status = w.status ∧
    (storeWalkSample w x).results = w.results ∧ (storeWalkSample w x).backFace = w.backFace := by
  unfold storeWalkSample
  split
  · split <;> exact ⟨rfl, rfl, rfl⟩
  · split <;> exact ⟨rfl, rfl, rfl⟩
  · exact ⟨rfl, rfl, rfl⟩

theorem foldl_storeWalkSample_keeps (xs : List Sample) (w : TraceRecord) :
    (xs.foldl storeWalkSample w).status = w.status ∧ (xs.foldl storeWalkSample w).results = w.results ∧
    (xs.foldl storeWalkSample w).backFace = w.backFace := by
  induction xs generalizing w with
  | nil => exact ⟨rfl, rfl, rfl⟩
  | cons x xs ih =>
    obtain ⟨status, results, backFace⟩ := ih (storeWalkSample w x)
    obtain ⟨status', results', backFace'⟩ := storeWalkSample_keeps w x
    exact ⟨status.trans status', results.trans results', backFace.trans backFace'⟩

/-- A report's samples and offset in a walk's record (R116). -/
theorem storeWalk_spec (w : TraceRecord) (xs : List Sample) (b : Option Geometry) :
    (storeWalk w xs b).status = w.status ∧ (storeWalk w xs b).results = w.results ∧
    (w.status ≠ .inProgress → storeWalk w xs b = w) ∧
    (w.status = .inProgress →
      storeWalk w xs b = { xs.foldl storeWalkSample w with backFace := b.or w.backFace }) := by
  obtain ⟨status, results, backFace⟩ := foldl_storeWalkSample_keeps xs w
  unfold storeWalk
  by_cases inProgress : w.status = .inProgress
  · rw [if_pos inProgress]
    exact ⟨status, results, fun other => absurd inProgress other, fun _ => by rw [← backFace]⟩
  · rw [if_neg inProgress]
    exact ⟨rfl, rfl, fun _ => rfl, fun is => absurd is inProgress⟩

theorem storeScanSample_eq (w : ScanRecord) (x : Sample) : storeScanSample w x = { w with
    datumSample := (storeScanSample w x).datumSample, lateral := (storeScanSample w x).lateral
    circ := (storeScanSample w x).circ } := by
  unfold storeScanSample
  cases x.phase <;> dsimp only <;> split <;> rfl

theorem storeScanSample_get (w : ScanRecord) (x : Sample) (i : Nat) :
    (storeScanSample w x).datumSample =
      (if x.phase = .datum ∧ x.index = 70 then some { radius := x.radius, status := x.status } else w.datumSample) ∧
    sparseGet (storeScanSample w x).lateral i =
      (if x.phase = .lateral ∧ x.index < 140 ∧ i = x.index then some { radius := x.radius, status := x.status }
       else sparseGet w.lateral i) ∧
    sparseGet (storeScanSample w x).circ i =
      (if x.phase = .circumferential ∧ x.index < 64 ∧ i = x.index then some { radius := x.radius, status := x.status }
       else sparseGet w.circ i) := by
  unfold storeScanSample
  cases phase : x.phase with
  | lateral =>
    by_cases inside : x.index < 140
    · simp [inside, sparseGet_set]
    · simp [inside]
  | circumferential =>
    by_cases inside : x.index < 64
    · simp [inside, sparseGet_set]
    · simp [inside]
  | datum => by_cases point : x.index = 70 <;> simp [point]

/-! ### The datum (R139) -/

theorem takeDatum_set {w : ScanRecord} (set : w.datum ≠ .none) : takeDatum w = w := by
  unfold takeDatum
  split
  next => rfl
  next => rfl
  next none_ => exact absurd none_ set

theorem takeDatum_sample {w : ScanRecord} {y : Reading} (unset : w.datum = .none) (sample : w.datumSample = some y) :
    takeDatum w = { w with datum := if y.status = .good then .radius y.radius else .failed } := by
  unfold takeDatum
  rw [unset, sample]
  dsimp only
  split <;> rfl

theorem takeDatum_waiting {w : ScanRecord} (unset : w.datum = .none) (sample : w.datumSample = none) :
    takeDatum w = if pastDatum w.reported = true then { w with datum := .failed } else w := by
  unfold takeDatum
  rw [unset, sample]

theorem pastDatum_iff (c : Option Cursor) :
    pastDatum c = true ↔ ∃ i, c = some (.point .lateral i) ∨ c = some (.point .circumferential i) := by
  unfold pastDatum
  split <;> simp

theorem takeDatum_eq (w : ScanRecord) : takeDatum w = { w with datum := (takeDatum w).datum } := by
  unfold takeDatum
  split
  · rfl
  · rfl
  · split
    · split <;> rfl
    · split <;> rfl

/-! ### One point judged (R140, R143) -/

theorem judgePoint_skips {w : ScanRecord} (mode : ScanMode) (p : Profile) (r70 : Geometry)
    (missing : ∀ y, sparseGet w.lateral w.judged = some y → y.status ≠ .good) :
    judgePoint mode p r70 w = { w with judged := w.judged + 1, skips := w.skips + 1 } := by
  have none_ : goodRadius (sparseGet w.lateral w.judged) = none := by
    cases found : goodRadius (sparseGet w.lateral w.judged) with
    | none => rfl
    | some x =>
      obtain ⟨y, sample, good, -⟩ := goodRadius_eq_some.mp found
      exact absurd good (missing y sample)
  unfold judgePoint
  dsimp only
  rw [none_]

/-- A GOOD point's deviation, judged against the band by the scan's mode. -/
theorem judgePoint_good {w : ScanRecord} {y : Reading} {dev : Geometry} {point : OutPoint} (p : Profile) (r70 : Geometry)
    (sample : sparseGet w.lateral w.judged = some y) (good : y.status = .good)
    (hdev : dev = y.radius - r70 - p.heights.getD w.judged p.pad)
    (hpoint : point = { index := w.judged, high := decide (0 < dev), deviation := dev }) :
    judgePoint .verify p r70 w = (if dev < -p.band ∨ p.band < dev then { w with judged := 140, firstOut := some point }
      else { w with judged := w.judged + 1 }) ∧
    judgePoint .survey p r70 w = { w with
      judged := w.judged + 1
      firstOut := if dev < -p.band ∨ p.band < dev then w.firstOut.or (some point) else w.firstOut
      outCount := if dev < -p.band ∨ p.band < dev then w.outCount + 1 else w.outCount
      largest := largerOut w.largest point } := by
  have found : goodRadius (sparseGet w.lateral w.judged) = some y.radius := goodRadius_eq_some.mpr ⟨y, sample, good, rfl⟩
  have deviation : y.radius - r70 - referenceAt p w.judged = dev := hdev.symm
  unfold judgePoint
  dsimp only
  rw [found]
  dsimp only
  rw [deviation, ← hpoint]
  by_cases beyond : dev < -p.band ∨ p.band < dev
  · have marked : (decide (dev < -p.band) || decide (p.band < dev)) = true := by simpa using beyond
    rw [marked]
    simp [beyond]
  · have marked : (decide (dev < -p.band) || decide (p.band < dev)) = false := by simpa using beyond
    rw [marked]
    simp [beyond]

/-! ### The judgment as a whole (R140) -/

/-- What judging some points more leaves of a scan's record: the datum, and the first out-of-band point once it is final;
the cursor does not go back, and not beyond the last point. -/
structure JudgedOn (mode : ScanMode) (w v : ScanRecord) : Prop where
  datum : v.datum = w.datum
  forward : w.judged ≤ v.judged
  within : v.judged ≤ max w.judged 140
  firstOut : ∀ q, w.firstOut = some q → 140 ≤ w.judged ∨ mode = .survey → v.firstOut = some q

theorem JudgedOn.refl (mode : ScanMode) (w : ScanRecord) : JudgedOn mode w w :=
  ⟨rfl, le_rfl, le_max_left _ _, fun _ found _ => found⟩

theorem JudgedOn.trans {mode : ScanMode} {w v u : ScanRecord} (a : JudgedOn mode w v) (b : JudgedOn mode v u) :
    JudgedOn mode w u := by
  refine ⟨b.datum.trans a.datum, a.forward.trans b.forward, ?_, fun q found final => ?_⟩
  · have := a.within
    have := b.within
    omega
  · refine b.firstOut q (a.firstOut q found final) (final.imp_left fun reached => ?_)
    exact reached.trans a.forward

/-- One point judged: the cursor goes on. -/
theorem judgePoint_judged {w : ScanRecord} (mode : ScanMode) (p : Profile) (r70 : Geometry) (inside : w.judged < 140) :
    JudgedOn mode w (judgePoint mode p r70 w) ∧ w.judged < (judgePoint mode p r70 w).judged := by
  by_cases good : ∃ y, sparseGet w.lateral w.judged = some y ∧ y.status = .good
  · obtain ⟨y, sample, good⟩ := good
    obtain ⟨verify, survey⟩ := judgePoint_good p r70 sample good rfl rfl
    cases mode with
    | verify =>
      rw [verify]
      split
      · exact ⟨⟨rfl, inside.le, le_max_right _ _, fun q _ final => by
          rcases final with final | final
          · omega
          · nomatch final⟩, inside⟩
      · exact ⟨⟨rfl, Nat.le_succ _, by dsimp only; omega, fun q found _ => found⟩, Nat.lt_succ_self _⟩
    | survey =>
      rw [survey]
      refine ⟨⟨rfl, Nat.le_succ _, by dsimp only; omega, fun q found _ => ?_⟩, Nat.lt_succ_self _⟩
      dsimp only
      split
      · rw [found]
        rfl
      · exact found
  · rw [judgePoint_skips mode p r70 fun y sample bad => good ⟨y, sample, bad⟩]
    exact ⟨⟨rfl, Nat.le_succ _, by dsimp only; omega, fun q found _ => found⟩, Nat.lt_succ_self _⟩

/-- The point at the cursor is to be judged: it is reached, or the task has ended (R140). -/
def judges (atEnd : Bool) (w : ScanRecord) : Prop :=
  w.judged < 140 ∧ (atEnd = true ∨ (sparseGet w.lateral w.judged).isSome = true ∨ pastPoint w.reported w.judged = true)

theorem judgeLateral_succ_pos {w : ScanRecord} {atEnd : Bool} (mode : ScanMode) (p : Profile) (r70 : Geometry) (fuel : Nat)
    (on : judges atEnd w) : judgeLateral mode p r70 atEnd (fuel + 1) w =
      judgeLateral mode p r70 atEnd fuel (judgePoint mode p r70 w) := if_pos on

theorem judgeLateral_stop {w : ScanRecord} {atEnd : Bool} (mode : ScanMode) (p : Profile) (r70 : Geometry) (fuel : Nat)
    (stop : ¬ judges atEnd w) : judgeLateral mode p r70 atEnd fuel w = w := by
  cases fuel with
  | zero => rfl
  | succ fuel => exact if_neg stop

theorem judgeLateral_judged (mode : ScanMode) (p : Profile) (r70 : Geometry) (atEnd : Bool) (fuel : Nat) (w : ScanRecord) :
    JudgedOn mode w (judgeLateral mode p r70 atEnd fuel w) := by
  induction fuel generalizing w with
  | zero => exact JudgedOn.refl mode w
  | succ fuel ih =>
    by_cases on : judges atEnd w
    · rw [judgeLateral_succ_pos mode p r70 fuel on]
      exact (judgePoint_judged mode p r70 on.1).1.trans (ih _)
    · rw [judgeLateral_stop mode p r70 _ on]
      exact JudgedOn.refl mode w

/-- Fuel for every point that remains is enough: more changes nothing. -/
theorem judgeLateral_succ (mode : ScanMode) (p : Profile) (r70 : Geometry) (atEnd : Bool) (fuel : Nat) (w : ScanRecord)
    (enough : 140 - w.judged ≤ fuel) :
    judgeLateral mode p r70 atEnd (fuel + 1) w = judgeLateral mode p r70 atEnd fuel w := by
  induction fuel generalizing w with
  | zero => exact judgeLateral_stop mode p r70 1 fun on => by have := on.1; omega
  | succ fuel ih =>
    by_cases on : judges atEnd w
    · rw [judgeLateral_succ_pos mode p r70 _ on, judgeLateral_succ_pos mode p r70 _ on]
      have goesOn := (judgePoint_judged mode p r70 on.1).2
      exact ih _ (by omega)
    · rw [judgeLateral_stop mode p r70 _ on, judgeLateral_stop mode p r70 _ on]

theorem advanceScan_radius {w : ScanRecord} {r70 : Geometry} (mode : ScanMode) (p : Profile) (atEnd : Bool)
    (datum : (takeDatum w).datum = .radius r70) :
    advanceScan mode (some p) atEnd w = judgeLateral mode p r70 atEnd 140 (takeDatum w) := by
  unfold advanceScan
  dsimp only
  rw [datum]

theorem advanceScan_judged (mode : ScanMode) (p : Option Profile) (atEnd : Bool) (w : ScanRecord) :
    JudgedOn mode (takeDatum w) (advanceScan mode p atEnd w) := by
  unfold advanceScan
  dsimp only
  split
  · exact judgeLateral_judged mode _ _ atEnd 140 _
  all_goals exact JudgedOn.refl mode _

/-- The point at the cursor is judged as soon as it is reached, and the judgment goes on from the next. -/
theorem advanceScan_on {w : ScanRecord} {r70 : Geometry} (mode : ScanMode) (p : Profile)
    (datum : (takeDatum w).datum = .radius r70) (on : judges false (takeDatum w)) :
    advanceScan mode (some p) false w = advanceScan mode (some p) false (judgePoint mode p r70 (takeDatum w)) := by
  obtain ⟨judged, goesOn⟩ := judgePoint_judged mode p r70 on.1
  have still : (judgePoint mode p r70 (takeDatum w)).datum = .radius r70 := judged.datum.trans datum
  have taken := takeDatum_set (w := judgePoint mode p r70 (takeDatum w)) (by rw [still]; exact fun none_ => nomatch none_)
  rw [advanceScan_radius mode p false datum, advanceScan_radius mode p false (by rw [taken]; exact still), taken,
    judgeLateral_succ_pos mode p r70 139 on, judgeLateral_succ mode p r70 false 139 _ (by omega)]

theorem advanceScan_stop {w : ScanRecord} (mode : ScanMode) (p : Profile)
    (stop : (takeDatum w).datum = .none ∨ (takeDatum w).datum = .failed ∨ ¬ judges false (takeDatum w)) :
    advanceScan mode (some p) false w = takeDatum w := by
  cases datum : (takeDatum w).datum with
  | radius r70 =>
    rw [advanceScan_radius mode p false datum]
    rcases stop with none_ | failed | stop
    · exact absurd (datum.symm.trans none_) (by simp)
    · exact absurd (datum.symm.trans failed) (by simp)
    · exact judgeLateral_stop mode p r70 140 stop
  | none =>
    unfold advanceScan
    dsimp only
    rw [datum]
  | failed =>
    unfold advanceScan
    dsimp only
    rw [datum]

theorem pastPoint_iff (c : Option Cursor) (i : Nat) : pastPoint c i = true ↔
    (∃ j, c = some (.point .lateral j) ∧ i < j) ∨ ∃ j, c = some (.point .circumferential j) := by
  unfold pastPoint
  split <;> simp

theorem foldl_storeScanSample_keeps (xs : List Sample) (w : ScanRecord) :
    (xs.foldl storeScanSample w).datum = w.datum ∧ (xs.foldl storeScanSample w).judged = w.judged ∧
    (xs.foldl storeScanSample w).firstOut = w.firstOut ∧ (xs.foldl storeScanSample w).reported = w.reported := by
  induction xs generalizing w with
  | nil => exact ⟨rfl, rfl, rfl, rfl⟩
  | cons x xs ih =>
    have here : (storeScanSample w x).datum = w.datum ∧ (storeScanSample w x).judged = w.judged ∧
        (storeScanSample w x).firstOut = w.firstOut ∧ (storeScanSample w x).reported = w.reported := by
      rw [storeScanSample_eq]
      exact ⟨rfl, rfl, rfl, rfl⟩
    obtain ⟨datum, judged, firstOut, reported⟩ := ih (storeScanSample w x)
    exact ⟨datum.trans here.1, judged.trans here.2.1, firstOut.trans here.2.2.1, reported.trans here.2.2.2⟩

theorem storeScan_inProgress {w : ScanRecord} (mode : ScanMode) (p : Option Profile) (xs : List Sample) (c : Option Cursor)
    (inProgress : w.result = .inProgress) : storeScan mode p w xs c =
      advanceScan mode p false { xs.foldl storeScanSample w with reported := c.or w.reported } := by
  have reported := (foldl_storeScanSample_keeps xs w).2.2.2
  unfold storeScan
  rw [if_pos inProgress]
  dsimp only
  rw [reported]

/-- Storing a report judges on from where the record stood; only a datum not yet set may change besides. -/
theorem storeScan_judged (mode : ScanMode) (p : Option Profile) (w : ScanRecord) (xs : List Sample) (c : Option Cursor) :
    (∀ r, w.datum = .radius r → (storeScan mode p w xs c).datum = .radius r) ∧
    w.judged ≤ (storeScan mode p w xs c).judged ∧ (storeScan mode p w xs c).judged ≤ max w.judged 140 ∧
    ∀ q, w.firstOut = some q → 140 ≤ w.judged ∨ mode = .survey → (storeScan mode p w xs c).firstOut = some q := by
  by_cases inProgress : w.result = .inProgress
  · rw [storeScan_inProgress mode p xs c inProgress]
    obtain ⟨datum, judged, firstOut, -⟩ := foldl_storeScanSample_keeps xs w
    obtain ⟨v, hv⟩ : ∃ v, v = { xs.foldl storeScanSample w with reported := c.or w.reported } := ⟨_, rfl⟩
    have taken := takeDatum_eq v
    have datum : v.datum = w.datum := by rw [hv]; exact datum
    have judged : (takeDatum v).judged = w.judged := by rw [taken, hv]; exact judged
    have firstOut : (takeDatum v).firstOut = w.firstOut := by rw [taken, hv]; exact firstOut
    have on := advanceScan_judged mode p false v
    rw [← hv]
    refine ⟨fun r set => ?_, judged ▸ on.forward, judged ▸ on.within, fun q found final => ?_⟩
    · rw [on.datum, takeDatum_set (by rw [datum, set]; exact fun none_ => nomatch none_), datum, set]
    · exact on.firstOut q (firstOut.trans found) (by rw [judged]; exact final)
  · have still : storeScan mode p w xs c = w := if_neg inProgress
    rw [still]
    exact ⟨fun _ set => set, le_rfl, le_max_left _ _, fun _ found _ => found⟩

theorem setTraceUnit_onlyTraces (s : State) (rest : List Notice) (st : StationId) (u : TraceUnit) :
    onlyChanges [.traces] s ((s.setNotices rest).setTraceUnit st u) :=
  ((onlyChanges_refl _ s).setNotices rest).setTraceUnit (by simp) st u

/-- Settles O43: the records are those of `storeWalk` and `storeScan`, whose steps are stated one by one. -/
theorem samplesStoredAndJudged : Obligations.SamplesStoredAndJudged := by
  refine ⟨fun s h xs b rest ws w walk => ?walk, fun w x i => storeWalkSample_get w x i, fun s h xs c rest x w scan => ?scan,
    fun w x i => ⟨storeScanSample_eq w x, storeScanSample_get w x i⟩, fun w => ⟨takeDatum_set, ?good, ?bad, ?waiting⟩,
    fun p r70 w => ⟨fun mode missing => judgePoint_skips mode p r70 missing, ?judged⟩, fun mode p w reached hreached => ?advance,
    fun mode p w xs c => ?stored⟩
  case walk =>
    obtain ⟨status, results, still, stored⟩ := storeWalk_spec (ws.get h.side) xs b
    have frame := setTraceUnit_onlyTraces s rest h.station
      { s.traceUnit h.station with walk := some (ws.set h.side (storeWalk (ws.get h.side) xs b)) }
    have e : exec (.traceSamples h) s = .next _ := event_notice_quiet w (by
      change (match (s.traceUnit h.station).walk with | none => _ | some ws => _) = _
      rw [walk]
      rfl) (settle_of_onlyChanges frame (by simp))
    exact ⟨_, _, e, rfl, frame, rfl, status, results, still, stored⟩
  case scan =>
    have frame := setTraceUnit_onlyTraces s rest h.station
      { s.traceUnit h.station with scan := some { x with
        wheels := x.wheels.set h.side (storeScan x.mode (profileAt s x.slot) (x.wheels.get h.side) xs c) } }
    have e : exec (.scanSamples h) s = .next _ := event_notice_quiet w (by
      change (match (s.traceUnit h.station).scan with | none => _ | some x => _) = _
      rw [scan]
      rfl) (settle_of_onlyChanges frame (by simp))
    exact ⟨_, e, rfl, frame, rfl⟩
  case good =>
    intro y unset sample good
    rw [takeDatum_sample unset sample, if_pos good]
  case bad =>
    intro y unset sample bad
    rw [takeDatum_sample unset sample, if_neg bad]
  case waiting =>
    intro unset sample
    rw [takeDatum_waiting unset sample]
    refine ⟨fun past => if_pos ((pastDatum_iff _).mpr past), fun notPast => if_neg fun past => ?_⟩
    obtain ⟨i, lateral | circ⟩ := (pastDatum_iff _).mp past
    · exact (notPast i).1 lateral
    · exact (notPast i).2 circ
  case judged =>
    intro y dev out sample good hdev hout
    obtain ⟨verify, survey⟩ := judgePoint_good p r70 sample good hdev hout
    have larger : largerOut w.largest out = some (match w.largest with
        | none => out
        | some z => if z.deviation.natAbs < dev.natAbs then out else z) := by
      unfold largerOut
      rw [hout]
      cases w.largest with
      | none => rfl
      | some z => exact (apply_ite some _ _ _).symm
    refine ⟨fun low high => ?_, fun beyond => ?_, ?_⟩
    · rw [verify, if_neg (not_or.mpr ⟨not_lt.mpr low, not_lt.mpr high⟩)]
    · rw [verify, if_pos beyond]
    · refine survey.trans ?_
      congr 1
  case advance =>
    have same := takeDatum_eq w
    have on : judges false (takeDatum w) ↔ w.judged < 140 ∧ reached := by
      rw [same]
      unfold judges
      simp only [Bool.false_eq_true, false_or, pastPoint_iff, hreached]
    refine ⟨fun r70 datum inside at_ => advanceScan_on mode p datum (on.mpr ⟨inside, at_⟩), fun stop => ?_⟩
    refine advanceScan_stop mode p ?_
    rcases stop with none_ | failed | beyond | unreached
    · exact Or.inl none_
    · exact Or.inr (Or.inl failed)
    · exact Or.inr (Or.inr fun go => Nat.not_lt.mpr beyond (on.mp go).1)
    · exact Or.inr (Or.inr fun go => unreached (on.mp go).2)
  case stored =>
    obtain ⟨datum, forward, within, firstOut⟩ := storeScan_judged mode p w xs c
    refine ⟨storeScan_inProgress mode p xs c, fun done => if_neg done, datum, forward, within, fun q y had has final => ?_⟩
    have kept := firstOut q had (final.imp_left Eq.ge)
    exact Option.some.inj (has.symm.trans kept)

end Sys2Proof.Machine

/-! ### What a station's operations share, and the passes of a cut (R103, R169, R170) -/

namespace Sys2Proof.Machine

section
variable {s t u : State}

/-! ### Records of the stations -/

theorem PerStation.set_set {α : Type} (p : PerStation α) (st : StationId) (x y : α) : (p.set st x).set st y = p.set st y := by
  cases st <;> rfl

theorem PerStation.set_self {α : Type} (p : PerStation α) (st : StationId) : p.set st (p.get st) = p := by
  cases st <;> rfl

theorem setStation_setStation (s : State) (st : StationId) (x y : Station) :
    (s.setStation st x).setStation st y = s.setStation st y := by
  unfold State.setStation
  rw [State.setStations_stations, PerStation.set_set]
  rfl

theorem onlyStation_refl (s : State) (st : StationId) : onlyStation s s st := (PerStation.set_self s.stations st).symm

theorem onlyStation.of_stations {st : StationId} (only : onlyStation s t st) (same : u.stations = t.stations) :
    onlyStation s u st := by
  unfold onlyStation State.station at only ⊢
  rw [same]
  exact only

theorem onlyStation.setStation {st : StationId} (only : onlyStation s t st) (x : Station) :
    onlyStation s (t.setStation st x) st := by
  unfold onlyStation
  rw [station_setStation_same]
  unfold State.setStation
  rw [State.setStations_stations, only, PerStation.set_set]

/-- A change of the stations, traces and plans that keeps the stations' work states and their part of the total reservation
hands the Warning Outputs nothing. -/
theorem settle_of_works {ps : List Part} (frame : onlyChanges ps s t)
    (apart : ∀ p ∈ [Part.attention, .settings, .loop, .zone, .lift, .clamps, .history], p ∉ ps)
    (works : ∀ st, (t.station st).work = (s.station st).work)
    (reserved : ∀ st, stationReserved (t.station st) = stationReserved (s.station st)) : settle s t = t := by
  obtain ⟨-, -, -, same⟩ := frame
  have attention := same .attention (apart _ (by simp))
  have settings := same .settings (apart _ (by simp))
  have loop := same .loop (apart _ (by simp))
  have zone := same .zone (apart _ (by simp))
  have lift := same .lift (apart _ (by simp))
  have clamps := same .clamps (apart _ (by simp))
  have history := same .history (apart _ (by simp))
  simp only [agree] at attention settings loop zone lift clamps history
  refine settle_still (by rw [lift]) (fun st => ?_) (by rw [loop]) (by rw [loop]) works zone attention history
    (congrArg₂ (· + ·) (reserved .A) (reserved .B)) (by rw [settings])
  unfold State.clamp
  rw [clamps]

/-- One station's record replaced, its work state and its part of the total reservation kept. -/
theorem settle_setStation {st : StationId} {x : Station} (rest : List Notice) (work : x.work = (s.station st).work)
    (reserved : stationReserved x = stationReserved (s.station st)) :
    settle s ((s.setNotices rest).setStation st x) = (s.setNotices rest).setStation st x := by
  have frame : onlyChanges [.stations] s ((s.setNotices rest).setStation st x) :=
    ((onlyChanges_refl _ s).setNotices rest).setStation (by simp) st x
  have own (o : StationId) : ((s.setNotices rest).setStation st x).station o = if o = st then x else s.station o := by
    split
    next same => rw [same, station_setStation_same]
    next other => rw [station_setStation_ne _ other, station_setNotices]
  refine settle_of_works frame (by simp) (fun o => ?_) fun o => ?_
  · rw [own]
    split
    next same => rw [same, work]
    next => rfl
  · rw [own]
    split
    next same => rw [same, reserved]
    next => rfl

theorem event_notice_made {p : Notice → Bool} {act : Notice → State → State} {n : Notice} {rest : List Notice}
    (w : waits s p n rest) (made : act n (s.setNotices rest) = u) :
    event s (fun s => onNotice s p act) = .next (settle s u) := by
  rw [event_notice w, made]

/-! ### Tasks handed on (R103) -/

/-- A station's record once each of its heads has been handed a task. -/
def handedStation (x : Station) (task : Side → HeadTask) : Station :=
  { x with cursor := ⟨taskStart (task .L), taskStart (task .R)⟩, part := .both false }

/-- The tasks on their way to a station's heads. -/
def taskNotices (st : StationId) (task : Side → HeadTask) : List Notice :=
  [.task ⟨st, .L⟩ (task .L), .task ⟨st, .R⟩ (task .R)]

theorem handTasks_eq (s : State) (st : StationId) (task : Side → HeadTask) : handTasks s st task =
    send (s.setStation st (handedStation (s.station st) task)) (taskNotices st task) := by
  have handed : handTask (handTask s ⟨st, .L⟩ (task .L)) ⟨st, .R⟩ (task .R) =
      send (send ((s.setStation st { s.station st with
        cursor := (s.station st).cursor.set .L (taskStart (task .L)), part := (s.station st).part.set .L false }).setStation st
          (handedStation (s.station st) task)) [.task ⟨st, .L⟩ (task .L)]) [.task ⟨st, .R⟩ (task .R)] := by
    unfold handTask
    rw [station_send, station_setStation_same]
    rfl
  unfold handTasks
  rw [handed, setStation_setStation]
  simp [send, taskNotices, State.setNotices]

theorem handedStation_handed (x : Station) (task : Side → HeadTask) (d : Side) :
    handedTask (handedStation x task) d (task d) := by
  cases d <;> exact ⟨rfl, rfl⟩

theorem mem_taskNotices (st : StationId) (task : Side → HeadTask) (d : Side) :
    .task ⟨st, d⟩ (task d) ∈ taskNotices st task := by
  cases d <;> simp [taskNotices]

/-! ### The verify begins (R170) -/

theorem beginVerify_eq (s : State) (st : StationId) : beginVerify s st =
    send ((s.setTraceUnit st { s.traceUnit st with
        scan := some (newScan .verify (((shareOf s st).bind (·.profileUsed)).getD 0)) }).setStation st
      (handedStation { s.station st with work := .scanning, operation := some .verify }
        fun _ => .scan .verify (.point .datum 70)))
      (taskNotices st fun _ => .scan .verify (.point .datum 70)) := by
  unfold beginVerify
  dsimp only
  rw [handTasks_eq, station_setStation_same, setStation_setStation]
  rfl

/-- A verify begun in a state `v` whose traces and plans are those of `s`. -/
theorem beginVerify_begins {v : State} {st : StationId} {x : Station} (station : v.station st = x)
    (traces : v.traces = s.traces) (share : shareOf v st = shareOf s st) (o : State) :
    verifyBegins s (settle o (beginVerify v st)) st x := by
  have unit : v.traceUnit st = s.traceUnit st := by unfold State.traceUnit; rw [traces]
  have own : (settle o (beginVerify v st)).station st = handedStation
      { x with work := .scanning, operation := some .verify } fun _ => .scan .verify (.point .datum 70) := by
    rw [beginVerify_eq, station_settle, station_send, station_setStation_same, station]
  refine ⟨by rw [own]; rfl, by rw [own]; rfl, by rw [own]; rfl, by rw [own]; rfl, by rw [own]; rfl, ?_, fun d => ⟨?_, ?_⟩⟩
  · rw [settle_traces, beginVerify_eq, share, unit]
    change v.traces.set st _ = _
    rw [traces]
  · rw [beginVerify_eq]
    refine mem_settle_of_mem (List.mem_append_right _ ?_)
    exact mem_taskNotices st (fun _ => .scan .verify (.point .datum 70)) d
  · rw [own]
    exact handedStation_handed _ (fun _ => .scan .verify (.point .datum 70)) d

theorem beginVerify_handsOn {v : State} (st : StationId) (o : State) : handsOn v.notices (settle o (beginVerify v st)) := by
  rw [beginVerify_eq]
  exact handsOn_settle_of (List.prefix_append _ _)

theorem onlyChanges.beginVerify {ps : List Part} (h : onlyChanges ps s t) (stations : Part.stations ∈ ps)
    (traces : Part.traces ∈ ps) (st : StationId) : onlyChanges ps s (beginVerify t st) := by
  rw [beginVerify_eq]
  exact ((h.setTraceUnit traces st _).setStation stations st _).send _

end

/-- Settles O54: a pass completion is taken where its number is next, and the last part complete begins the verify. -/
theorem passesAdvanceTheCut : Obligations.PassesAdvanceTheCut := by
  refine ⟨fun s h k rest q n w cutting hn => ⟨fun next found => ?taken, fun other => ?disregarded⟩,
    fun s h rest x w cutting hx => ?ends, fun s h rest w idle => ?idle⟩
  case taken =>
    have found : (stationPasses (s.setNotices rest) h.station h.side).find? (fun x => x.number == k) = some q := found
    have e : exec (.passCompletion h) s = .next ((s.setNotices rest).setStation h.station { s.station h.station with
        progress := (s.station h.station).progress.set h.side { passes := k, depth := n.depth + q.depth } }) :=
      event_notice_quiet w (by
        refine (if_pos ⟨cutting, by rw [next, hn]; rfl⟩).trans ?_
        rw [found, next, hn]
        rfl) (settle_setStation rest rfl rfl)
    exact ⟨_, e, rfl, ((onlyStation_refl s h.station).of_stations rfl).setStation _, station_setStation_same _ _ _,
      ((onlyChanges_refl _ s).setNotices rest).setStation (by simp) _ _⟩
  case disregarded =>
    exact event_notice_quiet w (by exact if_neg fun both => other (by rw [hn]; exact both.2)) (settle_setNotices s rest)
  case ends =>
    obtain ⟨v, hv⟩ : ∃ v, v = (s.setNotices rest).setStation h.station x := ⟨_, rfl⟩
    have marked : markPart (s.setNotices rest) h = v := by rw [hv, hx]; rfl
    have station : v.station h.station = x := by rw [hv, station_setStation_same]
    have plan : x.plan = ((s.setNotices rest).station h.station).plan := by rw [hx]; rfl
    have share : shareOf v h.station = shareOf s h.station := by
      rw [hv]
      exact shareOf_setStation plan
    have frame : onlyChanges [.stations] s v := by
      rw [hv]
      exact ((onlyChanges_refl _ s).setNotices rest).setStation (by simp) _ _
    by_cases both : bothComplete x = true ∧ x.work = .cutting
    · have e : exec (.cutPartComplete h) s = .next (settle s (beginVerify v h.station)) :=
        event_notice_made w (by
          refine (if_pos cutting).trans ?_
          rw [marked]
          exact if_pos (by rw [station]; exact both))
      refine ⟨_, e, ?_, fun one => ?_, fun _ _ => ⟨beginVerify_begins station (by rw [hv]; rfl) share s, ?_⟩⟩
      · have before : v.notices = rest := by rw [hv]; rfl
        exact before ▸ beginVerify_handsOn h.station s
      · exact one.elim (fun no => absurd both.1 (by rw [no]; simp)) (absurd both.2)
      · exact ((frame.mono (by simp)).beginVerify (by simp) (by simp) _).settle s
    · have quiet : settle s v = v := by
        rw [hv, hx]
        exact settle_setStation rest rfl rfl
      have e : exec (.cutPartComplete h) s = .next v := event_notice_quiet w (by
        refine (if_pos cutting).trans ?_
        rw [marked]
        exact if_neg (by rw [station]; exact both)) quiet
      refine ⟨_, e, by rw [hv]; exact List.prefix_refl _, fun _ => ⟨by rw [hv]; rfl, by rw [hv]; rfl, frame⟩,
        fun complete working => absurd ⟨complete, working⟩ both⟩
  case idle =>
    exact event_notice_quiet w (if_neg idle) (settle_setNotices s rest)

end Sys2Proof.Machine

/-! ### Plans given up, and the walks and scans that begin (R94, R111 to R113, R116, R144) -/

namespace Sys2Proof.Machine

section
variable {s t u : State}

/-! ### What an event's end hands on -/

theorem viewChanges_views (o n : State) : ∀ m ∈ viewChanges o n, ∃ src item, m = .view src item := by
  intro m mem
  simp only [viewChanges, nodeChanges, List.mem_append, mem_noticeIf, List.mem_map] at mem
  rcases mem with (((((((((⟨-, rfl⟩ | ⟨-, rfl⟩) | ⟨-, rfl⟩) | (⟨-, rfl⟩ | ⟨_, -, rfl⟩)) | ⟨-, rfl⟩) | ⟨-, rfl⟩) | ⟨-, rfl⟩) |
    ⟨-, rfl⟩) | ⟨-, rfl⟩) | ⟨-, rfl⟩) | ⟨-, rfl⟩ <;> exact ⟨_, _, rfl⟩

/-- An event that does not lengthen the Export Queue hands on notices to the Warning Outputs alone. -/
theorem settle_onlyViews {o n : State} {before : List Notice} (made : n.notices = before)
    (shorter : n.history.exportQueue.length ≤ o.history.exportQueue.length) : onlyViews before (settle o n) := by
  have none_ : exportDueChange o n = [] := by
    unfold exportDueChange
    rw [decide_eq_false (Nat.not_lt.mpr shorter)]
    rfl
  exact ⟨viewChanges o n, by rw [settle_notices, none_, made]; rfl, viewChanges_views o n⟩

/-- The only posting that an event's end adds is EXPORT-DUE. -/
theorem mem_settle_posting {o n : State} {k : AttentionKind} {src : Source} {d : Detail} (other : k ≠ .exportDue)
    (mem : .posting k src d ∈ (settle o n).notices) : .posting k src d ∈ n.notices := by
  rw [settle_notices] at mem
  rcases List.mem_append.mp mem with old | new
  · exact old
  · rcases List.mem_append.mp new with due | view
    · have same := (mem_noticeIf.mp due).2
      exact absurd (Notice.posting.inj same).1 other
    · obtain ⟨_, _, same⟩ := viewChanges_views o n _ view
      exact nomatch same

/-! ### The other station's share -/

/-- A share released: the other station of the plan keeps its record and its share, or loses its plan reference where its own
share is CONDEMNED (R147). -/
theorem releaseShare_partner {st : StationId} (same : (s.station (otherStation st)).plan = (s.station st).plan) :
    (shareCondemned (shareOf s (otherStation st)) = true →
      (releaseShare s st).station (otherStation st) = { s.station (otherStation st) with plan := none }) ∧
    (shareCondemned (shareOf s (otherStation st)) = false →
      (releaseShare s st).station (otherStation st) = s.station (otherStation st) ∧
      shareOf (releaseShare s st) (otherStation st) = shareOf s (otherStation st)) := by
  have ne := otherStation_ne st
  cases plan : (s.station st).plan with
  | none =>
    have gone := shareOf_none_of_plan (same.trans plan)
    rw [releaseShare_planless plan, gone]
    exact ⟨fun condemned => (nomatch condemned), fun _ => ⟨rfl, rfl⟩⟩
  | some slot =>
    have other : (s.station (otherStation st)).plan = some slot := same.trans plan
    unfold releaseShare
    rw [plan]
    dsimp only
    cases found : s.planner.get slot with
    | none =>
      have share : shareOf s (otherStation st) = none := by rw [shareOf_eq, planOf_eq, other]; simp [found]
      rw [share]
      refine ⟨fun condemned => (nomatch condemned), fun _ => ⟨station_setStation_other _ _ _, ?_⟩⟩
      rw [shareOf_eq, planOf_eq, station_setStation_other, other]
      exact congrArg (fun p : Option Plan => p.bind (·.shares.get (otherStation st))) found
    | some p =>
      have share : shareOf s (otherStation st) = p.shares.get (otherStation st) := by
        rw [shareOf_eq, planOf_eq, other]; simp [found]
      have kept : (p.shares.set st none).get (otherStation st) = p.shares.get (otherStation st) :=
        PerStation.get_set_ne _ ne _
      dsimp only
      rw [share, kept]
      refine ⟨fun condemned => ?_, fun survives => ?_⟩
      · rw [if_pos condemned, station_setStation_same, station_setStation_other]
      · rw [if_neg (by rw [survives]; exact Bool.false_ne_true)]
        cases left : p.shares.get (otherStation st) with
        | none =>
          rw [if_pos Option.isNone_none, shareOf_eq, planOf_eq, station_setPlanner, station_setStation_other, other]
          exact ⟨rfl, by simp [State.setPlanner]⟩
        | some y =>
          rw [if_neg (by simp), shareOf_eq, planOf_eq, station_setPlanner, station_setStation_other, other]
          exact ⟨rfl, by simp [State.setPlanner, kept, left]⟩

theorem idlePartner_iff (s : State) (st : StationId) : idlePartner s st = true ↔
    (s.station st).plan ≠ none ∧ (s.station (otherStation st)).plan = (s.station st).plan ∧
    ((s.station (otherStation st)).work = .planned ∨ (s.station (otherStation st)).work = .held) ∧
    (s.station (otherStation st)).reservation = 0 := by
  simp [idlePartner, and_assoc, Option.isSome_iff_ne_none]

/-- What a discarded plan makes of the other station (R94, R112). -/
theorem discardPlan_partner (s : State) (st : StationId) : partnerShareLeft s (discardPlan s st) st := by
  intro same
  obtain ⟨condemned, survives⟩ := releaseShare_partner same
  rw [discardPlan_eq]
  by_cases idle : idlePartner s st = true
  · rw [if_pos idle, if_pos idle, idled_own]
    obtain ⟨plan, other⟩ := releaseShare_other_eq s st
    rw [other]
  · rw [if_neg idle, if_neg idle]
    by_cases out : shareCondemned (shareOf s (otherStation st)) = true
    · rw [if_pos out]
      exact condemned out
    · rw [if_neg out]
      exact survives (Bool.not_eq_true _ ▸ out)

/-- The other station's record and the plans are all that the rule speaks of. -/
theorem partnerShareLeft.of_same {st : StationId} (left : partnerShareLeft s t st)
    (station : u.station (otherStation st) = t.station (otherStation st)) (planner : u.planner = t.planner) :
    partnerShareLeft s u st := by
  intro same
  have rule := left same
  have share : shareOf u (otherStation st) = shareOf t (otherStation st) := by
    rw [shareOf_eq, shareOf_eq, planOf_eq, planOf_eq, station, planner]
  rw [station, share]
  exact rule

theorem idled_notices (s : State) (o : StationId) : (idled s o).notices = s.notices := releaseShare_notices s o

theorem discardPlan_notices (s : State) (st : StationId) : (discardPlan s st).notices = s.notices := by
  rw [discardPlan_eq]
  split
  · rw [idled_notices, releaseShare_notices]
  · exact releaseShare_notices s st

theorem onlyChanges.releaseShare {ps : List Part} (h : onlyChanges ps s t) (stations : Part.stations ∈ ps)
    (planner : Part.planner ∈ ps) (st : StationId) : onlyChanges ps s (releaseShare t st) :=
  h.trans ((releaseShare_onlyChanges t st).mono (by simp [stations, planner]))

theorem onlyChanges.idled {ps : List Part} (h : onlyChanges ps s t) (stations : Part.stations ∈ ps)
    (planner : Part.planner ∈ ps) (o : StationId) : onlyChanges ps s (idled t o) :=
  (h.releaseShare stations planner o).setStation stations o _

theorem onlyChanges.discardPlan {ps : List Part} (h : onlyChanges ps s t) (stations : Part.stations ∈ ps)
    (planner : Part.planner ∈ ps) (st : StationId) : onlyChanges ps s (discardPlan t st) := by
  rw [discardPlan_eq]
  split
  · exact (h.releaseShare stations planner st).idled stations planner _
  · exact h.releaseShare stations planner st

theorem onlyChanges.handTasks {ps : List Part} (h : onlyChanges ps s t) (stations : Part.stations ∈ ps) (st : StationId)
    (task : Side → HeadTask) : onlyChanges ps s (handTasks t st task) := by
  rw [handTasks_eq]
  exact (h.setStation stations st _).send _

/-! ### TRACE (R111 to R113, R116) -/

/-- The record of a station whose trace has just begun. -/
def tracingStation (x : Station) : Station :=
  handedStation { x with
    plan := none, claim := true, work := .tracing, operation := some .trace, prior := some (tracePrior x.work), held := none }
    fun _ => .walk (.point .lateral 0)

theorem tracePrior_eq (w : WorkState) : tracePrior w = if w = .planned ∨ w = .held then .traced else w := by
  cases w <;> rfl

theorem beginTrace_eq (s : State) (st : StationId) : beginTrace s st =
    send (((discardPlan s st).setTraceUnit st { (discardPlan s st).traceUnit st with
      walk := some (.both newTraceRecord) }).setStation st (tracingStation (s.station st)))
      (taskNotices st fun _ => .walk (.point .lateral 0)) := by
  unfold beginTrace
  dsimp only
  rw [handTasks_eq, station_setStation_same, setStation_setStation, station_setTraceUnit, discardPlan_own]
  rfl

/-! ### SURVEY (R144) -/

/-- The record of a station whose survey has just begun. -/
def surveyingStation (x : Station) : Station :=
  handedStation { x with work := .scanning, operation := some .survey, prior := some x.work }
    fun _ => .scan .survey (.point .datum 70)

theorem beginSurvey_eq (s : State) (st : StationId) (slot : Nat) : beginSurvey s st slot =
    send ((s.setTraceUnit st { s.traceUnit st with scan := some (newScan .survey slot) }).setStation st
      (surveyingStation (s.station st))) (taskNotices st fun _ => .scan .survey (.point .datum 70)) := by
  unfold beginSurvey
  dsimp only
  rw [handTasks_eq, station_setStation_same, setStation_setStation]
  rfl

end

/-- Settles O42: the walk and the scan begin as `beginTrace` and `beginSurvey` hand them on, the share given up by
`discardPlan`. -/
theorem traceAndSurveyBegin : Obligations.TraceAndSurveyBegin := by
  refine ⟨fun s f b st cs asked named hcs => ?trace, fun s f body st p asked read => ?survey⟩
  case trace =>
    subst hcs
    have read : parseStation [b] = some st := named
    refine ⟨fun met => ?_, fun r failing => event_serve_unchanged asked (by decide) read (by
      rw [failing]
      rfl)⟩
    obtain ⟨u, hu⟩ : ∃ u, u = beginTrace s st := ⟨_, rfl⟩
    have e : exec .trace s = .next (settle s (answer u f .started)) := event_serve_changes asked (by decide) read (by
      rw [met, hu])
    rw [beginTrace_eq] at hu
    have own : u.station st = tracingStation (s.station st) := by rw [hu]; exact station_setStation_same _ _ _
    have other : u.station (otherStation st) = (discardPlan s st).station (otherStation st) := by
      rw [hu]
      exact station_setStation_other _ _ _
    have notices : u.notices = s.notices ++ taskNotices st fun _ => .walk (.point .lateral 0) := by
      rw [hu]
      exact congrArg (· ++ _) (discardPlan_notices s st)
    have frame : onlyChanges [.stations, .traces, .planner] s u := by
      rw [hu]
      exact ((((onlyChanges_refl _ s).discardPlan (by simp) (by simp) st).setTraceUnit (by simp) st _).setStation
        (by simp) st _).send _
    have link : u.link = s.link := frame.2.2.2 .link (by simp)
    have traces : u.traces = s.traces.set st { s.traceUnit st with walk := some (.both newTraceRecord) } := by
      have same : (discardPlan s st).traces = s.traces :=
        ((onlyChanges_refl [.stations, .planner] s).discardPlan (by simp) (by simp) st).2.2.2 .traces (by simp)
      rw [hu]
      change (discardPlan s st).traces.set st _ = _
      unfold State.traceUnit
      rw [same]
    have left : partnerShareLeft s (settle s (answer u f .started)) st :=
      (discardPlan_partner s st).of_same other (by rw [settle_planner, answer_planner, hu]; rfl)
    have handed : (settle s (answer u f .started)).notices = u.notices ++ (exportDueChange s (answer u f .started) ++
        viewChanges s (answer u f .started)) := settle_notices _ _
    refine ⟨_, e, settle_answered f _ link, ?_⟩
    rw [station_settle, station_answer, own]
    refine ⟨rfl, rfl, rfl, rfl, rfl, rfl, left, fun src d mem => ?_, congrArg some (tracePrior_eq _), traces, fun d => ⟨?_, ?_⟩,
      ?_, ?_⟩
    · have old := mem_settle_posting (by decide) mem
      change _ ∈ u.notices at old
      rw [notices] at old
      exact (List.mem_append.mp old).resolve_right (by simp [taskNotices])
    · rw [handed, notices]
      refine List.mem_append_left _ (List.mem_append_right _ ?_)
      exact mem_taskNotices st (fun _ => .walk (.point .lateral 0)) d
    · exact handedStation_handed _ (fun _ => .walk (.point .lateral 0)) d
    · exact ⟨_, by rw [handed, notices, List.append_assoc]⟩
    · exact (((frame.mono (by simp)).answer (by simp) f _).settle s)
  case survey =>
    refine ⟨fun met => ?_, fun r failing => event_serve_unchanged asked (by decide) read (by
      rw [failing]
      rfl)⟩
    obtain ⟨u, hu⟩ : ∃ u, u = beginSurvey s st (surveySlot s st p) := ⟨_, rfl⟩
    have e : exec .survey s = .next (settle s (answer u f .started)) := event_serve_changes asked (by decide) read (by
      rw [met, hu])
    rw [beginSurvey_eq] at hu
    have own : u.station st = surveyingStation (s.station st) := by rw [hu]; exact station_setStation_same _ _ _
    have only : onlyStation s u st := by
      rw [hu]
      exact (((onlyStation_refl s st).of_stations (u := s.setTraceUnit st _) rfl).setStation _).of_stations rfl
    have frame : onlyChanges [.link, .stations, .traces] s u := by
      rw [hu]
      exact (((onlyChanges_refl _ s).setTraceUnit (by simp) st _).setStation (by simp) st _).send _
    have notices : u.notices = s.notices ++ taskNotices st fun _ => .scan .survey (.point .datum 70) := by
      rw [hu]
      rfl
    refine ⟨_, e, settle_answered f _ (by rw [hu]; rfl), only.of_stations rfl, ?_⟩
    rw [station_settle, station_answer, own]
    refine ⟨rfl, rfl, rfl, rfl, by rw [settle_traces, answer_traces, hu]; rfl, fun d => ⟨?_, ?_⟩, ?_,
      (frame.answer (by simp) f _).settle s⟩
    · refine mem_settle_of_mem ?_
      change _ ∈ u.notices
      rw [notices]
      refine List.mem_append_right _ ?_
      exact mem_taskNotices st (fun _ => .scan .survey (.point .datum 70)) d
    · exact handedStation_handed _ (fun _ => .scan .survey (.point .datum 70)) d
    · refine handsOn_settle_of ?_
      change _ <+: u.notices
      rw [notices]
      exact List.prefix_append _ _

end Sys2Proof.Machine

/-! ### Shares approved and withdrawn (R163, R164) -/

namespace Sys2Proof.Machine

section
variable {s t : State}

theorem heldBeforeCut_iff (x : Station) : heldBeforeCut x = true ↔
    x.work = .held ∧ (x.held = some .limit ∨ x.held = some .lastTurn ∨ x.held = some .excess) := by
  simp [heldBeforeCut, or_assoc]

theorem heldBeforeCut_false {x : Station} (other : x.work ≠ .held ∨ x.held = some .nonconform ∨ x.held = some .unverified) :
    heldBeforeCut x = false := by
  rw [Bool.eq_false_iff, ne_eq, heldBeforeCut_iff]
  rintro ⟨work, reason⟩
  rcases other with no | held | held
  · exact no work
  · simp [held] at reason
  · simp [held] at reason

theorem staleField_eq (r : WheelsetRecord) (x : Share) : staleField r x =
    if r.condemned = true then some .condemned else if aboveEither r.ds x = true then some .ds
    else if r.ceiling.any (fun c => belowEither c x) = true then some .ceiling else none := by
  unfold staleField
  cases r.ceiling <;> rfl

theorem aboveEither_iff {x : Share} {ws : PerSide WheelPlan} (v : Geometry) (wheels : x.wheels = some ws) :
    aboveEither v x = true ↔ ws.l.final < v ∨ ws.r.final < v := by
  simp [aboveEither, wheels]

theorem belowEither_iff {x : Share} {ws : PerSide WheelPlan} (v : Geometry) (wheels : x.wheels = some ws) :
    belowEither v x = true ↔ v < ws.l.final ∨ v < ws.r.final := by
  simp [belowEither, wheels]

/-- The other station's share stays where a share is replaced (R163). -/
theorem shareOf_setShare_other {st : StationId} {p : Plan} (plan : planOf s st = some p) (y : Share)
    (same : (s.station (otherStation st)).plan = (s.station st).plan) :
    shareOf (setShare s st y) (otherStation st) = shareOf s (otherStation st) := by
  obtain ⟨slot, ref, found⟩ := Option.bind_eq_some_iff.mp plan
  rw [shareOf_eq, shareOf_eq, planOf_eq, planOf_eq, station_setShare, setShare_planner ref found, same, ref, Option.bind_some,
    Option.bind_some, Planner.get_set_same, found]
  exact PerStation.get_set_ne p.shares (otherStation_ne st) _

/-- A station's record replaced with its plan reference kept: every station finds its share. -/
theorem shareOf_setStation_kept {st : StationId} {x : Station} (plan : x.plan = (s.station st).plan) (o : StationId) :
    shareOf (s.setStation st x) o = shareOf s o := by
  by_cases own : o = st
  · rw [own]
    exact shareOf_setStation plan
  · rw [shareOf_eq, shareOf_eq, planOf_eq, planOf_eq, station_setStation_ne _ own]
    rfl

theorem postStale_notices (s : State) (st : StationId) (kind : PlanKind) (field : Option StaleField) (x : Option Share) :
    (postStale s st kind field x).notices = s.notices ++
      (x.toList.map fun y => .posting .planEnd (.station st) (.planEnd (planEndDetail kind .stale field y))) := by
  cases x with
  | none => exact (List.append_nil _).symm
  | some y => rfl

theorem postStale_eq (s : State) (st : StationId) (kind : PlanKind) (field : Option StaleField) (x : Option Share) :
    ∃ ns, postStale s st kind field x = s.setNotices ns := by
  cases x with
  | none => exact ⟨s.notices, rfl⟩
  | some y => exact ⟨_, rfl⟩

/-- A share withdrawn: the stations are those of the discarded plan, the own one TRACED, and the PLAN-ENDs are posted. -/
theorem withdrawShare_eq (s : State) (st : StationId) (field : StaleField) : ∃ ns,
    withdrawShare s st field = (becomeTraced (discardPlan s st) st).setNotices ns ∧
    ns = s.notices ++
      (if idlePartner s st = true then (shareOf s (otherStation st)).toList.map (fun z =>
        Notice.posting .planEnd (.station (otherStation st))
          (.planEnd (planEndDetail (((planOf s st).map (·.kind)).getD .single) .stale none z))) else []) ++
      (shareOf s st).toList.map (fun x => .posting .planEnd (.station st)
        (.planEnd (planEndDetail (((planOf s st).map (·.kind)).getD .single) .stale (some field) x))) := by
  obtain ⟨v, hv⟩ : ∃ v, v = if idlePartner s st = true then
      postStale (discardPlan s st) (otherStation st) (((planOf s st).map (·.kind)).getD .single) none
        (shareOf s (otherStation st)) else discardPlan s st := ⟨_, rfl⟩
  have whole : withdrawShare s st field = postStale (becomeTraced v st) st (((planOf s st).map (·.kind)).getD .single)
      (some field) (shareOf s st) := by rw [hv]; rfl
  obtain ⟨ms, same⟩ : ∃ ms, v = (discardPlan s st).setNotices ms := by
    rw [hv]
    split
    · exact postStale_eq _ _ _ _ _
    · exact ⟨(discardPlan s st).notices, rfl⟩
  obtain ⟨ns, posted⟩ := postStale_eq (becomeTraced v st) st (((planOf s st).map (·.kind)).getD .single) (some field)
    (shareOf s st)
  have traced : becomeTraced v st = (becomeTraced (discardPlan s st) st).setNotices ms := by rw [same]; rfl
  refine ⟨ns, by rw [whole, posted, traced]; rfl, ?_⟩
  have made : ns = (postStale (becomeTraced v st) st (((planOf s st).map (·.kind)).getD .single) (some field)
    (shareOf s st)).notices := by rw [posted]; rfl
  rw [made, postStale_notices]
  congr 1
  change v.notices = _
  rw [hv]
  split
  · rw [postStale_notices, discardPlan_notices]
  · rw [discardPlan_notices, List.append_nil]

theorem becomeTraced_discardPlan_own (s : State) (st : StationId) :
    (becomeTraced (discardPlan s st) st).station st = { s.station st with work := .traced, held := none, plan := none } := by
  unfold becomeTraced
  rw [station_setStation_same, discardPlan_own]

end

/-- Settles O52: an approved share is replaced in its plan, and a share that the record breaks is withdrawn by `discardPlan`. -/
theorem approveAndWithdrawShares : Obligations.ApproveAndWithdrawShares := by
  refine ⟨fun s f b st asked named => ⟨fun x work reason share => ?approve, fun other => ?refuse⟩,
    fun s st r q rest w => ⟨fun p x field state occupant found plan share hfield => ⟨fun y hy => ?withdraw, fun none_ => ?kept⟩,
      fun unplanned other => ?passed⟩, fun v x ws wheels => ⟨aboveEither_iff v wheels, belowEither_iff v wheels⟩⟩
  case approve =>
    have read : parseStation [b] = some st := named
    have before : heldBeforeCut (s.station st) = true := (heldBeforeCut_iff _).mpr ⟨work, reason⟩
    obtain ⟨p, plan, -⟩ := Option.bind_eq_some_iff.mp share
    obtain ⟨y, hy⟩ : ∃ y : Share, y = { x with outcome := .planned, approved := true, heldReason := none } := ⟨_, rfl⟩
    obtain ⟨u, hu⟩ : ∃ u, u = (setShare s st y).setStation st { s.station st with work := .planned, held := none } := ⟨_, rfl⟩
    have e : exec .approve s = .next (settle s (answer u f (.done (.findings (x.findings.filter (·.hold)))))) :=
      event_serve_changes asked (by decide) read (by
        rw [if_pos before, share]
        dsimp only
        rw [← hy, station_setShare, hu])
    obtain ⟨planner, same⟩ := setShare_eq s st y
    have frame : onlyChanges [.link, .stations, .planner] s u := by
      rw [hu, same]
      exact ((onlyChanges_refl _ s).setPlanner (by simp) _).setStation (by simp) st _
    have link : u.link = s.link := by rw [hu, same]; rfl
    have shares (o : StationId) : shareOf (settle s (answer u f (.done (.findings (x.findings.filter (·.hold)))))) o =
        shareOf (setShare s st y) o := by
      have kept : shareOf u o = shareOf (setShare s st y) o := by
        rw [hu]
        exact shareOf_setStation_kept (by rw [station_setShare]) o
      exact kept
    refine ⟨_, e, settle_answered f _ link, ?_, ?_, ?_, fun one => ?_, ?_, (frame.answer (by simp) f _).settle s⟩
    · have only : onlyStation s u st := by
        rw [hu]
        exact ((onlyStation_refl s st).of_stations (by rw [same]; rfl)).setStation _
      exact only.of_stations rfl
    · rw [station_settle, station_answer, hu, station_setStation_same]
    · rw [shares, shareOf_setShare plan, hy]
    · rw [shares]
      exact shareOf_setShare_other plan y one
    · have notices : u.notices = s.notices := by rw [hu, same]; rfl
      exact handsOn_settle notices
  case refuse =>
    exact event_serve_unchanged asked (by decide) named (by
      rw [if_neg (by rw [heldBeforeCut_false other]; exact Bool.false_ne_true)]
      rfl)
  case withdraw =>
    have due : (s.station st).occupant = some r.serial ∧
        ((s.station st).work = .planned ∨ heldBeforeCut (s.station st) = true) :=
      ⟨occupant, state.imp_right (heldBeforeCut_iff _).mpr⟩
    have stale : staleField q x = some y := (staleField_eq q x).trans (hfield.symm.trans hy)
    obtain ⟨ns, whole, hns⟩ := withdrawShare_eq (s.setNotices rest) st y
    have e : exec (.recordChangedNotice st) s = .next (settle s (withdrawShare (s.setNotices rest) st y)) :=
      event_notice_made w (by
        refine (if_pos due).trans ?_
        have found : findRecord (s.setNotices rest).history r.serial = some q := found
        have share : shareOf (s.setNotices rest) st = some x := share
        rw [found, share]
        dsimp only
        rw [stale])
    have kind : ((planOf (s.setNotices rest) st).map (·.kind)).getD .single = p.kind := by
      have plan : planOf (s.setNotices rest) st = some p := plan
      rw [plan]
      rfl
    have share : shareOf (s.setNotices rest) st = some x := share
    rw [kind, share] at hns
    obtain ⟨u, hu⟩ : ∃ u, u = withdrawShare (s.setNotices rest) st y := ⟨_, rfl⟩
    have notices : u.notices = ns := by rw [hu, whole]; rfl
    have frame : onlyChanges [.stations, .planner] s u := by
      rw [hu, whole]
      exact ((((onlyChanges_refl _ s).setNotices rest).discardPlan (by simp) (by simp) st).setStation (by simp) st _).setNotices _
    have own : u.station st = { s.station st with work := .traced, held := none, plan := none } := by
      rw [hu, whole]
      exact becomeTraced_discardPlan_own (s.setNotices rest) st
    rw [← hu] at e
    refine ⟨_, e, own, frame.2.2.2 .history (by simp), ?_, ?_, fun z idle other => ?_, ?_, frame.settle s⟩
    · refine mem_settle_of_mem ?_
      rw [notices, hns]
      simp
    · have left : partnerShareLeft s (discardPlan (s.setNotices rest) st) st := discardPlan_partner (s.setNotices rest) st
      refine left.of_same ?_ ?_
      · rw [station_settle, hu, whole]
        exact station_setStation_other _ _ _
      · rw [settle_planner, hu, whole]
        rfl
    · refine mem_settle_of_mem ?_
      have idle : idlePartner (s.setNotices rest) st = true := idle
      have other : shareOf (s.setNotices rest) (otherStation st) = some z := other
      rw [notices, hns, if_pos idle, other]
      simp
    · refine handsOn_settle_of ?_
      rw [notices, hns, List.append_assoc]
      exact List.prefix_append _ _
  case kept =>
    have due : (s.station st).occupant = some r.serial ∧
        ((s.station st).work = .planned ∨ heldBeforeCut (s.station st) = true) :=
      ⟨occupant, state.imp_right (heldBeforeCut_iff _).mpr⟩
    have fresh : staleField q x = none := (staleField_eq q x).trans (hfield.symm.trans none_)
    exact event_notice_quiet w (by
      refine (if_pos due).trans ?_
      have found : findRecord (s.setNotices rest).history r.serial = some q := found
      have share : shareOf (s.setNotices rest) st = some x := share
      rw [found, share]
      dsimp only
      rw [fresh]) (settle_setNotices s rest)
  case passed =>
    refine event_notice_quiet w (by
      refine if_neg fun due => ?_
      rcases due.2 with planned | before
      · exact unplanned planned
      · exact absurd (before.symm.trans (heldBeforeCut_false other)) (by simp)) (settle_setNotices s rest)

end Sys2Proof.Machine

/-! ### Cuts that begin (R166 to R168) -/

namespace Sys2Proof.Machine

section
variable {s t : State}

/-! ### Requests that name one station or both -/

theorem namesOne_of_asks {f : Frame} {k : Nat} {b : Byte} {st : StationId} (asked : asks s f k [b])
    (named : stationOf b = some st) : namesOne k f = true := by
  obtain ⟨-, -, kind, body⟩ := asked
  have one : b ≠ 3 := by
    rintro rfl
    exact absurd named (by simp [stationOf])
  simpa [namesOne, ofKind, kind, body] using one

theorem namesBoth_of_asks {f : Frame} {k : Nat} (asked : asks s f k [3]) : namesBoth k f = true := by
  obtain ⟨-, -, kind, body⟩ := asked
  simp [namesBoth, ofKind, kind, body]

theorem event_serve_unchanged_mine {α : Type} {mine : Frame → Bool} {parse : Bytes → Option α}
    {own : State → α → State × ReplyBody} {f : Frame} {k : Nat} {body : Bytes} {a : α} {r : ReplyBody}
    (asked : asks s f k body) (known : 1 ≤ k ∧ k ≤ 42) (own_ : mine f = true) (read : parse body = some a)
    (made : own s a = (s, r)) :
    ∃ t, event s (serve mine parse own) = .next t ∧ answered s f t r ∧ t.notices = s.notices ∧ onlyChanges [.link] s t := by
  refine ⟨answer s f r, ?_, answer_answered s s f r rfl, rfl, answer_onlyChanges s f r⟩
  rw [event_serve_mine asked known own_ read made, settle_answer]

/-! ### A cut begins (R168) -/

/-- The passes that a station's heads are handed. -/
def cutTasks (s : State) (st : StationId) (d : Side) : HeadTask := .passes (stationPasses s st d) 0

/-- The record of a station whose cut has just begun. -/
def cuttingRecord (p : Plan) (s : State) (st : StationId) : Station :=
  handedStation { s.station st with
    reservation := cutReservation p st, recuts := 0, progress := noProgress, deferred := none, operation := some .cut
    work := .cutting, held := none, accepted := false } (cutTasks s st)

theorem stationPasses_congr {st : StationId} (share : shareOf t st = shareOf s st) (d : Side) :
    stationPasses t st d = stationPasses s st d := by
  unfold stationPasses
  rw [share]

theorem beginCut_eq (p : Plan) (s : State) (st : StationId) : beginCut p s st =
    send (s.setStation st (cuttingRecord p s st)) (taskNotices st (cutTasks s st)) := by
  unfold beginCut
  dsimp only
  rw [handTasks_eq, station_setStation_same, setStation_setStation]
  have same (v : State) (share : shareOf v st = shareOf s st) : (fun d => HeadTask.passes (stationPasses v st d) 0) =
      cutTasks s st := funext fun d => by rw [stationPasses_congr share]; rfl
  rw [same]
  · rfl
  · exact shareOf_setStation rfl

theorem beginCut_shareOf (p : Plan) (s : State) (st o : StationId) : shareOf (beginCut p s st) o = shareOf s o := by
  rw [beginCut_eq]
  exact shareOf_setStation_kept (x := cuttingRecord p s st) rfl o

theorem cuttingRecord_congr {p : Plan} {st : StationId} (station : t.station st = s.station st)
    (share : shareOf t st = shareOf s st) : cuttingRecord p t st = cuttingRecord p s st ∧ cutTasks t st = cutTasks s st := by
  have tasks : cutTasks t st = cutTasks s st := funext fun d => by
    unfold cutTasks
    rw [stationPasses_congr share]
  unfold cuttingRecord
  rw [station, tasks]
  exact ⟨rfl, rfl⟩

/-- What the beginning of the cuts of some stations leaves. -/
structure CutsBegun (p : Plan) (s t : State) (sts : List StationId) : Prop where
  begun : ∀ st ∈ sts, t.station st = cuttingRecord p s st ∧ ∀ n ∈ taskNotices st (cutTasks s st), n ∈ t.notices
  others : ∀ st, st ∉ sts → t.station st = s.station st
  handed : s.notices <+: t.notices
  frame : onlyChanges [.stations] s t

theorem beginCuts_begun (p : Plan) (sts : List StationId) (apart : sts.Nodup) (s : State) :
    CutsBegun p s (sts.foldl (beginCut p) s) sts := by
  induction sts generalizing s with
  | nil => exact ⟨fun _ mem => (nomatch mem), fun _ _ => rfl, List.prefix_refl _, onlyChanges_refl _ s⟩
  | cons x xs ih =>
    obtain ⟨fresh, apart⟩ := List.nodup_cons.mp apart
    obtain ⟨begun, others, handed, frame⟩ := ih apart (beginCut p s x)
    rw [List.foldl_cons]
    have first := beginCut_eq p s x
    have own : (beginCut p s x).station x = cuttingRecord p s x := by rw [first]; exact station_setStation_same _ _ _
    have other {st : StationId} (ne : st ≠ x) : (beginCut p s x).station st = s.station st := by
      rw [first]
      exact station_setStation_ne _ ne _
    have notices : (beginCut p s x).notices = s.notices ++ taskNotices x (cutTasks s x) := by rw [first]; rfl
    refine ⟨fun st mem => ?_, fun st out => ?_, ?_, ?_⟩
    · rcases List.mem_cons.mp mem with rfl | later
      · refine ⟨(others st fresh).trans own, fun n task => handed.subset ?_⟩
        rw [notices]
        exact List.mem_append_right _ task
      · obtain ⟨record, tasks⟩ := begun st later
        have ne : st ≠ x := fun same => fresh (same ▸ later)
        obtain ⟨sameRecord, sameTasks⟩ := cuttingRecord_congr (p := p) (other ne) (beginCut_shareOf p s x st)
        rw [sameRecord] at record
        rw [sameTasks] at tasks
        exact ⟨record, tasks⟩
    · obtain ⟨ne, out⟩ := List.ne_and_not_mem_of_not_mem_cons out
      exact (others st out).trans (other ne)
    · refine List.IsPrefix.trans ?_ handed
      rw [notices]
      exact List.prefix_append _ _
    · refine onlyChanges.trans ?_ frame
      rw [first]
      exact ((onlyChanges_refl _ s).setStation (by simp) x _).send _

/-- Cuts begun, as the obligations say it, after the event's end. -/
theorem CutsBegun.begins {p : Plan} {sts : List StationId} (cuts : CutsBegun p s t sts) {st : StationId} (mem : st ∈ sts)
    (o : State) (f : Frame) (r : ReplyBody) : cutBegins s (settle o (answer t f r)) st p := by
  obtain ⟨record, tasks⟩ := cuts.begun st mem
  have own : (settle o (answer t f r)).station st = cuttingRecord p s st := by rw [station_settle, station_answer, record]
  unfold cutBegins
  rw [own]
  refine ⟨rfl, rfl, rfl, rfl, rfl, rfl, rfl, rfl, rfl, rfl, fun d => ⟨mem_settle_of_mem (tasks _ ?_), ?_⟩⟩
  · exact mem_taskNotices st (cutTasks s st) d
  · exact handedStation_handed _ (cutTasks s st) d

/-! ### STALE-PLAN (R167) -/

/-- A station whose share a CUT START refused STALE-PLAN discards. -/
def staleAt (s : State) (slot : PlanSlot) (st : StationId) : Prop :=
  (s.station st).plan = some slot ∧ ((s.station st).work = .planned ∨ (s.station st).work = .held) ∧
  (s.station st).reservation = 0

theorem dropStale_pos {slot : PlanSlot} {st : StationId} (stale : staleAt s slot st) : dropStale slot s st = idled s st :=
  if_pos stale

theorem dropStale_neg {slot : PlanSlot} {st : StationId} (not : ¬ staleAt s slot st) : dropStale slot s st = s := if_neg not

/-- The record of a station whose share has been dropped. -/
def droppedRecord (x : Station) : Station := { x with work := .traced, held := none, plan := none }

/-- A station dropped leaves the other as it was, but for the plan reference of a CONDEMNED share. -/
theorem idled_other_cases (s : State) (st : StationId) :
    (idled s st).station (otherStation st) = s.station (otherStation st) ∨
    (idled s st).station (otherStation st) = { s.station (otherStation st) with plan := none } := by
  rw [idled_other]
  exact releaseShare_other s st

theorem idled_other_survives {st : StationId} (same : (s.station (otherStation st)).plan = (s.station st).plan)
    (survives : shareCondemned (shareOf s (otherStation st)) = false) :
    (idled s st).station (otherStation st) = s.station (otherStation st) := by
  rw [idled_other]
  exact ((releaseShare_partner same).2 survives).1

/-- Both stations passed in either order: what becomes of a station with a share that survives. -/
theorem dropStale_both_own {slot : PlanSlot} {st : StationId} (stale : staleAt s slot st)
    (survives : shareCondemned (shareOf s st) = false) (first : StationId) :
    (dropStale slot (dropStale slot s first) (otherStation first)).station st = droppedRecord (s.station st) := by
  rcases station_cases first st with here | there
  · subst here
    rw [dropStale_pos stale]
    have own := idled_own s st
    by_cases other : staleAt (idled s st) slot (otherStation st)
    · rw [dropStale_pos other]
      have kept := idled_other_cases (idled s st) (otherStation st)
      rw [otherStation_otherStation, own] at kept
      exact kept.elim id id
    · rw [dropStale_neg other]
      exact own
  · have back : first = otherStation st := by rw [there, otherStation_otherStation]
    subst back
    rw [otherStation_otherStation]
    by_cases other : staleAt s slot (otherStation st)
    · rw [dropStale_pos other]
      have kept : (idled s (otherStation st)).station st = s.station st := by
        have same : (s.station (otherStation (otherStation st))).plan = (s.station (otherStation st)).plan := by
          rw [otherStation_otherStation, stale.1, other.1]
        have survives : shareCondemned (shareOf s (otherStation (otherStation st))) = false := by
          rw [otherStation_otherStation]; exact survives
        have kept := idled_other_survives same survives
        rwa [otherStation_otherStation] at kept
      have still : staleAt (idled s (otherStation st)) slot st := by
        unfold staleAt
        rw [kept]
        exact stale
      rw [dropStale_pos still, idled_own, kept]
      rfl
    · rw [dropStale_neg other, dropStale_pos stale, idled_own]
      rfl

theorem idlePartner_of_stale {slot : PlanSlot} {st : StationId} (stale : staleAt s slot st)
    (same : (s.station (otherStation st)).plan = (s.station st).plan) :
    idlePartner s st = true ↔ staleAt s slot (otherStation st) := by
  rw [idlePartner_iff, same, stale.1]
  unfold staleAt
  rw [same, stale.1]
  simp

/-- A station that is not dropped with the other stays so. -/
theorem not_staleAt_idled {slot : PlanSlot} {st : StationId} (not : ¬ staleAt s slot (otherStation st)) :
    ¬ staleAt (idled s st) slot (otherStation st) := by
  unfold staleAt at not ⊢
  rcases idled_other_cases s st with same | gone
  · rw [same]
    exact not
  · rw [gone]
    exact fun stale => nomatch stale.1

/-- Both stations passed in either order: what becomes of the other station of the plan. -/
theorem dropStale_both_partner {slot : PlanSlot} {st : StationId} (stale : staleAt s slot st) (fits : ∀ x, shareFits s x)
    (first : StationId) :
    partnerShareLeft s (dropStale slot (dropStale slot s first) (otherStation first)) st := by
  intro same
  have surviving {x : StationId} (stale : staleAt s slot x) : shareCondemned (shareOf s x) = false := by
    rw [Bool.eq_false_iff]
    intro condemned
    obtain ⟨planned, held, -, -⟩ := fits x condemned
    exact stale.2.1.elim planned held
  by_cases other : staleAt s slot (otherStation st)
  · rw [if_pos ((idlePartner_of_stale stale same).mpr other)]
    exact dropStale_both_own other (surviving other) first
  · rw [if_neg (fun idle => other ((idlePartner_of_stale stale same).mp idle))]
    have whole : dropStale slot (dropStale slot s first) (otherStation first) = idled s st := by
      rcases station_cases first st with here | there
      · subst here
        rw [dropStale_pos stale, dropStale_neg (not_staleAt_idled other)]
      · have back : first = otherStation st := by rw [there, otherStation_otherStation]
        subst back
        rw [otherStation_otherStation, dropStale_neg other, dropStale_pos stale]
    rw [whole]
    have share : shareOf (idled s st) (otherStation st) = shareOf (releaseShare s st) (otherStation st) := by
      rw [shareOf_eq, shareOf_eq, planOf_eq, planOf_eq, idled_other]
      rfl
    obtain ⟨condemned, survives⟩ := releaseShare_partner same
    rw [idled_other, share]
    by_cases out : shareCondemned (shareOf s (otherStation st)) = true
    · rw [if_pos out]
      exact condemned out
    · rw [if_neg out]
      exact survives (Bool.not_eq_true _ ▸ out)

theorem dropStale_keeps (slot : PlanSlot) (s : State) (st : StationId) :
    (dropStale slot s st).notices = s.notices ∧ onlyChanges [.stations, .planner] s (dropStale slot s st) := by
  by_cases stale : staleAt s slot st
  · rw [dropStale_pos stale]
    exact ⟨idled_notices s st, (onlyChanges_refl _ s).idled (by simp) (by simp) st⟩
  · rw [dropStale_neg stale]
    exact ⟨rfl, onlyChanges_refl _ s⟩

/-- The state after a CUT START refused STALE-PLAN. -/
def staleDropped (slot : PlanSlot) (s : State) : State := stationIds.foldl (dropStale slot) s

theorem staleDropped_eq (slot : PlanSlot) (s : State) :
    staleDropped slot s = dropStale slot (dropStale slot s .A) (otherStation .A) := rfl

theorem staleDropped_keeps (slot : PlanSlot) (s : State) :
    (staleDropped slot s).notices = s.notices ∧ onlyChanges [.stations, .planner] s (staleDropped slot s) := by
  rw [staleDropped_eq]
  obtain ⟨notices, frame⟩ := dropStale_keeps slot s .A
  obtain ⟨notices', frame'⟩ := dropStale_keeps slot (dropStale slot s .A) (otherStation .A)
  exact ⟨notices'.trans notices, frame.trans frame'⟩

/-- The refusal's event: the reply, and what it leaves of the notices and the other parts. -/
theorem staleDropped_event (slot : PlanSlot) (s : State) (f : Frame) (r : ReplyBody) :
    answered s f (settle s (answer (staleDropped slot s) f r)) r ∧
    onlyViews s.notices (settle s (answer (staleDropped slot s) f r)) ∧
    onlyChanges [.link, .stations, .planner] s (settle s (answer (staleDropped slot s) f r)) := by
  obtain ⟨notices, frame⟩ := staleDropped_keeps slot s
  have history : (staleDropped slot s).history = s.history := frame.2.2.2 .history (by simp)
  refine ⟨settle_answered f r (frame.2.2.2 .link (by simp)), settle_onlyViews notices ?_,
    ((frame.mono (by simp)).answer (by simp) f r).settle s⟩
  rw [answer_history, history]

theorem mem_survivors {p : Plan} {st : StationId} :
    st ∈ survivors p ↔ (p.shares.get st).isSome = true ∧ shareCondemned (p.shares.get st) = false := by
  have all : st ∈ stationIds := by cases st <;> decide
  simp [survivors, all]

theorem survivors_nodup (p : Plan) : (survivors p).Nodup := List.Nodup.filter _ (by decide)

/-- The stations of a joint plan ready to be cut: both refer to it, and each survivor is PLANNED (R166). -/
theorem jointReady_spec {p : Plan} (plan : planOf s .A = some p) (ready : jointReady s p = true) :
    (s.station .A).plan = (s.station .B).plan ∧ (∀ st ∈ survivors p, (s.station st).work = .planned) ∧
    ∀ st, planOf s st = some p := by
  simp only [jointReady, Bool.and_eq_true, List.all_eq_true, beq_iff_eq] at ready
  obtain ⟨⟨⟨⟨-, same⟩, -⟩, -⟩, planned⟩ := ready
  refine ⟨same, planned, fun st => ?_⟩
  cases st with
  | A => exact plan
  | B => rw [planOf_eq, ← same]; exact plan

end

/-- Settles O53: the cuts begin one station at a time, and a stale plan's shares are dropped whatever the order of the stations. -/
theorem cutStartBeginsCuts : Obligations.CutStartBeginsCuts := by
  refine ⟨fun s f b st slot p asked named ref plan planned => ⟨fun met => ?begin_, fun reason detail failing other => ?refuse,
      fun detail failing unreserved fits => ?stale⟩, fun s f slot p asked ref plan ready met => ?both,
    fun s f b st asked named unready => ?wrong, fun s f asked unready => ?wrongBoth,
    fun s f p reason detail asked plan ready failing => ⟨fun other => ?refuseBoth, fun stale => ?staleBoth⟩⟩
  case begin_ =>
    have cuts := beginCuts_begun p [st] (List.nodup_singleton st) s
    have e : exec .cutStart s = .next (settle s (answer (beginCut p s st) f .started)) :=
      event_serve_mine asked (by decide) (namesOne_of_asks asked named) named (by
        rw [ref, plan]
        dsimp only
        rw [if_neg (not_not.mpr planned), met])
    have only : onlyStation s (beginCut p s st) st := by
      rw [beginCut_eq]
      exact ((onlyStation_refl s st).setStation _).of_stations rfl
    exact ⟨_, e, settle_answered f _ (by rw [beginCut_eq]; rfl), only.of_stations rfl, cuts.begins (List.mem_singleton_self st) s f _,
      handsOn_settle_of cuts.handed, ((cuts.frame.mono (by simp)).answer (by simp) f _).settle s⟩
  case refuse =>
    exact event_serve_unchanged_mine asked (by decide) (namesOne_of_asks asked named) named (by
      rw [ref, plan]
      dsimp only
      rw [if_neg (not_not.mpr planned), failing]
      exact if_neg other)
  case stale =>
    have e : exec .cutStart s = .next (settle s (answer (staleDropped slot s) f (.refused .stalePlan detail))) :=
      event_serve_mine asked (by decide) (namesOne_of_asks asked named) named (by
        rw [ref, plan]
        dsimp only
        rw [if_neg (not_not.mpr planned), failing]
        exact if_pos rfl)
    have stale : staleAt s slot st := ⟨ref, Or.inl planned, unreserved⟩
    have survives : shareCondemned (shareOf s st) = false := by
      rw [Bool.eq_false_iff]
      exact fun condemned => (fits st condemned).1 planned
    obtain ⟨replied, views, frame⟩ := staleDropped_event slot s f (.refused .stalePlan detail)
    refine ⟨_, e, replied, ?_, ?_, views, frame⟩
    · rw [station_settle, station_answer, staleDropped_eq]
      exact dropStale_both_own stale survives .A
    · exact (dropStale_both_partner stale fits .A).of_same rfl rfl
  case both =>
    have cuts := beginCuts_begun p (survivors p) (survivors_nodup p) s
    have e : exec .cutStartBoth s = .next (settle s (answer ((survivors p).foldl (beginCut p) s) f .started)) :=
      event_serve_mine asked (by decide) (namesBoth_of_asks asked) (if_pos rfl) (by
        rw [ref, plan]
        dsimp only
        rw [if_pos ready, met])
    exact ⟨_, e, settle_answered f _ (cuts.frame.2.2.2 .link (by simp)),
      fun st => ⟨fun mem => cuts.begins mem s f _, fun out => cuts.others st out⟩, handsOn_settle_of cuts.handed,
      ((cuts.frame.mono (by simp)).answer (by simp) f _).settle s⟩
  case wrong =>
    exact event_serve_unchanged_mine asked (by decide) (namesOne_of_asks asked named) named (by
      cases ref : (s.station st).plan with
      | none => rfl
      | some slot =>
        cases plan : planOf s st with
        | none => rfl
        | some p => exact if_pos (unready.resolve_right (by simp [plan])))
  case wrongBoth =>
    exact event_serve_unchanged_mine asked (by decide) (namesBoth_of_asks asked) (if_pos rfl) (by
      cases ref : (s.station .A).plan with
      | none => rfl
      | some slot =>
        cases plan : planOf s .A with
        | none => rfl
        | some p => exact if_neg (by rw [unready p plan]; exact Bool.false_ne_true))
  case refuseBoth =>
    obtain ⟨slot, ref, -⟩ := Option.bind_eq_some_iff.mp plan
    exact event_serve_unchanged_mine asked (by decide) (namesBoth_of_asks asked) (if_pos rfl) (by
      rw [ref, plan]
      dsimp only
      rw [if_pos ready, failing]
      exact if_neg other)
  case staleBoth =>
    obtain ⟨slot, ref, -⟩ := Option.bind_eq_some_iff.mp plan
    subst stale
    have e : exec .cutStartBoth s = .next (settle s (answer (staleDropped slot s) f (.refused .stalePlan detail))) :=
      event_serve_mine asked (by decide) (namesBoth_of_asks asked) (if_pos rfl) (by
        rw [ref, plan]
        dsimp only
        rw [if_pos ready, failing]
        exact if_pos rfl)
    obtain ⟨same, planned, plans⟩ := jointReady_spec plan ready
    obtain ⟨replied, views, frame⟩ := staleDropped_event slot s f (.refused .stalePlan detail)
    refine ⟨_, e, replied, fun st mem unreserved => ?_, views, frame⟩
    have refs : (s.station st).plan = some slot := by
      cases st with
      | A => exact ref
      | B => exact same.symm.trans ref
    have stale : staleAt s slot st := ⟨refs, Or.inl (planned st mem), unreserved⟩
    have survives : shareCondemned (shareOf s st) = false := by
      rw [shareOf_eq, plans st]
      exact (mem_survivors.mp mem).2
    have own : (settle s (answer (staleDropped slot s) f (.refused .stalePlan detail))).station st =
        droppedRecord (s.station st) := dropStale_both_own stale survives .A
    rw [own]
    exact ⟨rfl, rfl, rfl, fun fits => (dropStale_both_partner stale fits .A).of_same rfl rfl⟩

end Sys2Proof.Machine

/-! ### Records found, changed and appended to (R183, R185, R186) -/

namespace Sys2Proof.Machine

section
variable {s t : State} {r : WheelsetRecord} {body : EntryBody} {upd : WheelsetRecord → WheelsetRecord}

/-! ### One record changed -/

/-- The record found after one has been replaced: the replacement under its own serial, and any other as it was. -/
theorem findRecord_replace {h k : History} (records : k.records = replaceRecord h.records r)
    (found : (findRecord h r.serial).isSome = true) :
    findRecord k r.serial = some r ∧ ∀ other, other ≠ r.serial → findRecord k other = findRecord h other := by
  have find (serial : Serial) : findRecord k serial =
      (findRecord h serial).map (fun q => if q.serial = r.serial then r else q) := by
    rw [findRecord, records]
    exact find_replaceRecord h.records r serial
  refine ⟨?_, fun other apart => ?_⟩
  · obtain ⟨q, hq⟩ := Option.isSome_iff_exists.mp found
    rw [find, hq, Option.map_some, if_pos (findRecord_serial hq)]
  · rw [find]
    cases held : findRecord h other with
    | none => rfl
    | some q => rw [Option.map_some, if_neg (fun same => apart ((findRecord_serial held).symm.trans same))]

/-- A record after a change that appends nothing (R183). -/
def changedRecord (r : WheelsetRecord) (upd : WheelsetRecord → WheelsetRecord) : WheelsetRecord :=
  { upd r with revision := r.revision + 1 }

theorem changeRecord_eq (found : findRecord s.history r.serial = some r) : changeRecord s r.serial upd =
    send (s.setHistory { s.history with records := replaceRecord s.history.records (changedRecord r upd) })
      (changedNotices s (changedRecord r upd)) := by
  unfold changeRecord
  rw [found]
  rfl

theorem findRecord_changeRecord (found : findRecord s.history r.serial = some r) (keeps : (upd r).serial = r.serial) :
    findRecord (changeRecord s r.serial upd).history r.serial = some (changedRecord r upd) ∧
    ∀ other, other ≠ r.serial →
      findRecord (changeRecord s r.serial upd).history other = findRecord s.history other := by
  have serial : (changedRecord r upd).serial = r.serial := keeps
  rw [changeRecord_eq found, ← serial]
  exact findRecord_replace rfl (by rw [serial, found]; rfl)

/-! ### An entry appended -/

/-- The entry that an append makes (R185). -/
def nextEntry (s : State) (body : EntryBody) : Entry := { seq := s.history.counter + 1, stamp := s.clock, body := body }

/-- A record after an append (R186). -/
def appendedRecord (s : State) (r : WheelsetRecord) (body : EntryBody) (upd : WheelsetRecord → WheelsetRecord) :
    WheelsetRecord :=
  { upd r with entries := (pushEntry r.serial r.entries s.history.exportQueue (nextEntry s body)).1, revision := r.revision + 1 }

theorem append_eq (found : findRecord s.history r.serial = some r) : append s r.serial body upd =
    send (s.setHistory
      { records := replaceRecord s.history.records (appendedRecord s r body upd)
        exportQueue := (pushEntry r.serial r.entries s.history.exportQueue (nextEntry s body)).2
        counter := s.history.counter + 1 })
      (changedNotices s (appendedRecord s r body upd)) := by
  unfold append
  rw [found]
  rfl

theorem append_missing {serial : Serial} (missing : findRecord s.history serial = none) : append s serial body upd = s := by
  unfold append
  rw [missing]

theorem findRecord_append (found : findRecord s.history r.serial = some r) (keeps : (upd r).serial = r.serial) :
    findRecord (append s r.serial body upd).history r.serial = some (appendedRecord s r body upd) ∧
    ∀ other, other ≠ r.serial →
      findRecord (append s r.serial body upd).history other = findRecord s.history other := by
  have serial : (appendedRecord s r body upd).serial = r.serial := keeps
  rw [append_eq found, ← serial]
  exact findRecord_replace rfl (by rw [serial, found]; rfl)

/-- An append to a record leaves every other serial's record as it was. -/
theorem findRecord_append_other {serial other : Serial} (keeps : ∀ q, (upd q).serial = q.serial) (apart : other ≠ serial) :
    findRecord (append s serial body upd).history other = findRecord s.history other := by
  cases found : findRecord s.history serial with
  | none => rw [append_missing found]
  | some r =>
    have own := findRecord_serial found
    subst own
    exact (findRecord_append found (keeps r)).2 other apart

theorem append_counter (found : findRecord s.history r.serial = some r) :
    (append s r.serial body upd).history.counter = s.history.counter + 1 := by
  rw [append_eq found]
  rfl

theorem append_handed (s : State) (serial : Serial) (body : EntryBody) (upd : WheelsetRecord → WheelsetRecord) :
    s.notices <+: (append s serial body upd).notices := by
  unfold append
  split
  · exact List.prefix_refl _
  · exact List.prefix_append _ _

theorem changeRecord_handed (s : State) (serial : Serial) (upd : WheelsetRecord → WheelsetRecord) :
    s.notices <+: (changeRecord s serial upd).notices := by
  unfold changeRecord
  split
  · exact List.prefix_refl _
  · exact List.prefix_append _ _

theorem onlyChanges.append {ps : List Part} (h : onlyChanges ps s t) (history : Part.history ∈ ps) (serial : Serial)
    (body : EntryBody) (upd : WheelsetRecord → WheelsetRecord) : onlyChanges ps s (append t serial body upd) := by
  unfold Machine.append
  split
  · exact h
  · exact (h.setHistory history _).send _

theorem onlyChanges.changeRecord {ps : List Part} (h : onlyChanges ps s t) (history : Part.history ∈ ps) (serial : Serial)
    (upd : WheelsetRecord → WheelsetRecord) : onlyChanges ps s (changeRecord t serial upd) := by
  unfold Machine.changeRecord
  split
  · exact h
  · exact (h.setHistory history _).send _

/-! ### The list of a record (R186) -/

theorem mem_pushEntry (serial : Serial) (es : List Entry) (q : List ExportEntry) (e : Entry) :
    e ∈ (pushEntry serial es q e).1 := by
  by_cases short : es.length < 12
  · rw [pushEntry_short serial es q e short]
    exact List.mem_append_right _ (List.mem_singleton_self e)
  · cases es with
    | nil => exact absurd (by decide) short
    | cons oldest rest =>
      rw [pushEntry_full serial oldest rest q e (Nat.not_lt.mp short)]
      exact List.mem_append_right _ (List.mem_singleton_self e)

/-- The newest entry of a list stays in it when one more joins. -/
theorem newest_mem_pushEntry (serial : Serial) {es : List Entry} (q : List ExportEntry) (e : Entry) {newest : Entry}
    (last : es.getLast? = some newest) : newest ∈ (pushEntry serial es q e).1 := by
  have mem := List.mem_of_getLast? last
  by_cases short : es.length < 12
  · rw [pushEntry_short serial es q e short]
    exact List.mem_append_left _ mem
  · cases es with
    | nil => nomatch mem
    | cons oldest rest =>
      rw [pushEntry_full serial oldest rest q e (Nat.not_lt.mp short)]
      cases rest with
      | nil => exact absurd (by simp) short
      | cons second later =>
        refine List.mem_append_left _ (List.mem_of_getLast? ?_)
        rwa [List.getLast?_cons_cons] at last

theorem getLast_pushEntry (serial : Serial) (es : List Entry) (q : List ExportEntry) (e : Entry) :
    (pushEntry serial es q e).1.getLast? = some e := by
  by_cases short : es.length < 12
  · rw [pushEntry_short serial es q e short]
    exact List.getLast?_concat
  · cases es with
    | nil => exact absurd (by decide) short
    | cons oldest rest =>
      rw [pushEntry_full serial oldest rest q e (Nat.not_lt.mp short)]
      exact List.getLast?_concat

theorem mem_appendedRecord (s : State) (r : WheelsetRecord) (body : EntryBody) (upd : WheelsetRecord → WheelsetRecord) :
    nextEntry s body ∈ (appendedRecord s r body upd).entries := mem_pushEntry _ _ _ _

/-- The first entry of a record's list. -/
theorem appendedRecord_first (empty : r.entries = []) : (appendedRecord s r body upd).entries = [nextEntry s body] := by
  change (pushEntry _ r.entries _ _).1 = _
  rw [empty]
  rfl

/-- A first entry moves none into the Export Queue. -/
theorem append_first_queue (found : findRecord s.history r.serial = some r) (empty : r.entries = []) :
    (append s r.serial body upd).history.exportQueue = s.history.exportQueue := by
  rw [append_eq found, empty]
  rfl

/-- An event that appends to and changes records: what it hands on. -/
theorem handsOn_answer_settle {u : State} (o : State) (f : Frame) (b : ReplyBody) (handed : s.notices <+: u.notices) :
    handsOn s.notices (settle o (answer u f b)) := handsOn_settle_of (n := answer u f b) handed

theorem revisionOf_of_found {serial : Serial} (found : findRecord s.history serial = some r) :
    revisionOf s serial = r.revision := by
  unfold revisionOf
  rw [found]
  rfl

/-! ### Records displaced (R194) -/

theorem displace_eq {p : Position} (holds : r.position = some p) (cause : Serial) :
    displace s r cause = append s r.serial (.unfitted p (some cause)) (fun x => { x with position := none }) := by
  unfold displace
  rw [holds]

/-- The holder of a position that another serial takes, once displaced (R194). -/
theorem findRecord_displaced {p : Position} (holds : r.position = some p) (found : findRecord s.history r.serial = some r)
    (cause : Serial) : ∃ x, findRecord (displace s r cause).history r.serial = some x ∧ x.position = none ∧
      x.revision = r.revision + 1 ∧ nextEntry s (.unfitted p (some cause)) ∈ x.entries := by
  rw [displace_eq holds]
  exact ⟨_, (findRecord_append found rfl).1, rfl, rfl, mem_appendedRecord _ _ _ _⟩

theorem displace_counter {p : Position} (holds : r.position = some p) (found : findRecord s.history r.serial = some r)
    (cause : Serial) : (displace s r cause).history.counter = s.history.counter + 1 := by
  rw [displace_eq holds]
  exact append_counter found

theorem findRecord_displace_other (s : State) (r : WheelsetRecord) (cause : Serial) {other : Serial}
    (apart : other ≠ r.serial) : findRecord (displace s r cause).history other = findRecord s.history other := by
  unfold displace
  split
  · rfl
  · exact findRecord_append_other (fun _ => rfl) apart

theorem onlyChanges.displace {ps : List Part} (h : onlyChanges ps s t) (history : Part.history ∈ ps) (r : WheelsetRecord)
    (cause : Serial) : onlyChanges ps s (displace t r cause) := by
  unfold Machine.displace
  split
  · exact h
  · exact h.append history _ _ _

theorem displace_handed (s : State) (r : WheelsetRecord) (cause : Serial) : s.notices <+: (displace s r cause).notices := by
  unfold displace
  split
  · exact List.prefix_refl _
  · exact append_handed _ _ _ _

theorem displace_clock (s : State) (r : WheelsetRecord) (cause : Serial) : (displace s r cause).clock = s.clock := by
  unfold displace
  split
  · rfl
  · exact append_clock _ _ _ _

theorem findRecord_freed (s : State) (serial : Serial) (p : Option Position) :
    findRecord (freed s serial p).history serial = findRecord s.history serial := by
  unfold freed
  split
  · rfl
  next q holder => exact findRecord_displace_other s q serial (otherHolder_spec holder).2.2.symm

theorem freed_keeps (s : State) (serial : Serial) (p : Option Position) : (freed s serial p).clock = s.clock ∧
    s.notices <+: (freed s serial p).notices ∧ onlyChanges [.history] s (freed s serial p) := by
  unfold freed
  split
  · exact ⟨rfl, List.prefix_refl _, onlyChanges_refl _ s⟩
  next q _ => exact ⟨displace_clock s q serial, displace_handed s q serial, (onlyChanges_refl _ s).displace (by simp) q serial⟩

end

end Sys2Proof.Machine

/-! ### Records entered, fitted, amended and retired (R192 to R197, R201) -/

namespace Sys2Proof.Machine

section
variable {s t : State} {r : WheelsetRecord}

/-! ### RECORD ENTER (R192, R194) -/

/-- The state with a new record at the end of the store (R192). -/
def joined (s : State) (r : WheelsetRecord) : State :=
  s.setHistory { s.history with records := s.history.records ++ [r] }

theorem entered_eq (s : State) (e : EnterFields) :
    entered s e = joined (freed s e.serial e.position) (newRecord e) := rfl

theorem findRecord_joined (fresh : findRecord s.history r.serial = none) :
    findRecord (joined s r).history r.serial = some r ∧
    ∀ other, other ≠ r.serial → findRecord (joined s r).history other = findRecord s.history other := by
  refine ⟨?_, fun other apart => ?_⟩
  · change (s.history.records ++ [r]).find? (fun q => q.serial == r.serial) = some r
    have none_ : s.history.records.find? (fun q => q.serial == r.serial) = none := fresh
    rw [List.find?_append, none_]
    simp
  · change (s.history.records ++ [r]).find? (fun q => q.serial == other) = _
    rw [List.find?_append, List.find?_singleton, if_neg (by simpa using apart.symm), Option.or_none]
    rfl

/-- A replacement in a store to whose end a fresh record came replaces that record alone. -/
theorem replaceRecord_joined {rs : List WheelsetRecord} {r r' : WheelsetRecord}
    (fresh : rs.find? (fun q => q.serial == r.serial) = none) (same : r'.serial = r.serial) :
    replaceRecord (rs ++ [r]) r' = rs ++ [r'] := by
  have others : ∀ q ∈ rs, q.serial ≠ r'.serial := by
    rw [same]
    simpa using fresh
  unfold replaceRecord
  rw [List.map_append, List.map_singleton, if_pos same.symm]
  exact congrArg (· ++ [r']) ((List.map_congr_left fun q mem => if_neg (others q mem)).trans (List.map_id _))

/-- The new record once its FITTED entry stands in it, or at once without a position (R192). -/
theorem enterRecord_found {e : EnterFields} (fresh : findRecord s.history e.serial = none) : ∃ q,
    findRecord (enterRecord s e).history e.serial = some q ∧
    (∃ entries, q = { newRecord e with revision := 1, entries := entries }) ∧
    (e.position = none → q.entries = [] ∧ (enterRecord s e).history.counter = s.history.counter) ∧
    (∀ p, e.position = some p → q.entries =
      [{ seq := (enterRecord s e).history.counter, stamp := s.clock, body := .fitted p none }]) ∧
    (otherHolder s e.serial e.position = none → (enterRecord s e).history.records = s.history.records ++ [q] ∧
      (enterRecord s e).history.exportQueue = s.history.exportQueue) := by
  cases given : e.position with
  | none =>
    have first : (newRecord e).revision = 1 := by simp [newRecord, given]
    rw [enterRecord_unplaced given, entered_eq, freed_alone (by rw [given]; rfl)]
    refine ⟨newRecord e, (findRecord_joined (r := newRecord e) fresh).1, ⟨[], ?_⟩, fun _ => ⟨rfl, rfl⟩, fun p no => (nomatch no),
      fun _ => ⟨rfl, rfl⟩⟩
    rw [← first]
    rfl
  | some p =>
    obtain ⟨v, hv⟩ : ∃ v, v = freed s e.serial (some p) := ⟨_, rfl⟩
    have freshV : findRecord v.history (newRecord e).serial = none := by
      rw [hv]
      exact (findRecord_freed s e.serial (some p)).trans fresh
    have clock : v.clock = s.clock := by rw [hv]; exact (freed_keeps s e.serial (some p)).1
    have found := (findRecord_joined freshV).1
    have zeroth : (newRecord e).revision = 0 := by simp [newRecord, given]
    rw [enterRecord_placed given, entered_eq, given, ← hv]
    refine ⟨_, (findRecord_append (body := .fitted p none) (upd := id) found rfl).1,
      ⟨(appendedRecord (joined v (newRecord e)) (newRecord e) (.fitted p none) id).entries, ?_⟩, fun no => (nomatch no),
      fun q same => ?_, fun alone => ⟨?_, ?_⟩⟩
    · unfold appendedRecord
      rw [zeroth]
      rfl
    · have counter : (append (joined v (newRecord e)) e.serial (.fitted p none) id).history.counter =
        (joined v (newRecord e)).history.counter + 1 := append_counter found
      rw [appendedRecord_first rfl, counter, ← clock, ← Option.some.inj same]
      rfl
    · have still : v = s := by rw [hv]; exact freed_alone alone
      have whole := append_eq (body := .fitted p none) (upd := id) found
      have whole : append (joined v (newRecord e)) e.serial (.fitted p none) id = _ := whole
      rw [whole, still]
      rw [still] at freshV
      exact replaceRecord_joined freshV rfl
    · have still : v = s := by rw [hv]; exact freed_alone alone
      rw [← still]
      exact append_first_queue (body := .fitted p none) (upd := id) found rfl

/-- The former holder of the position given, once a record has been entered (R194). -/
theorem enterRecord_displaces {e : EnterFields} {h : WheelsetRecord} {p : Position}
    (fresh : findRecord s.history e.serial = none) (holder : otherHolder s e.serial e.position = some h)
    (found : findRecord s.history h.serial = some h) (given : e.position = some p) :
    (enterRecord s e).history.counter = s.history.counter + 2 ∧
    ∃ x, findRecord (enterRecord s e).history h.serial = some x ∧ x.position = none ∧ x.revision = h.revision + 1 ∧
      nextEntry s (.unfitted p (some e.serial)) ∈ x.entries := by
  obtain ⟨-, holds, apart⟩ := otherHolder_spec holder
  rw [given] at holds
  obtain ⟨x, displaced, spec⟩ := findRecord_displaced holds found e.serial
  have freshV : findRecord (displace s h e.serial).history (newRecord e).serial = none :=
    (findRecord_displace_other s h e.serial apart.symm).trans fresh
  obtain ⟨own, others⟩ := findRecord_joined freshV
  rw [enterRecord_placed given, entered_eq, freed_displaced holder]
  refine ⟨?_, x, ?_, spec⟩
  · have counter := append_counter (body := .fitted p none) (upd := id) own
    exact counter.trans (congrArg (· + 1) (displace_counter holds found e.serial))
  · exact (findRecord_append_other (fun _ => rfl) apart).trans ((others h.serial apart).trans displaced)

theorem enterRecord_keeps (s : State) (e : EnterFields) :
    s.notices <+: (enterRecord s e).notices ∧ onlyChanges [.history] s (enterRecord s e) := by
  obtain ⟨-, handed, frame⟩ := freed_keeps s e.serial e.position
  cases given : e.position with
  | none =>
    rw [enterRecord_unplaced given, entered_eq, freed_alone (by rw [given]; rfl)]
    exact ⟨List.prefix_refl _, (onlyChanges_refl _ s).setHistory (by simp) _⟩
  | some p =>
    rw [enterRecord_placed given]
    have handed' := append_handed (entered s e) e.serial (.fitted p none) id
    exact ⟨List.IsPrefix.trans handed handed', (frame.setHistory (by simp) _).append (by simp) _ _ _⟩

/-! ### RECORD FIT (R193, R194) -/

/-- The entry of a fit: FITTED at the position given, or UNFITTED from the former one. -/
def fitBody (r : WheelsetRecord) : Option Position → EntryBody
  | some q => .fitted q r.position
  | none => .unfitted (r.position.getD { unit := 0, vehicle := 0, bogie := 0, axle := 0 }) none

theorem fitRecord_eq {p : Option Position} (moves : r.position ≠ p) : fitRecord s r p =
    append (freed s r.serial p) r.serial (fitBody r p) (fun x => { x with position := p }) := by
  unfold fitRecord
  cases p with
  | some q => rfl
  | none =>
    cases former : r.position with
    | none => exact absurd former moves
    | some q =>
      unfold fitBody
      rw [former]
      rfl

theorem fitRecord_keeps {p : Option Position} (moves : r.position ≠ p) :
    s.notices <+: (fitRecord s r p).notices ∧ onlyChanges [.history] s (fitRecord s r p) := by
  obtain ⟨-, handed, frame⟩ := freed_keeps s r.serial p
  rw [fitRecord_eq moves]
  exact ⟨handed.trans (append_handed _ _ _ _), frame.append (by simp) _ _ _⟩

/-- The former holder of the position given, once a record has been fitted there (R194). -/
theorem fitRecord_displaces {h : WheelsetRecord} {q : Position} (moves : r.position ≠ some q)
    (own : findRecord s.history r.serial = some r) (holder : otherHolder s r.serial (some q) = some h)
    (found : findRecord s.history h.serial = some h) :
    (fitRecord s r (some q)).history.counter = s.history.counter + 2 ∧
    ∃ x, findRecord (fitRecord s r (some q)).history h.serial = some x ∧ x.position = none ∧
      x.revision = h.revision + 1 ∧ nextEntry s (.unfitted q (some r.serial)) ∈ x.entries := by
  obtain ⟨-, holds, apart⟩ := otherHolder_spec holder
  obtain ⟨x, displaced, spec⟩ := findRecord_displaced holds found r.serial
  have ownV : findRecord (displace s h r.serial).history r.serial = some r :=
    (findRecord_displace_other s h r.serial apart.symm).trans own
  rw [fitRecord_eq moves, freed_displaced holder]
  refine ⟨?_, x, ?_, spec⟩
  · rw [append_counter ownV, displace_counter holds found]
  · have other := findRecord_append_other (s := displace s h r.serial) (body := fitBody r (some q))
      (upd := fun x => { x with position := some q }) (fun _ => rfl) apart
    exact other.trans displaced

/-! ### RECORD RETIRE (R197) -/

theorem mem_foldl_insertExport {serial : Serial} {es : List Entry} {q : List ExportEntry} {x : ExportEntry} :
    x ∈ es.foldl (fun q e => insertExport q { serial := serial, entry := e }) q ↔
      x ∈ q ∨ ∃ e ∈ es, x = { serial := serial, entry := e } := by
  induction es generalizing q with
  | nil => simp
  | cons e es ih =>
    rw [List.foldl_cons, ih, mem_insertExport]
    simp only [List.mem_cons, exists_eq_or_imp, or_assoc, or_left_comm]

theorem findRecord_retireRecord (s : State) (r : WheelsetRecord) :
    findRecord (retireRecord s r).history r.serial = none := by
  simp [findRecord, retireRecord]

end

/-- Settles O57: an amendment is one append of the amended record, and a retirement moves the record's entries. -/
theorem recordsAmendedAndRetired : Obligations.RecordsAmendedAndRetired := by
  refine ⟨fun s f body e r asked read found => ⟨fun met changes => ?amend, fun met unchanged => ?same, fun x failing => ?refuse⟩,
    fun s f body e asked read missing => ?missing, fun s f body serial asked read => ⟨fun r found free room => ?retire,
      fun r found free full => ?full, fun r found held => ?occupant, fun missing => ?none_⟩⟩
  case amend =>
    have own := findRecord_serial found
    rw [← own] at found ⊢
    obtain ⟨u, hu⟩ : ∃ u, u = append s r.serial (.amended (amendChanges r e)) (amendRecord e) := ⟨_, rfl⟩
    obtain ⟨q, hq⟩ : ∃ q, q = appendedRecord s r (.amended (amendChanges r e)) (amendRecord e) := ⟨_, rfl⟩
    have now : findRecord u.history r.serial = some q := by
      rw [hu, hq]
      exact (findRecord_append found rfl).1
    have made : exec .recordAmend s =
        .next (settle s (answer u f (.done (.recordAmended false (r.revision + 1) ((amendChanges r e).map (·.1)))))) :=
      event_serve_changes asked (by decide) read (by
        rw [← own, found]
        dsimp only
        rw [met]
        dsimp only
        rw [if_neg (by simpa using changes), ← hu, revisionOf_of_found now, hq]
        rfl)
    have frame : onlyChanges [.link, .history] s u := by rw [hu]; exact (onlyChanges_refl _ s).append (by simp) _ _ _
    have handed : s.notices <+: u.notices := by rw [hu]; exact append_handed _ _ _ _
    refine ⟨_, q, made, settle_answered f _ (by rw [hu, append_link]), now, by rw [hq]; rfl, by rw [hq]; rfl, by rw [hq]; rfl,
      by rw [hq]; rfl, by rw [hq]; rfl, by rw [hq]; rfl, by rw [hq]; rfl, by rw [hq]; rfl, by rw [hq]; rfl, fun keep => ?_,
      fun clear => ?_, fun v set => ?_, by rw [hq]; exact mem_appendedRecord _ _ _ _, ?_,
      handsOn_answer_settle s f _ handed, (frame.answer (by simp) f _).settle s⟩
    · rw [hq]
      simp [appendedRecord, amendRecord, keep]
    · rw [hq]
      simp +contextual [appendedRecord, amendRecord, clear]
    · rw [hq]
      simp +contextual [appendedRecord, amendRecord, set]
    · rw [settle_history, answer_history, hu]
      exact append_counter found
  case same =>
    exact event_serve_unchanged asked (by decide) read (by
      rw [found]
      dsimp only
      rw [met]
      exact if_pos (by rw [unchanged]; rfl))
  case refuse =>
    exact event_serve_unchanged asked (by decide) read (by
      rw [found]
      dsimp only
      rw [failing]
      rfl)
  case missing =>
    exact event_serve_unchanged asked (by decide) read (by rw [missing]; rfl)
  case retire =>
    have own := findRecord_serial found
    have met : firstFailing [((stationsOf s serial).isEmpty, (Reason.wrongState, RefusalDetail.none)),
        roomFor s r.entries.length] = none := by
      refine firstFailing_none_iff.mpr ?_
      simp [free, roomFor, room]
    have made : exec .recordRetire s = .next (settle s (answer (retireRecord s r) f
        (.done (.recordRetired r.entries.length)))) :=
      event_serve_changes asked (by decide) read (by
        rw [found]
        dsimp only
        rw [met])
    have frame : onlyChanges [.link, .history] s (retireRecord s r) := (onlyChanges_refl _ s).setHistory (by simp) _
    subst own
    exact ⟨_, made, settle_answered f _ rfl, rfl, findRecord_retireRecord s r, rfl, length_foldl_insertExport _ _ _,
      fun x => mem_foldl_insertExport, handsOn_answer_settle s f _ (List.prefix_refl _), (frame.answer (by simp) f _).settle s⟩
  case full =>
    exact event_serve_unchanged asked (by decide) read (by
      have failing : firstFailing [((stationsOf s serial).isEmpty, (Reason.wrongState, RefusalDetail.none)),
          roomFor s r.entries.length] = some (.historyFull, roomDetail s r.entries.length) := by
        simp [firstFailing, free, roomFor, full]
      rw [found]
      dsimp only
      rw [failing]
      rfl)
  case occupant =>
    exact event_serve_unchanged asked (by decide) read (by
      have failing : firstFailing [((stationsOf s serial).isEmpty, (Reason.wrongState, RefusalDetail.none)),
          roomFor s r.entries.length] = some (.wrongState, .none) := by
        simp [firstFailing, held]
      rw [found]
      dsimp only
      rw [failing]
      rfl)
  case none_ =>
    exact event_serve_unchanged asked (by decide) read (by rw [missing]; rfl)

/-- Settles O56: the new record and the fitted one stand in the store by their appends, and the former holder of the position by
its displacement. -/
theorem recordsEnteredAndFitted : Obligations.RecordsEnteredAndFitted := by
  refine ⟨fun s f body e asked read => ⟨fun met => ?enter, fun x failing => ?refuse⟩,
    fun s f body serial p asked read => ⟨fun r found met same => ?unmoved, fun r found met moves => ?fit,
      fun r x found failing => ?refuseFit, fun missing => ?missing⟩⟩
  case enter =>
    have fresh : findRecord s.history e.serial = none := by
      have first := firstFailing_none_iff.mp met ((findRecord s.history e.serial).isNone, (.recordExists, .none))
        (by simp [enterConditions])
      simpa using first
    obtain ⟨q, now, ⟨entries, hq⟩, unplaced, placed, alone⟩ := enterRecord_found fresh
    have made : exec .recordEnter s = .next (settle s (answer (enterRecord s e) f
        (.done (.recordEntered 1 ((otherHolder s e.serial e.position).map (·.serial)))))) :=
      event_serve_changes asked (by decide) read (by
        rw [met]
        dsimp only
        rw [revisionOf_of_found now, hq])
    obtain ⟨handed, frame⟩ := enterRecord_keeps s e
    have displaced (r : WheelsetRecord) (p : Position) (holder : otherHolder s e.serial e.position = some r)
        (found : findRecord s.history r.serial = some r) (given : e.position = some p) :=
      enterRecord_displaces fresh holder found given
    exact ⟨_, q, made, settle_answered f _ (frame.2.2.2 .link (by simp)), now, by rw [hq]; rfl, by rw [hq]; rfl, by rw [hq]; rfl,
      by rw [hq]; rfl, by rw [hq]; rfl, by rw [hq]; rfl, by rw [hq]; rfl, by rw [hq]; rfl, by rw [hq]; rfl, by rw [hq]; rfl,
      by rw [hq], unplaced, placed, alone, displaced, handsOn_answer_settle s f _ handed,
      ((frame.mono (by simp)).answer (by simp) f _).settle s⟩
  case refuse =>
    exact event_serve_unchanged asked (by decide) read (by
      rw [failing]
      rfl)
  case unmoved =>
    exact event_serve_unchanged asked (by decide) read (by
      rw [found]
      dsimp only
      rw [met]
      exact if_pos same)
  case fit =>
    have own := findRecord_serial found
    subst own
    obtain ⟨u, hu⟩ : ∃ u, u = fitRecord s r p := ⟨_, rfl⟩
    have there : findRecord (freed s r.serial p).history r.serial = some r := (findRecord_freed s r.serial p).trans found
    obtain ⟨x, hx⟩ : ∃ x, x = appendedRecord (freed s r.serial p) r (fitBody r p) (fun x => { x with position := p }) := ⟨_, rfl⟩
    have now : findRecord u.history r.serial = some x := by
      rw [hu, hx, fitRecord_eq moves]
      exact (findRecord_append there rfl).1
    have counter : u.history.counter = (freed s r.serial p).history.counter + 1 := by
      rw [hu, fitRecord_eq moves]
      exact append_counter there
    have made : exec .recordFit s = .next (settle s (answer u f
        (.done (.recordFitted false (r.revision + 1) ((otherHolder s r.serial p).map (·.serial)))))) :=
      event_serve_changes asked (by decide) read (by
        dsimp only
        rw [found]
        dsimp only
        rw [met]
        dsimp only
        rw [if_neg moves, ← hu, revisionOf_of_found now, hx]
        rfl)
    obtain ⟨handed, frame⟩ := fitRecord_keeps (s := s) moves
    rw [← hu] at handed frame
    refine ⟨_, x, nextEntry (freed s r.serial p) (fitBody r p), made, settle_answered f _ (frame.2.2.2 .link (by simp)), now, by rw [hx]; rfl,
      by rw [hx]; rfl, by rw [hx]; rfl, by rw [hx]; exact mem_appendedRecord _ _ _ _, counter.symm,
      (freed_keeps s r.serial p).1, fun q given => ?_, fun former none_ was => ?_, fun alone => ?_, fun h q holder foundh given => ?_,
      handsOn_answer_settle s f _ handed, ((frame.mono (by simp)).answer (by simp) f _).settle s⟩
    · rw [given]
      rfl
    · rw [none_]
      change EntryBody.unfitted (r.position.getD _) none = _
      rw [was]
      rfl
    · change u.history.counter = _
      rw [counter, freed_alone alone]
    · subst given
      rw [hu]
      exact fitRecord_displaces moves found holder foundh
  case refuseFit =>
    exact event_serve_unchanged asked (by decide) read (by
      dsimp only
      rw [found]
      dsimp only
      rw [failing]
      rfl)
  case missing =>
    exact event_serve_unchanged asked (by decide) read (by
      dsimp only
      rw [missing]
      rfl)

end Sys2Proof.Machine

/-! ### The completion of a trace (R117, R127, R128) -/

namespace Sys2Proof.Machine

section
variable {s t u v : State}

/-- What the obligations say of a station's operation, its records and its notices holds as well of a later state of the same
event. -/
structure Shows (t u : State) : Prop where
  stations : u.stations = t.stations
  traces : u.traces = t.traces
  planner : u.planner = t.planner
  history : u.history = t.history
  notices : t.notices ⊆ u.notices

theorem shows_settle (o t : State) : Shows t (settle o t) :=
  ⟨rfl, rfl, rfl, rfl, fun _ mem => mem_settle_of_mem mem⟩

theorem shows_settle_answer (o t : State) (f : Frame) (r : ReplyBody) : Shows t (settle o (answer t f r)) :=
  ⟨rfl, rfl, rfl, rfl, fun _ mem => mem_settle_of_mem (n := answer t f r) mem⟩

theorem Shows.station (shows : Shows t u) (st : StationId) : u.station st = t.station st := by
  unfold State.station
  rw [shows.stations]

theorem Shows.traceUnit (shows : Shows t u) (st : StationId) : u.traceUnit st = t.traceUnit st := by
  unfold State.traceUnit
  rw [shows.traces]

theorem traceUnit_setTraceUnit (s : State) (st : StationId) (x : TraceUnit) : (s.setTraceUnit st x).traceUnit st = x :=
  PerStation.get_set_same _ _ _

theorem traceCompletes.shown {st : StationId} {x : Station} {ws : PerSide TraceRecord} {r : WheelsetRecord}
    (done : traceCompletes s t st x ws r) (shows : Shows t u) : traceCompletes s u st x ws r := by
  obtain ⟨tr, q, htr, unit, only, station, found, counter, entry, usable, unusable, posted⟩ := done
  rw [← shows.traceUnit] at unit
  rw [← shows.station] at station
  rw [← shows.history] at found counter
  exact ⟨tr, q, htr, unit, only.of_stations shows.stations, station, found, counter, entry, usable, unusable,
    shows.notices posted⟩

theorem verifyBegins.shown {st : StationId} {x : Station} (done : verifyBegins s t st x) (shows : Shows t u) :
    verifyBegins s u st x := by
  unfold verifyBegins at done ⊢
  obtain ⟨work, operation, reservation, progress, recuts, traces, tasks⟩ := done
  rw [shows.station, shows.traces]
  exact ⟨work, operation, reservation, progress, recuts, traces, fun d => ⟨shows.notices (tasks d).1, (tasks d).2⟩⟩

/-! ### The record of a trace -/

/-- The store once a trace's entry and, where it is usable, its figures have joined the occupant's record (R127). -/
def traceRecorded (s : State) (serial : Serial) (tr : StationTrace) : State :=
  if tr.usable then changeRecord (append s serial (tracedBody tr) id) serial (tracedRecord tr)
  else append s serial (tracedBody tr) id

theorem traceRecorded_keeps (s : State) (serial : Serial) (tr : StationTrace) :
    (traceRecorded s serial tr).stations = s.stations ∧ s.notices <+: (traceRecorded s serial tr).notices ∧
    onlyChanges [.history] s (traceRecorded s serial tr) := by
  have handed := append_handed s serial (tracedBody tr) id
  have frame := (onlyChanges_refl [.history] s).append (by simp) serial (tracedBody tr) id
  unfold traceRecorded
  split
  · exact ⟨by rw [changeRecord_stations, append_stations], handed.trans (changeRecord_handed _ _ _),
      frame.changeRecord (by simp) _ _⟩
  · exact ⟨append_stations _ _ _ _, handed, frame⟩

/-- The occupant's record after the trace (R127, R128). -/
theorem traceRecorded_found {r : WheelsetRecord} (found : findRecord s.history r.serial = some r) (tr : StationTrace) :
    ∃ q, findRecord (traceRecorded s r.serial tr).history r.serial = some q ∧
      (traceRecorded s r.serial tr).history.counter = s.history.counter + 1 ∧
      nextEntry s (tracedBody tr) ∈ q.entries ∧
      (tr.usable = true → q.retraceDue = false ∧
        q.diameters = ⟨tr.wheels.l.results.d.getD r.diameters.l, tr.wheels.r.results.d.getD r.diameters.r⟩) ∧
      (tr.usable = false → q.retraceDue = r.retraceDue ∧ q.diameters = r.diameters) := by
  obtain ⟨p, hp⟩ : ∃ p, p = appendedRecord s r (tracedBody tr) id := ⟨_, rfl⟩
  have serial : p.serial = r.serial := by rw [hp]; rfl
  have now : findRecord (append s r.serial (tracedBody tr) id).history r.serial = some p := by
    rw [hp]
    exact (findRecord_append found rfl).1
  have counter : (append s r.serial (tracedBody tr) id).history.counter = s.history.counter + 1 := append_counter found
  have entry : nextEntry s (tracedBody tr) ∈ p.entries := by rw [hp]; exact mem_appendedRecord _ _ _ _
  unfold traceRecorded
  by_cases usable : tr.usable = true
  · rw [if_pos usable, ← serial]
    rw [← serial] at now counter
    refine ⟨changedRecord p (tracedRecord tr), (findRecord_changeRecord now rfl).1, ?_, entry, fun _ => ⟨rfl, ?_⟩,
      fun no => absurd (usable.symm.trans no) (by simp)⟩
    · rw [changeRecord_eq now]
      exact counter
    · rw [hp]
      rfl
  · rw [if_neg usable]
    exact ⟨p, now, counter, entry, fun yes => absurd yes usable, fun _ => by rw [hp]; exact ⟨rfl, rfl⟩⟩

/-! ### The completion -/

/-- A station's record once its trace has completed. -/
def tracedStation (x : Station) : Station :=
  { x with claim := false, work := .traced, operation := none, prior := none, cursor := .both none, part := .both false }

theorem completeTrace_eq {st : StationId} {ws : PerSide TraceRecord} {serial : Serial} {tr : StationTrace}
    (walk : (v.traceUnit st).walk = some ws) (occupant : serial = (v.station st).occupant.getD [])
    (htr : tr = formTrace ws (occupantProfile v st) v.clock) : completeTrace v st =
      post ((traceRecorded (v.setTraceUnit st { v.traceUnit st with held := some tr, walk := none }) serial tr).setStation st
        (tracedStation (v.station st))) .traceEnd (.station st)
        (.traceDone tr.usable (ws.map (fun w => (w.status, w.results.d))) tr.findings.length (anyHold tr.findings)) := by
  have station (w : State) (same : w.stations = v.stations) : w.station st = v.station st := by
    unfold State.station
    rw [same]
  have recorded := traceRecorded_keeps (v.setTraceUnit st { v.traceUnit st with held := some tr, walk := none }) serial tr
  unfold completeTrace
  rw [walk]
  dsimp only
  rw [← htr, station_setTraceUnit, ← occupant]
  unfold traceRecorded at recorded ⊢
  rw [station _ recorded.1]
  rfl

/-- A trace completed from a state `v` in the middle of an event that began in `s`. -/
theorem completeTrace_completes {st : StationId} {x : Station} {ws : PerSide TraceRecord} {r : WheelsetRecord}
    (station : v.station st = x) (only : onlyStation s v st) (history : v.history = s.history) (clock : v.clock = s.clock)
    (profiles : v.profiles = s.profiles) (unit : v.traceUnit st = { s.traceUnit st with walk := some ws })
    (same : x.occupant = (s.station st).occupant) (occupant : x.occupant = some r.serial)
    (found : findRecord s.history r.serial = some r) : traceCompletes s (completeTrace v st) st x ws r := by
  have profile : occupantProfile v st = occupantProfile s st := by
    unfold occupantProfile profileAt
    rw [station, same, history, profiles]
  obtain ⟨tr, htr⟩ : ∃ tr, tr = formTrace ws (occupantProfile v st) v.clock := ⟨_, rfl⟩
  have whole := completeTrace_eq (v := v) (serial := r.serial) (by rw [unit]) (by rw [station, occupant]; rfl) htr
  obtain ⟨w, hw⟩ : ∃ w, w = v.setTraceUnit st { v.traceUnit st with held := some tr, walk := none } := ⟨_, rfl⟩
  have foundW : findRecord w.history r.serial = some r := by
    rw [hw]
    change findRecord v.history r.serial = some r
    rw [history]
    exact found
  have next : nextEntry w (tracedBody tr) = { seq := s.history.counter + 1, stamp := s.clock, body := tracedBody tr } := by
    rw [hw, ← history, ← clock]
    rfl
  obtain ⟨q, now, counter, entry, usable, unusable⟩ := traceRecorded_found foundW tr
  obtain ⟨stations, -, frame⟩ := traceRecorded_keeps w r.serial tr
  rw [next] at entry
  have wheels : tr.wheels = ws := by rw [htr]; rfl
  rw [wheels] at usable
  rw [← hw, station] at whole
  rw [whole]
  refine ⟨tr, q, by rw [htr, profile, clock], ?_, ?_, station_setStation_same _ _ _, now, ?_, entry, usable, unusable, ?_⟩
  · change (traceRecorded w r.serial tr).traceUnit st = _
    unfold State.traceUnit
    have traces : (traceRecorded w r.serial tr).traces = w.traces := frame.2.2.2 .traces (by simp)
    rw [traces]
    change w.traceUnit st = _
    rw [hw, traceUnit_setTraceUnit, unit]
    rfl
  · refine onlyStation.of_stations (t := (traceRecorded w r.serial tr).setStation st (tracedStation x)) ?_ rfl
    exact (only.of_stations (stations.trans (by rw [hw]; rfl))).setStation _
  · change (traceRecorded w r.serial tr).history.counter = _
    rw [counter, hw, ← history]
    rfl
  · exact List.mem_append_right _ (List.mem_singleton_self _)

theorem completeTrace_handed (v : State) (st : StationId) : v.notices <+: (completeTrace v st).notices ∧
    onlyChanges [.stations, .traces, .history] v (completeTrace v st) := by
  cases walk : (v.traceUnit st).walk with
  | none =>
    have still : completeTrace v st = v := by
      unfold completeTrace
      rw [walk]
    rw [still]
    exact ⟨List.prefix_refl _, onlyChanges_refl _ v⟩
  | some ws =>
    rw [completeTrace_eq walk rfl rfl]
    obtain ⟨w, hw⟩ : ∃ w, w = v.setTraceUnit st
        { v.traceUnit st with held := some (formTrace ws (occupantProfile v st) v.clock), walk := none } := ⟨_, rfl⟩
    obtain ⟨-, handed, frame⟩ := traceRecorded_keeps w ((v.station st).occupant.getD [])
      (formTrace ws (occupantProfile v st) v.clock)
    have before : w.notices = v.notices := by rw [hw]; rfl
    have base : onlyChanges [.stations, .traces, .history] v w := by
      rw [hw]
      exact (onlyChanges_refl _ v).setTraceUnit (by simp) st _
    rw [← hw]
    refine ⟨?_, ((base.trans (frame.mono (by simp))).setStation (by simp) st _).post _ _ _⟩
    rw [before] at handed
    exact handed.trans (List.prefix_append _ _)

/-- A station's record replaced, its work state and its part of the total reservation kept, shows the Warning Outputs
nothing. -/
theorem settle_replaced {ps : List Part} {st : StationId} {x : Station} (frame : onlyChanges ps s v)
    (apart : ∀ p ∈ [Part.attention, .settings, .loop, .zone, .lift, .clamps, .history], p ∉ ps)
    (stations : v.stations = s.stations.set st x) (work : x.work = (s.station st).work)
    (reserved : stationReserved x = stationReserved (s.station st)) : settle s v = v := by
  have own : v.station st = x := by
    unfold State.station
    rw [stations]
    exact PerStation.get_set_same _ _ _
  have other {o : StationId} (ne : o ≠ st) : v.station o = s.station o := by
    unfold State.station
    rw [stations]
    exact PerStation.get_set_ne _ ne _
  refine settle_of_works frame apart (fun o => ?_) fun o => ?_
  · by_cases same : o = st
    · rw [same, own, work]
    · rw [other same]
  · by_cases same : o = st
    · rw [same, own, reserved]
    · rw [other same]

end

/-- Settles O44: with the other walk still out the part alone is marked, and with both ended the trace completes. -/
theorem walkEndsCompleteTheTrace : Obligations.WalkEndsCompleteTheTrace := by
  intro s h rest ws new x w walk hnew hx
  obtain ⟨v, hv⟩ : ∃ v, v = ((s.setNotices rest).setTraceUnit h.station
      { s.traceUnit h.station with walk := some new }).setStation h.station x := ⟨_, rfl⟩
  have station : v.station h.station = x := by rw [hv, station_setStation_same]
  have frame : onlyChanges [.stations, .traces] s v := by
    rw [hv]
    exact (((onlyChanges_refl _ s).setNotices rest).setTraceUnit (by simp) _ _).setStation (by simp) _ _
  have marked : markPart ((s.setNotices rest).setTraceUnit h.station
      { s.traceUnit h.station with walk := some new }) h = v := by rw [hv, hx]; rfl
  have event_ {u : State} (made : (if bothComplete (v.station h.station) = true ∧ (v.station h.station).work = .tracing then
      completeTrace v h.station else v) = u) : exec (.walkEnd h) s = .next (settle s u) :=
    event_notice_made w (by
      change (match (s.traceUnit h.station).walk with | none => _ | some ws => _) = _
      rw [walk]
      dsimp only
      have tolerance : (s.setNotices rest).settings.missingTolerance = s.settings.missingTolerance := rfl
      rw [tolerance, ← hnew]
      rw [← marked] at made
      exact made)
  refine ⟨fun waiting => ?_, fun r both tracing occupant found => ?_⟩
  · have quiet : settle s v = v :=
      settle_replaced frame (by simp) (by rw [hv]; rfl) (by rw [hx]) (by rw [hx]; rfl)
    have e := event_ (if_neg (fun all => waiting.elim (fun no => absurd (station ▸ all.1) (by rw [no]; simp))
      fun other => other (station ▸ all.2)))
    rw [quiet] at e
    exact ⟨v, e, by rw [hv]; rfl, frame, by rw [hv]; rfl, by rw [hv]; rfl⟩
  · have e := event_ (if_pos ⟨station ▸ both, station ▸ tracing⟩)
    obtain ⟨handed, completed⟩ := completeTrace_handed v h.station
    have before : v.notices = rest := by rw [hv]; rfl
    have only : onlyStation s v h.station := by
      rw [hv]
      exact ((onlyStation_refl s h.station).of_stations rfl).setStation x
    have unit : v.traceUnit h.station = { s.traceUnit h.station with walk := some new } := by
      rw [hv]
      exact traceUnit_setTraceUnit _ _ _
    have done : traceCompletes s (completeTrace v h.station) h.station x new r :=
      completeTrace_completes station only (by rw [hv]; rfl) (by rw [hv]; rfl) (by rw [hv]; rfl) unit (by rw [hx]) occupant found
    exact ⟨_, e, done.shown (shows_settle s _), handsOn_settle_of (before ▸ handed),
      ((frame.mono (by simp)).trans completed).settle s⟩

end Sys2Proof.Machine

/-! ### The results of a scan (R141 to R143, R145, R171) -/

namespace Sys2Proof.Machine

section
variable {s t u v : State}

/-! ### The judgment to the last point -/

/-- The sweep's samples and figures stay while points are judged. -/
def keepsSweep (w v : ScanRecord) : Prop := v.circ = w.circ ∧ v.d = w.d ∧ v.f = w.f

theorem keepsSweep.trans {w v u : ScanRecord} (a : keepsSweep w v) (b : keepsSweep v u) : keepsSweep w u :=
  ⟨b.1.trans a.1, b.2.1.trans a.2.1, b.2.2.trans a.2.2⟩

theorem takeDatum_sweep (w : ScanRecord) : keepsSweep w (takeDatum w) := by
  rw [takeDatum_eq]
  exact ⟨rfl, rfl, rfl⟩

theorem judgePoint_sweep (mode : ScanMode) (p : Profile) (r70 : Geometry) (w : ScanRecord) :
    keepsSweep w (judgePoint mode p r70 w) := by
  unfold judgePoint
  dsimp only
  split
  · exact ⟨rfl, rfl, rfl⟩
  · split
    · split <;> exact ⟨rfl, rfl, rfl⟩
    · exact ⟨rfl, rfl, rfl⟩

theorem judgeLateral_sweep (mode : ScanMode) (p : Profile) (r70 : Geometry) (atEnd : Bool) (fuel : Nat) (w : ScanRecord) :
    keepsSweep w (judgeLateral mode p r70 atEnd fuel w) := by
  induction fuel generalizing w with
  | zero => exact ⟨rfl, rfl, rfl⟩
  | succ fuel ih =>
    by_cases on : judges atEnd w
    · rw [judgeLateral_succ_pos mode p r70 fuel on]
      exact (judgePoint_sweep mode p r70 w).trans (ih _)
    · rw [judgeLateral_stop mode p r70 _ on]
      exact ⟨rfl, rfl, rfl⟩

theorem advanceScan_sweep (mode : ScanMode) (p : Option Profile) (atEnd : Bool) (w : ScanRecord) :
    keepsSweep w (advanceScan mode p atEnd w) := by
  refine (takeDatum_sweep w).trans ?_
  unfold advanceScan
  dsimp only
  split
  · exact judgeLateral_sweep mode _ _ atEnd 140 _
  all_goals exact ⟨rfl, rfl, rfl⟩

/-- At the task's end every point is judged, where the fuel holds them. -/
theorem judgeLateral_ends (mode : ScanMode) (p : Profile) (r70 : Geometry) (fuel : Nat) (w : ScanRecord)
    (enough : 140 ≤ w.judged + fuel) : 140 ≤ (judgeLateral mode p r70 true fuel w).judged := by
  induction fuel generalizing w with
  | zero => exact enough
  | succ fuel ih =>
    by_cases inside : w.judged < 140
    · rw [judgeLateral_succ_pos mode p r70 fuel ⟨inside, Or.inl rfl⟩]
      have goesOn := (judgePoint_judged mode p r70 inside).2
      exact ih _ (by omega)
    · rw [judgeLateral_stop mode p r70 _ fun on => inside on.1]
      exact Nat.not_lt.mp inside

theorem advanceScan_ends {mode : ScanMode} {p : Profile} {w : ScanRecord} {r : Geometry}
    (datum : (advanceScan mode (some p) true w).datum = .radius r) : 140 ≤ (advanceScan mode (some p) true w).judged := by
  have taken := (advanceScan_judged mode (some p) true w).datum
  rw [advanceScan_radius mode p true (taken.symm.trans datum)]
  exact judgeLateral_ends mode p r 140 _ (Nat.le_add_left _ _)

/-! ### A verify wheel's result (R141, R142) -/

theorem judgeSweep_spec (tol : Nat) (w : ScanRecord) :
    judgeSweep tol w = { w with
      missCirc := some (missingCount 64 w.circ), sweep := (judgeSweep tol w).sweep, d := (judgeSweep tol w).d
      f := (judgeSweep tol w).f } ∧
    (tol < missingCount 64 w.circ →
      (judgeSweep tol w).sweep = some .incomplete ∧ (judgeSweep tol w).d = w.d ∧ (judgeSweep tol w).f = w.f) ∧
    (missingCount 64 w.circ ≤ tol → anySaturated w.circ = true →
      (judgeSweep tol w).sweep = some .saturated ∧ (judgeSweep tol w).d = w.d ∧ (judgeSweep tol w).f = w.f) ∧
    (missingCount 64 w.circ ≤ tol → anySaturated w.circ = false →
      (judgeSweep tol w).sweep = some .good ∧ (judgeSweep tol w).d = some (diameterOf (goodRadii w.circ)) ∧
      (judgeSweep tol w).f = some (outOfRound (goodRadii w.circ))) := by
  unfold judgeSweep
  dsimp only
  by_cases many : tol < missingCount 64 w.circ
  · rw [if_pos many]
    exact ⟨rfl, fun _ => ⟨rfl, rfl, rfl⟩, fun few => absurd many (Nat.not_lt.mpr few), fun few => absurd many (Nat.not_lt.mpr few)⟩
  · rw [if_neg many]
    by_cases saturated : anySaturated w.circ = true
    · rw [if_pos saturated]
      exact ⟨rfl, fun more => absurd more many, fun _ _ => ⟨rfl, rfl, rfl⟩, fun _ clean => absurd (saturated.symm.trans clean) (by simp)⟩
    · rw [if_neg saturated]
      exact ⟨rfl, fun more => absurd more many, fun _ yes => absurd yes saturated, fun _ _ => ⟨rfl, rfl, rfl⟩⟩

theorem verifyResult_out {tol : Nat} {w : ScanRecord} {x : OutPoint} (out : w.firstOut = some x) :
    verifyResult tol w = if x.high then .high else .low := by
  unfold verifyResult
  rw [out]

theorem verifyResult_inside {tol : Nat} {w : ScanRecord} (inside : w.firstOut = none) :
    ((∀ r, w.datum ≠ .radius r) → verifyResult tol w = .inconclusive .noDatum) ∧
    ∀ r, w.datum = .radius r →
      (tol < w.skips → verifyResult tol w = .inconclusive .skipped) ∧
      (w.skips ≤ tol → w.sweep = some .good → verifyResult tol w = .conform) ∧
      (w.skips ≤ tol → w.sweep ≠ some .good → verifyResult tol w = .inconclusive .sweep) := by
  unfold verifyResult
  rw [inside]
  dsimp only
  refine ⟨fun unset => ?_, fun r set => ?_⟩
  · have missing : w.datum = .failed ∨ w.datum = .none := by
      cases datum : w.datum with
      | radius r => exact absurd datum (unset r)
      | failed => exact Or.inl rfl
      | none => exact Or.inr rfl
    rw [if_pos missing]
  · rw [if_neg (by rw [set]; simp)]
    refine ⟨fun many => if_pos many, fun few good => ?_, fun few bad => ?_⟩
    · rw [if_neg (Nat.not_lt.mpr few), if_pos good]
    · rw [if_neg (Nat.not_lt.mpr few), if_neg bad]

/-! ### The scan's task ends -/

/-- A state `v` in the middle of an event that began in `s`: the station's record is `x`, its scan records are `y`, and nothing
else of the stations and traces has changed. -/
structure ScanEnded (s v : State) (st : StationId) (x : Station) (y : Scan) : Prop where
  station : v.station st = x
  only : onlyStation s v st
  unit : v.traceUnit st = { s.traceUnit st with scan := some y }
  traces : v.traces = s.traces.set st (v.traceUnit st)

theorem ScanEnded.scan {st : StationId} {x : Station} {y : Scan} (ended : ScanEnded s v st x y) :
    (v.traceUnit st).scan = some y := by rw [ended.unit]

/-- The scan records kept as the last scan results. -/
theorem ScanEnded.kept {st : StationId} {x : Station} {y : Scan} (ended : ScanEnded s v st x y) :
    keepResults v st = (v.setTraceUnit st { s.traceUnit st with scan := none }).setStation st { x with results := some y } := by
  unfold keepResults
  dsimp only
  rw [ended.unit, ended.station]

theorem ScanEnded.traces_released {st : StationId} {x : Station} {y : Scan} (ended : ScanEnded s v st x y) :
    (keepResults v st).traces = s.traces.set st { s.traceUnit st with scan := none } := by
  rw [ended.kept]
  change v.traces.set st _ = _
  rw [ended.traces, PerStation.set_set]

/-- The station's record replaced once more: the stations differ from those of `s` there alone. -/
theorem ScanEnded.stations_set {st : StationId} {x : Station} {y : Scan} (ended : ScanEnded s v st x y) (z : Station) :
    ((keepResults v st).setStation st z).stations = s.stations.set st z := by
  have only := (ended.only.of_stations (u := v.setTraceUnit st { s.traceUnit st with scan := none }) rfl).setStation
    { x with results := some y } |>.setStation z
  rw [ended.kept]
  have own : ((((v.setTraceUnit st { s.traceUnit st with scan := none }).setStation st { x with results := some y }).setStation st
    z).station st) = z := station_setStation_same _ _ _
  unfold onlyStation at only
  rwa [own] at only

theorem completeSurvey_completes {st : StationId} {x : Station} {y : Scan} (ended : ScanEnded s v st x y) :
    surveyCompletes s (completeSurvey v st) st x y := by
  have own : (keepResults v st).station st = { x with results := some y } := by
    rw [ended.kept, station_setStation_same]
  have whole : completeSurvey v st = post ((keepResults v st).setStation st { x with
      work := x.prior.getD .traced, operation := none, prior := none, cursor := .both none, part := .both false
      results := some y }) .traceEnd (.station st) (.surveyDone y.slot (y.wheels.map surveyWheel)) := by
    unfold completeSurvey
    rw [ended.scan]
    dsimp only
    rw [own]
    rfl
  rw [whole]
  exact ⟨ended.stations_set _, ended.traces_released, List.mem_append_right _ (List.mem_singleton_self _)⟩

theorem endVerify_holds {st : StationId} {x : Station} {y : Scan} (ended : ScanEnded s v st x y)
    (nonconform : ¬ (y.wheels.l.result = .conform ∧ y.wheels.r.result = .conform)) :
    verifyHolds s (endVerify v st) st x y := by
  have own : (keepResults v st).station st = { x with results := some y } := by
    rw [ended.kept, station_setStation_same]
  have whole : endVerify v st = post ((keepResults v st).setStation st { x with
      work := .held, held := some .nonconform, operation := none, prior := none, cursor := .both none
      part := .both false, results := some y }) .cutEnd (.station st) (.verifyHeld x.recuts (y.wheels.map verifyHeldWheel)) := by
    unfold endVerify
    rw [ended.scan]
    dsimp only
    rw [if_neg nonconform, own, station_setStation_same]
    rfl
  rw [whole]
  exact ⟨ended.stations_set _, ended.traces_released, List.mem_append_right _ (List.mem_singleton_self _)⟩

theorem surveyCompletes.shown {st : StationId} {x : Station} {y : Scan} (done : surveyCompletes s t st x y)
    (shows : Shows t u) : surveyCompletes s u st x y :=
  ⟨shows.stations.trans done.1, shows.traces.trans done.2.1, shows.notices done.2.2⟩

theorem verifyHolds.shown {st : StationId} {x : Station} {y : Scan} (done : verifyHolds s t st x y) (shows : Shows t u) :
    verifyHolds s u st x y :=
  ⟨shows.stations.trans done.1, shows.traces.trans done.2.1, shows.notices done.2.2⟩

end

end Sys2Proof.Machine

/-! ### The partner ceilings of a finished cut (R179, R180) -/

namespace Sys2Proof.Machine

section
variable {s t a b u : State} {p : Plan} {st : StationId} {own : Serial} {df : Geometry} {c : Capture}

/-! ### Records at positions -/

/-- Two records of a store without doubles that hold positions hold different ones. -/
theorem positions_apart {h : History} (inv : recordsInv h) {q r : WheelsetRecord} (memq : q ∈ h.records) (memr : r ∈ h.records)
    (ne : q ≠ r) : q.position = none ∨ q.position ≠ r.position := by
  have symmetric : Std.Symm fun q r : WheelsetRecord => q.position = none ∨ q.position ≠ r.position :=
    ⟨fun q r rule => by
      rcases rule with none_ | other
      · by_cases mine : r.position = none
        · exact Or.inl mine
        · exact Or.inr (none_ ▸ mine)
      · by_cases mine : r.position = none
        · exact Or.inl mine
        · exact Or.inr (Ne.symm other)⟩
  exact (inv.imp fun both => both.2).forall memq memr ne

/-- In a store without doubles the record at a position is the one of its serial that holds it. -/
theorem recordAt_iff {h : History} (inv : recordsInv h) {pos : Position} {r : WheelsetRecord} :
    recordAt h pos = some r ↔ findRecord h r.serial = some r ∧ r.position = some pos := by
  constructor
  · intro found
    exact ⟨findRecord_of_mem inv (List.mem_of_find?_eq_some found), by simpa using List.find?_some found⟩
  · rintro ⟨found, holds⟩
    have mem := findRecord_mem found
    cases at_ : recordAt h pos with
    | none => simpa [holds] using List.find?_eq_none.mp at_ r mem
    | some q =>
      have memq := List.mem_of_find?_eq_some at_
      have holdsq : q.position = some pos := by simpa using List.find?_some at_
      by_cases same : q = r
      · rw [same]
      · rcases positions_apart inv memq mem same with none_ | other
        · exact absurd (holdsq.symm.trans none_) (by simp)
        · exact absurd (holdsq.trans holds.symm) other

theorem partnerAt_iff (inv : recordsInv s.history) {r : WheelsetRecord} : partnerAt s own c = some r ↔
    r.serial ≠ own ∧ findRecord s.history r.serial = some r ∧ ∃ pos, c.position = some pos ∧ r.position = some pos := by
  unfold partnerAt
  rw [Option.filter_eq_some_iff, Option.bind_eq_some_iff]
  simp only [recordAt_iff inv, bne_iff_ne]
  constructor
  · rintro ⟨⟨pos, given, found, holds⟩, apart⟩
    exact ⟨apart, found, pos, given, holds⟩
  · rintro ⟨apart, found, pos, given, holds⟩
    exact ⟨⟨pos, given, found, holds⟩, apart⟩

/-! ### What a part of a finish changes -/

/-- A part of a finish at station `st` that changes no records but those of the serials in `touched`. -/
structure FinishPart (st : StationId) (touched : Serial → Prop) (a b : State) : Prop where
  inv : recordsInv a.history → recordsInv b.history
  kept : ∀ serial, ¬ touched serial → findRecord b.history serial = findRecord a.history serial
  positions : ∀ serial, (findRecord b.history serial).map (·.position) = (findRecord a.history serial).map (·.position)
  own : ∃ n d, (d = none ∨ d = (a.station st).deferred) ∧ b.station st = { a.station st with reservation := n, deferred := d }
  other : ∃ d, b.station (otherStation st) = { a.station (otherStation st) with deferred := d }
  deferred : (∀ serial, (a.station (otherStation st)).occupant = some serial → ¬ touched serial) →
    (b.station (otherStation st)).deferred = (a.station (otherStation st)).deferred
  clock : b.clock = a.clock
  planner : b.planner = a.planner
  handed : a.notices <+: b.notices
  frame : onlyChanges [.stations, .history] a b

theorem FinishPart.refl (st : StationId) (touched : Serial → Prop) (a : State) : FinishPart st touched a a where
  inv := id
  kept _ _ := rfl
  positions _ := rfl
  own := ⟨_, _, Or.inr rfl, rfl⟩
  other := ⟨_, rfl⟩
  deferred _ := rfl
  clock := rfl
  planner := rfl
  handed := List.prefix_refl _
  frame := onlyChanges_refl _ a

theorem FinishPart.occupant {touched : Serial → Prop} (part : FinishPart st touched a b) :
    (b.station (otherStation st)).occupant = (a.station (otherStation st)).occupant ∧
    (b.station (otherStation st)).reservation = (a.station (otherStation st)).reservation := by
  obtain ⟨d, other⟩ := part.other
  rw [other]
  exact ⟨rfl, rfl⟩

theorem FinishPart.trans {touched later : Serial → Prop} (first : FinishPart st touched a b) (second : FinishPart st later b t) :
    FinishPart st (fun serial => touched serial ∨ later serial) a t where
  inv := second.inv ∘ first.inv
  kept serial apart := (second.kept serial fun yes => apart (Or.inr yes)).trans (first.kept serial fun yes => apart (Or.inl yes))
  positions serial := (second.positions serial).trans (first.positions serial)
  own := by
    obtain ⟨n, d, clearedOne, one⟩ := first.own
    obtain ⟨m, e, clearedTwo, two⟩ := second.own
    refine ⟨m, e, ?_, by rw [two, one]⟩
    rcases clearedTwo with cleared | same
    · exact Or.inl cleared
    · rw [same, one]
      exact clearedOne
  other := by
    obtain ⟨d, one⟩ := first.other
    obtain ⟨e, two⟩ := second.other
    exact ⟨e, by rw [two, one]⟩
  deferred apart := by
    refine (second.deferred fun serial occupant yes => ?_).trans (first.deferred fun serial occupant yes => ?_)
    · exact apart serial (first.occupant.1.symm.trans occupant) (Or.inr yes)
    · exact apart serial occupant (Or.inl yes)
  clock := second.clock.trans first.clock
  planner := second.planner.trans first.planner
  handed := first.handed.trans second.handed
  frame := first.frame.trans second.frame

theorem FinishPart.mono {touched wider : Serial → Prop} (part : FinishPart st touched a b)
    (within : ∀ serial, touched serial → wider serial) : FinishPart st wider a b where
  inv := part.inv
  kept serial apart := part.kept serial fun yes => apart (within serial yes)
  positions := part.positions
  own := part.own
  other := part.other
  deferred apart := part.deferred fun serial occupant yes => apart serial occupant (within serial yes)
  clock := part.clock
  planner := part.planner
  handed := part.handed
  frame := part.frame

theorem finishPart_useSlot (a : State) (st : StationId) (touched : Serial → Prop) : FinishPart st touched a (useSlot a st) where
  inv := id
  kept _ _ := rfl
  positions _ := rfl
  own := ⟨_, _, Or.inr rfl, station_setStation_same _ _ _⟩
  other := ⟨_, station_setStation_other _ _ _⟩
  deferred _ := congrArg Station.deferred (station_setStation_other _ _ _)
  clock := rfl
  planner := rfl
  handed := List.prefix_refl _
  frame := (onlyChanges_refl _ a).setStation (by simp) st _

/-- A store's records stay without doubles where an entry joins a record whose serial and position are kept. -/
theorem recordsInv_append {serial : Serial} {body : EntryBody} {upd : WheelsetRecord → WheelsetRecord}
    (keeps : ∀ q, (upd q).serial = q.serial ∧ (upd q).position = q.position) (inv : recordsInv a.history) :
    recordsInv (append a serial body upd).history := by
  cases found : findRecord a.history serial with
  | none => rwa [append_missing found]
  | some r =>
    have same := findRecord_serial found
    subst same
    have free : positionFree a.history r.serial (upd r).position := (keeps r).2 ▸ positionFree_own inv found
    rw [append_eq found]
    exact recordsInv_replace inv found (r' := appendedRecord a r body upd) (keeps r).1 free _ _

theorem positions_append {serial : Serial} {body : EntryBody} {upd : WheelsetRecord → WheelsetRecord}
    (keeps : ∀ q, (upd q).serial = q.serial ∧ (upd q).position = q.position) (o : Serial) :
    (findRecord (append a serial body upd).history o).map (·.position) = (findRecord a.history o).map (·.position) := by
  by_cases own : o = serial
  · subst own
    cases found : findRecord a.history o with
    | none => rw [append_missing found, found]
    | some r =>
      have same := findRecord_serial found
      subst same
      rw [(findRecord_append found (keeps r).1).1]
      exact congrArg some (keeps r).2
  · rw [findRecord_append_other (fun q => (keeps q).1) own]

/-- A ceiling written to a record of another serial, with the slot used for it (R179). -/
theorem finishPart_writeCeiling (a : State) (st : StationId) (r : WheelsetRecord) (d : Deferred) (late : Bool) :
    FinishPart st (· = r.serial) a (useSlot (writeCeiling a r d late) st) := by
  have written : FinishPart st (· = r.serial) a (writeCeiling a r d late) := {
    inv := recordsInv_append fun q => ⟨rfl, rfl⟩
    kept := fun serial apart => findRecord_append_other (fun _ => rfl) apart
    positions := positions_append fun q => ⟨rfl, rfl⟩
    own := ⟨_, _, Or.inr rfl, station_writeCeiling _ _ _ _ _⟩
    other := ⟨_, station_writeCeiling _ _ _ _ _⟩
    deferred := fun _ => congrArg Station.deferred (station_writeCeiling _ _ _ _ _)
    clock := append_clock _ _ _ _
    planner := append_planner _ _ _ _
    handed := append_handed _ _ _ _
    frame := (onlyChanges_refl _ a).append (by simp) _ _ _ }
  exact (written.trans (finishPart_useSlot _ st (· = r.serial))).mono fun _ either => either.elim id id

/-- A slot used and passed on to the other station with its deferred ceiling (R180). -/
theorem finishPart_deferred (d : Option Deferred) (touched : Serial → Prop)
    (within : ¬ ∀ serial, (a.station (otherStation st)).occupant = some serial → ¬ touched serial) :
    FinishPart st touched a
      ((useSlot a st).setStation (otherStation st) { a.station (otherStation st) with deferred := d }) where
  inv := id
  kept _ _ := rfl
  positions _ := rfl
  own := ⟨_, _, Or.inr rfl, (station_setStation_ne _ (otherStation_ne st).symm _).trans (station_setStation_same _ _ _)⟩
  other := ⟨_, station_setStation_same _ _ _⟩
  deferred apart := absurd apart within
  clock := rfl
  planner := rfl
  handed := List.prefix_refl _
  frame := ((onlyChanges_refl _ a).setStation (by simp) st _).setStation (by simp) _ _

/-! ### One partner place -/

/-- The serials of other wheelsets' records that stand at the positions of the capture items `cs`; in a store that may hold
doubles, all other serials. -/
def touches (s : State) (own : Serial) (cs : List Capture) (serial : Serial) : Prop :=
  serial ≠ own ∧ (recordsInv s.history →
    ∃ c ∈ cs, ∃ pos, c.position = some pos ∧ (findRecord s.history serial).map (·.position) = some (some pos))

theorem touches_of_recordAt {pos : Position} {r : WheelsetRecord} (given : c.position = some pos)
    (at_ : recordAt s.history pos = some r) (apart : r.serial ≠ own) : touches s own [c] r.serial := by
  refine ⟨apart, fun inv => ⟨c, List.mem_singleton_self c, pos, given, ?_⟩⟩
  obtain ⟨found, holds⟩ := (recordAt_iff inv).mp at_
  rw [found, ← holds]
  rfl

/-- The ceilings that a partner place has written (R174, R179). -/
def placeWritten (s : State) (p : Plan) (own : Serial) (df : Geometry) (c : Capture) (fate : CeilingFate) :
    Option (Serial × Geometry) :=
  if fate = .written then (partnerAt s own c).map (fun r => (r.serial, partnerLimit p df c)) else none

theorem partnerAt_of_recordAt {pos : Position} {r : WheelsetRecord} (given : c.position = some pos)
    (at_ : recordAt s.history pos = some r) (apart : r.serial ≠ own) : partnerAt s own c = some r := by
  unfold partnerAt
  rw [given, Option.bind_some, at_]
  simpa using apart

theorem partnerAt_own {pos : Position} {r : WheelsetRecord} (given : c.position = some pos)
    (at_ : recordAt s.history pos = some r) (same : r.serial = own) : partnerAt s own c = none := by
  unfold partnerAt
  rw [given, Option.bind_some, at_]
  simpa using same

theorem partnerAt_empty {pos : Position} (given : c.position = some pos) (at_ : recordAt s.history pos = none) :
    partnerAt s own c = none := by
  unfold partnerAt
  rw [given, Option.bind_some, at_]
  rfl

theorem partnerAt_unplaced (given : c.position = none) : partnerAt s own c = none := by
  unfold partnerAt
  rw [given]
  rfl

theorem ceilingNotNeeded_eq (r : WheelsetRecord) (limit : Geometry) : ceilingNotNeeded r limit =
    takesNone r.condemned (min r.diameters.l r.diameters.r) r.ceiling limit := by
  unfold ceilingNotNeeded takesNone smallerDiameter
  cases r.ceiling <;> rfl

/-- The station with a cut in hand whose occupant a partner's record is can only be the other one (R179). -/
theorem cuttingStation_partner {serial : Serial} (occupant : (a.station st).occupant = some own) (apart : serial ≠ own) :
    cuttingStation a serial = if (a.station (otherStation st)).occupant = some serial ∧
      0 < (a.station (otherStation st)).reservation then some (otherStation st) else none := by
  have notOwn : (a.station st).occupant ≠ some serial := by
    rw [occupant]
    exact fun same => apart (Option.some.inj same).symm
  by_cases held : (a.station (otherStation st)).occupant = some serial
  · have stations : stationsOf a serial = [otherStation st] := by
      cases st <;> simp_all [stationsOf, stationIds, otherStation]
    unfold cuttingStation
    rw [stations]
    by_cases cutting : 0 < (a.station (otherStation st)).reservation
    · rw [if_pos ⟨held, cutting⟩]
      simp [cutInHand, cutting]
    · rw [if_neg (fun both => cutting both.2)]
      simp [cutInHand, cutting]
  · have stations : stationsOf a serial = [] := by
      cases st <;> simp_all [stationsOf, stationIds, otherStation]
    unfold cuttingStation
    rw [stations, if_neg (fun both => held both.1)]
    rfl

/-! ### What a partner place is served -/

theorem partnerServed_uncaptured (t : State) (empty : c.captured = none) (inv : recordsInv s.history)
    (kept : ∀ serial, findRecord t.history serial = findRecord s.history serial) :
    partnerServed s t p st own df c .notNeeded := by
  unfold partnerServed
  rw [empty]
  exact ⟨rfl, fun r at_ => (kept _).trans ((partnerAt_iff inv).mp at_).2.1⟩

theorem partnerServed_none (t : State) (captured : c.captured ≠ none) (at_ : partnerAt s own c = none) :
    partnerServed s t p st own df c .notNeeded := by
  obtain ⟨x, some_⟩ := Option.ne_none_iff_exists'.mp captured
  unfold partnerServed
  rw [some_, at_]

theorem partnerServed_notNeeded {r : WheelsetRecord} (captured : c.captured ≠ none) (at_ : partnerAt s own c = some r)
    (takes : takesNone r.condemned (min r.diameters.l r.diameters.r) r.ceiling (partnerLimit p df c) = true)
    (kept : findRecord t.history r.serial = some r) : partnerServed s t p st own df c .notNeeded := by
  obtain ⟨x, some_⟩ := Option.ne_none_iff_exists'.mp captured
  unfold partnerServed
  rw [some_, at_]
  exact (if_pos takes).mpr ⟨rfl, kept⟩

/-- The deferred ceiling that a finish hands over for a partner place (R180). -/
def partnerDeferred (p : Plan) (own : Serial) (df : Geometry) (c : Capture) : Deferred :=
  { value := partnerLimit p df c, cause := own, kind := (placeTolerance p c.place).1, df := df }

/-- One partner place of a finish (R179, R180). -/
theorem partnerCeiling_served (p : Plan) (df : Geometry) (c : Capture) {f : Finish}
    (occupant : (f.state.station st).occupant = some own) :
    ∃ fate b w, partnerCeiling p st own df f c =
        { state := b, fates := f.fates ++ [(c.place, fate)], written := f.written ++ w } ∧
      FinishPart st (touches f.state own [c]) f.state b ∧
      (recordsInv f.state.history → partnerServed f.state b p st own df c fate ∧
        w = (placeWritten f.state p own df c fate).toList) := by
  unfold partnerCeiling
  cases captured : c.captured with
  | none =>
    refine ⟨.notNeeded, f.state, [], ?_, .refl _ _ _, fun inv => ⟨?_, rfl⟩⟩
    · simp
    · exact partnerServed_uncaptured _ captured inv fun _ => rfl
  | some caught =>
    have examined : c.captured ≠ none := by simp [captured]
    cases given : c.position with
    | none =>
      refine ⟨.notNeeded, useSlot f.state st, [], ?_, finishPart_useSlot _ _ _, fun inv => ⟨?_, rfl⟩⟩
      · simp
      · exact partnerServed_none _ examined (partnerAt_unplaced given)
    | some pos =>
      dsimp only
      cases at_ : recordAt f.state.history pos with
      | none =>
        refine ⟨.notNeeded, useSlot f.state st, [], ?_, finishPart_useSlot _ _ _, fun inv => ⟨?_, rfl⟩⟩
        · simp
        · exact partnerServed_none _ examined (partnerAt_empty given at_)
      | some r =>
        dsimp only
        by_cases same : r.serial = own
        · refine ⟨.notNeeded, useSlot f.state st, [], ?_, finishPart_useSlot _ _ _, fun inv => ⟨?_, rfl⟩⟩
          · rw [if_pos (Or.inl same)]
            simp
          · exact partnerServed_none _ examined (partnerAt_own given at_ same)
        have partner := partnerAt_of_recordAt given at_ same
        by_cases enough : ceilingNotNeeded r (partnerLimit p df c) = true
        · refine ⟨.notNeeded, useSlot f.state st, [], ?_, finishPart_useSlot _ _ _, fun inv => ⟨?_, rfl⟩⟩
          · rw [if_pos (show r.serial = own ∨ ceilingNotNeeded r (df + (placeTolerance p c.place).2) = true from Or.inr enough)]
            simp
          · exact partnerServed_notNeeded examined partner (ceilingNotNeeded_eq r _ ▸ enough) ((recordAt_iff inv).mp at_).1
        have needed : ¬ (r.serial = own ∨ ceilingNotNeeded r (df + (placeTolerance p c.place).2) = true) :=
          fun either => either.elim same enough
        have takes : ¬ takesNone r.condemned (min r.diameters.l r.diameters.r) r.ceiling (partnerLimit p df c) = true :=
          ceilingNotNeeded_eq r _ ▸ enough
        have cutting := cuttingStation_partner (a := f.state) occupant same
        by_cases later : (f.state.station (otherStation st)).occupant = some r.serial ∧
            0 < (f.state.station (otherStation st)).reservation
        · rw [if_pos later] at cutting
          have slot : (useSlot f.state st).station (otherStation st) = f.state.station (otherStation st) :=
            station_setStation_other _ _ _
          refine ⟨.deferred, (useSlot f.state st).setStation (otherStation st) { f.state.station (otherStation st) with
            deferred := some (lowerOf (f.state.station (otherStation st)).deferred (partnerDeferred p own df c)) }, [], ?_, ?_,
            fun inv => ⟨?_, rfl⟩⟩
          · rw [if_neg needed, cutting]
            dsimp only
            rw [slot]
            simp only [List.append_nil]
            rfl
          · exact finishPart_deferred _ _ fun none_ => none_ _ later.1 (touches_of_recordAt given at_ same)
          · unfold partnerServed
            rw [captured, partner]
            refine (if_neg takes).mpr ((if_pos later).mpr ⟨rfl, ((recordAt_iff inv).mp at_).1, ?_⟩)
            exact congrArg Station.deferred (station_setStation_same _ _ _)
        · rw [if_neg later] at cutting
          refine ⟨.written, useSlot (writeCeiling f.state r (partnerDeferred p own df c) false) st,
            [(r.serial, partnerLimit p df c)], ?_, ?_, fun inv => ⟨?_, ?_⟩⟩
          · rw [if_neg needed, cutting]
            rfl
          · exact (finishPart_writeCeiling _ _ _ _ _).mono fun _ is => is ▸ touches_of_recordAt given at_ same
          · unfold partnerServed
            rw [captured, partner]
            refine (if_neg takes).mpr ((if_neg later).mpr ⟨rfl, ?_⟩)
            have found := ((recordAt_iff inv).mp at_).1
            exact ⟨_, (findRecord_append found rfl).1, rfl, rfl, rfl, rfl, _, mem_appendedRecord _ _ _ _, rfl, rfl⟩
          · unfold placeWritten
            rw [if_pos rfl, partner]
            rfl

end

end Sys2Proof.Machine

/-! ### The partner places of a finish, one after the other (R179, R180) -/

namespace Sys2Proof.Machine

section
variable {s t a b u : State} {p : Plan} {st : StationId} {own : Serial} {df : Geometry} {c : Capture} {fate : CeilingFate}
  {cs : List Capture}

theorem touches_mono {ds : List Capture} {serial : Serial} (within : ∀ c ∈ cs, c ∈ ds) (touched : touches s own cs serial) :
    touches s own ds serial := by
  obtain ⟨apart, placed⟩ := touched
  refine ⟨apart, fun inv => ?_⟩
  obtain ⟨c, mem, rest⟩ := placed inv
  exact ⟨c, within c mem, rest⟩

/-- What stands at the positions does not change with a part of a finish. -/
theorem touches_before {touched : Serial → Prop} (part : FinishPart st touched a b) {serial : Serial}
    (later : touches b own cs serial) : touches a own cs serial := by
  obtain ⟨apart, placed⟩ := later
  refine ⟨apart, fun inv => ?_⟩
  obtain ⟨c, mem, pos, given, at_⟩ := placed (part.inv inv)
  exact ⟨c, mem, pos, given, part.positions serial ▸ at_⟩

/-- A partner place's record is not touched by the places that name other positions. -/
theorem partnerAt_untouched (inv : recordsInv s.history) {r : WheelsetRecord} (at_ : partnerAt s own c = some r)
    (apart : ∀ d ∈ cs, ∀ pos, c.position = some pos → d.position ≠ some pos) : ¬ touches s own cs r.serial := by
  rintro ⟨-, placed⟩
  obtain ⟨d, mem, pos, given, standing⟩ := placed inv
  obtain ⟨-, found, pos', given', holds⟩ := (partnerAt_iff inv).mp at_
  rw [found] at standing
  have same : pos' = pos := Option.some.inj (holds.symm.trans (Option.some.inj standing))
  exact apart d mem pos (same ▸ given') given

/-- A partner place finds the same record after a part of a finish that names other positions. -/
theorem partnerAt_after (inv : recordsInv a.history) (part : FinishPart st (touches a own cs) a b)
    (apart : ∀ d ∈ cs, ∀ pos, c.position = some pos → d.position ≠ some pos) : partnerAt b own c = partnerAt a own c := by
  have step : ∀ r, partnerAt b own c = some r → partnerAt a own c = some r := by
    intro r at_
    obtain ⟨ne, found, pos, given, holds⟩ := (partnerAt_iff (part.inv inv)).mp at_
    have untouched : ¬ touches a own cs r.serial := fun touched => by
      obtain ⟨d, mem, pos', given', standing⟩ := touched.2 inv
      rw [← part.positions, found] at standing
      have same : pos = pos' := Option.some.inj (holds.symm.trans (Option.some.inj standing))
      exact apart d mem pos' (same ▸ given) given'
    exact (partnerAt_iff inv).mpr ⟨ne, (part.kept _ untouched).symm.trans found, pos, given, holds⟩
  cases at_ : partnerAt a own c with
  | none =>
    cases after : partnerAt b own c with
    | none => rfl
    | some r => exact absurd (at_.symm.trans (step r after)) (by simp)
  | some r =>
    obtain ⟨ne, found, pos, given, holds⟩ := (partnerAt_iff inv).mp at_
    exact (partnerAt_iff (part.inv inv)).mpr
      ⟨ne, (part.kept _ (partnerAt_untouched inv at_ apart)).trans found, pos, given, holds⟩

/-- A partner place served stays served by what touches other records. -/
theorem partnerServed.later {touched : Serial → Prop} (served : partnerServed s b p st own df c fate)
    (part : FinishPart st touched b t) (untouched : ∀ r, partnerAt s own c = some r → ¬ touched r.serial)
    (occupant : (b.station (otherStation st)).occupant = (s.station (otherStation st)).occupant) :
    partnerServed s t p st own df c fate := by
  unfold partnerServed at served ⊢
  cases captured : c.captured with
  | none =>
    rw [captured] at served
    exact ⟨served.1, fun r at_ => (part.kept _ (untouched r at_)).trans (served.2 r at_)⟩
  | some caught =>
    rw [captured] at served
    cases at_ : partnerAt s own c with
    | none =>
      rw [at_] at served
      exact served
    | some r =>
      rw [at_] at served
      have same := part.kept _ (untouched r at_)
      dsimp only at served ⊢
      rw [same]
      by_cases takes : takesNone r.condemned (min r.diameters.l r.diameters.r) r.ceiling (partnerLimit p df c) = true
      · rw [if_pos takes] at served ⊢
        exact served
      rw [if_neg takes] at served ⊢
      by_cases cutting : (s.station (otherStation st)).occupant = some r.serial ∧ 0 < (s.station (otherStation st)).reservation
      · rw [if_pos cutting] at served ⊢
        refine ⟨served.1, served.2.1, (part.deferred fun serial at_other => ?_).trans served.2.2⟩
        rw [occupant, cutting.1] at at_other
        exact Option.some.inj at_other ▸ untouched r at_
      · rw [if_neg cutting] at served ⊢
        exact served

/-- A partner place served after a part that touches other records is served from before it. -/
theorem partnerServed.earlier {touched : Serial → Prop} (served : partnerServed b t p st own df c fate)
    (part : FinishPart st touched a b) (partner : partnerAt b own c = partnerAt a own c)
    (untouched : ∀ r, partnerAt a own c = some r → ¬ touched r.serial) : partnerServed a t p st own df c fate := by
  obtain ⟨occupant, reservation⟩ := part.occupant
  unfold partnerServed at served ⊢
  cases captured : c.captured with
  | none =>
    rw [captured, partner] at served
    exact served
  | some caught =>
    rw [captured, partner] at served
    cases at_ : partnerAt a own c with
    | none =>
      rw [at_] at served
      exact served
    | some r =>
      rw [at_, occupant, reservation, part.clock] at served
      dsimp only at served ⊢
      by_cases takes : takesNone r.condemned (min r.diameters.l r.diameters.r) r.ceiling (partnerLimit p df c) = true
      · rw [if_pos takes] at served ⊢
        exact served
      rw [if_neg takes] at served ⊢
      by_cases cutting : (a.station (otherStation st)).occupant = some r.serial ∧ 0 < (a.station (otherStation st)).reservation
      · rw [if_pos cutting] at served ⊢
        have same := part.deferred fun serial at_other => by
          rw [cutting.1] at at_other
          exact Option.some.inj at_other ▸ untouched r at_
        rw [same] at served
        exact served
      · rw [if_neg cutting] at served ⊢
        exact served

/-- The ceilings that a finish wrote at once, place by place. -/
theorem ceilingsWritten_eq (s : State) (p : Plan) (st : StationId) (own : Serial) (df : Geometry)
    (fates : List (CapturePlace × CeilingFate)) : ceilingsWritten s p st own df fates =
      ((partnerCaptures p st).zip fates).filterMap (fun x => placeWritten s p own df x.1 x.2.2) := rfl

/-- The partner places `cs` of a finish, seen to in their order (R179, R180). -/
theorem partnerCeilings_served (p : Plan) (df : Geometry) : ∀ (cs : List Capture) (f : Finish),
    (f.state.station st).occupant = some own →
    ∃ fates b w, cs.foldl (partnerCeiling p st own df) f =
        { state := b, fates := f.fates ++ fates, written := f.written ++ w } ∧
      fates.map (·.1) = cs.map (·.place) ∧ FinishPart st (touches f.state own cs) f.state b ∧
      (recordsInv f.state.history → (cs.filterMap (·.position)).Nodup →
        (∀ i ∈ cs.zip fates, partnerServed f.state b p st own df i.1 i.2.2) ∧
        w = (cs.zip fates).filterMap (fun x => placeWritten f.state p own df x.1 x.2.2)) := by
  intro cs
  induction cs with
  | nil =>
    intro f _
    refine ⟨[], f.state, [], by simp, rfl, .refl _ _ _, fun _ _ => ⟨?_, rfl⟩⟩
    intro i mem
    simp at mem
  | cons c cs ih =>
    intro f occupant
    obtain ⟨fate, b, w, made, part, served⟩ := partnerCeiling_served p df c occupant
    have occupantb : (b.station st).occupant = some own := by
      obtain ⟨n, d, -, own_⟩ := part.own
      rw [own_]
      exact occupant
    obtain ⟨fates, t, ws, madeRest, places, partRest, servedRest⟩ :=
      ih { state := b, fates := f.fates ++ [(c.place, fate)], written := f.written ++ w } occupantb
    refine ⟨(c.place, fate) :: fates, t, w ++ ws, ?_, ?_, ?_, fun inv apart => ?_⟩
    · rw [List.foldl_cons, made, madeRest]
      simp
    · rw [List.map_cons, List.map_cons, places]
    · refine (part.trans partRest).mono fun serial either => ?_
      rcases either with first | rest
      · exact touches_mono (fun d mem => List.mem_singleton.mp mem ▸ List.mem_cons_self) first
      · exact touches_mono (fun d mem => List.mem_cons_of_mem _ mem) (touches_before part rest)
    · have apartRest : (cs.filterMap (·.position)).Nodup := by
        cases given : c.position with
        | none => rwa [List.filterMap_cons_none given] at apart
        | some pos => exact (List.nodup_cons.mp (List.filterMap_cons_some given ▸ apart)).2
      have headApart : ∀ d ∈ cs, ∀ pos, c.position = some pos → d.position ≠ some pos := by
        intro d mem pos given at_
        rw [List.filterMap_cons_some given] at apart
        exact (List.nodup_cons.mp apart).1 (List.mem_filterMap.mpr ⟨d, mem, at_⟩)
      have tailApart : ∀ d ∈ cs, ∀ e ∈ [c], ∀ pos, d.position = some pos → e.position ≠ some pos := by
        intro d mem e single pos given at_
        exact headApart d mem pos (List.mem_singleton.mp single ▸ at_) given
      obtain ⟨first, written⟩ := served inv
      obtain ⟨rest, writtenRest⟩ := servedRest (part.inv inv) apartRest
      have inCs : ∀ i ∈ cs.zip fates, i.1 ∈ cs := fun i mem => (List.of_mem_zip mem).1
      refine ⟨fun i mem => ?_, ?_⟩
      · rw [List.zip_cons_cons, List.mem_cons] at mem
        rcases mem with rfl | later
        · exact first.later partRest (fun r at_ touched =>
            partnerAt_untouched inv at_ headApart (touches_before part touched)) part.occupant.1
        · have placed := tailApart i.1 (inCs i later)
          exact (rest i later).earlier part (partnerAt_after inv part placed) fun r at_ => partnerAt_untouched inv at_ placed
      · rw [written, writtenRest, List.zip_cons_cons, List.filterMap_cons]
        have same : (cs.zip fates).filterMap (fun x => placeWritten b p own df x.1 x.2.2) =
            (cs.zip fates).filterMap (fun x => placeWritten f.state p own df x.1 x.2.2) := by
          refine List.filterMap_congr fun i mem => ?_
          unfold placeWritten
          rw [partnerAt_after inv part (tailApart i.1 (inCs i mem))]
        change _ ++ (cs.zip fates).filterMap (fun x => placeWritten b p own df x.1 x.2.2) = _
        rw [same]
        cases placeWritten f.state p own df c fate <;> rfl

end

end Sys2Proof.Machine

/-! ### The finished cut (R177 to R181) -/

namespace Sys2Proof.Machine

section
variable {s t a b u v : State} {p : Plan} {st : StationId} {own : Serial} {df : Geometry} {c : Capture} {fate : CeilingFate}
  {x : Station} {y : Share} {ws : PerSide WheelPlan} {r : WheelsetRecord} {fates : List (CapturePlace × CeilingFate)}

/-! ### The occupant's own record -/

/-- A change of one record that keeps its serial and its position is a part of a finish. -/
theorem finishPart_changeRecord (a : State) (st : StationId) (serial : Serial) {upd : WheelsetRecord → WheelsetRecord}
    (keeps : ∀ q, (upd q).serial = q.serial ∧ (upd q).position = q.position) :
    FinishPart st (· = serial) a (changeRecord a serial upd) := by
  cases found : findRecord a.history serial with
  | none =>
    have still : changeRecord a serial upd = a := by
      unfold changeRecord
      rw [found]
    rw [still]
    exact .refl _ _ _
  | some r =>
    have same := findRecord_serial found
    subst same
    obtain ⟨mine, others⟩ := findRecord_changeRecord (upd := upd) found (keeps r).1
    exact {
      inv := fun inv => by
        have free : positionFree a.history r.serial (changedRecord r upd).position := by
          change positionFree a.history r.serial (upd r).position
          rw [(keeps r).2]
          exact positionFree_own inv found
        rw [changeRecord_eq found]
        exact recordsInv_replace inv found (r' := changedRecord r upd) (keeps r).1 free _ _
      kept := others
      positions := fun o => by
        by_cases isOwn : o = r.serial
        · rw [isOwn, mine, found]
          exact congrArg some (keeps r).2
        · rw [others o isOwn]
      own := ⟨_, _, Or.inr rfl, station_changeRecord _ _ _ _⟩
      other := ⟨_, station_changeRecord _ _ _ _⟩
      deferred := fun _ => congrArg Station.deferred (station_changeRecord _ _ _ _)
      clock := changeRecord_clock _ _ _
      planner := changeRecord_planner _ _ _
      handed := changeRecord_handed _ _ _
      frame := (onlyChanges_refl _ a).changeRecord (by simp) _ _ }

/-- An entry that joins one record, its serial and its position kept, is a part of a finish. -/
theorem finishPart_append (a : State) (st : StationId) (serial : Serial) (body : EntryBody) {upd : WheelsetRecord → WheelsetRecord}
    (keeps : ∀ q, (upd q).serial = q.serial ∧ (upd q).position = q.position) :
    FinishPart st (· = serial) a (append a serial body upd) where
  inv := recordsInv_append keeps
  kept _ apart := findRecord_append_other (fun q => (keeps q).1) apart
  positions := positions_append keeps
  own := ⟨_, _, Or.inr rfl, station_append _ _ _ _ _⟩
  other := ⟨_, station_append _ _ _ _ _⟩
  deferred _ := congrArg Station.deferred (station_append _ _ _ _ _)
  clock := append_clock _ _ _ _
  planner := append_planner _ _ _ _
  handed := append_handed _ _ _ _
  frame := (onlyChanges_refl _ a).append (by simp) _ _ _

/-- A station's deferred ceiling released. -/
theorem finishPart_release (a : State) (st : StationId) (touched : Serial → Prop) :
    FinishPart st touched a (a.setStation st { a.station st with deferred := none }) where
  inv := id
  kept _ _ := rfl
  positions _ := rfl
  own := ⟨_, _, Or.inl rfl, station_setStation_same _ _ _⟩
  other := ⟨_, station_setStation_other _ _ _⟩
  deferred _ := congrArg Station.deferred (station_setStation_other _ _ _)
  clock := rfl
  planner := rfl
  handed := List.prefix_refl _
  frame := (onlyChanges_refl _ a).setStation (by simp) st _

/-- A deferred ceiling applied touches the occupant's record alone (R181). -/
theorem finishPart_applyDeferred (occupant : (a.station st).occupant = some own) :
    FinishPart st (· = own) a (applyDeferred a st) := by
  unfold applyDeferred
  cases (a.station st).deferred with
  | none => exact .refl _ _ _
  | some d =>
    dsimp only
    rw [occupant, Option.bind_some]
    cases found : findRecord a.history own with
    | none => exact finishPart_release _ _ _
    | some r =>
      dsimp only
      have same := findRecord_serial found
      split
      · exact finishPart_release _ _ _
      · have written : FinishPart st (· = r.serial) a (writeCeiling a r d true) :=
          finishPart_append a st r.serial _ fun q => ⟨rfl, rfl⟩
        refine (written.trans (finishPart_release _ st (· = own))).mono fun serial either => ?_
        exact either.elim (fun is => is.trans same) id

/-- What a deferred ceiling makes of the occupant's record (R181). -/
theorem applyDeferred_applied (station : a.station st = x) (occupant : x.occupant = some r.serial)
    (found : findRecord a.history r.serial = some r) :
    ∃ q, findRecord (applyDeferred a st).history r.serial = some q ∧
      deferredApplied x.deferred r.condemned r.diameters r.ceiling r.matchDue q ∧
      q = { r with ceiling := q.ceiling, matchDue := q.matchDue, entries := q.entries, revision := q.revision } ∧
      ∀ e, r.entries.getLast? = some e → e ∈ q.entries := by
  unfold applyDeferred
  rw [station]
  cases held : x.deferred with
  | none => exact ⟨r, found, ⟨rfl, rfl⟩, rfl, fun e last => List.mem_of_getLast? last⟩
  | some d =>
    dsimp only
    rw [occupant, Option.bind_some, found]
    dsimp only
    by_cases enough : ceilingNotNeeded r d.value = true
    · rw [if_pos enough]
      rw [ceilingNotNeeded_eq] at enough
      exact ⟨r, found, (if_pos enough).mpr ⟨rfl, rfl⟩, rfl, fun e last => List.mem_of_getLast? last⟩
    · rw [if_neg enough]
      rw [ceilingNotNeeded_eq] at enough
      exact ⟨_, (findRecord_append found rfl).1, (if_neg enough).mpr ⟨rfl, rfl, _, mem_appendedRecord _ _ _ _, rfl⟩, rfl,
        fun e last => newest_mem_pushEntry _ _ _ last⟩

/-! ### The parts before the partner ceilings -/

/-- The state of a finish before its partner ceilings: the CUT entry written, the record finished, and the station's own
deferred ceiling applied (R177, R178, R181). -/
def ownRecordFinished (s : State) (st : StationId) (own : Serial) (x : Station) (p : Plan) (y : Share)
    (ws : PerSide WheelPlan) : State :=
  applyDeferred (changeRecord (useSlot (append s own (cutBody x p y ws) id) st) own
    (finishedRecord (finishedDiameters x ws) (finishedDf x ws) (y.profileUsed.getD y.profileTried))) st

theorem finishedRecord_keeps (fin : PerSide Geometry) (df : Geometry) (n : Nat) (q : WheelsetRecord) :
    (finishedRecord fin df n q).serial = q.serial ∧ (finishedRecord fin df n q).position = q.position := ⟨rfl, rfl⟩

theorem ownRecordFinished_part (occupant : (a.station st).occupant = some own) :
    FinishPart st (· = own) a (ownRecordFinished a st own x p y ws) := by
  have written := finishPart_append a st own (cutBody x p y ws) (upd := id) fun _ => ⟨rfl, rfl⟩
  have slot := finishPart_useSlot (append a own (cutBody x p y ws) id) st (· = own)
  have changed := finishPart_changeRecord (useSlot (append a own (cutBody x p y ws) id) st) st own
    (finishedRecord_keeps (finishedDiameters x ws) (finishedDf x ws) (y.profileUsed.getD y.profileTried))
  have before := ((written.trans slot).trans changed).mono (wider := (· = own))
    fun _ => fun either => either.elim (fun two => two.elim id id) id
  obtain ⟨n, d, -, station⟩ := before.own
  refine (before.trans (finishPart_applyDeferred ?_)).mono fun _ either => either.elim id id
  rw [station]
  exact occupant

theorem ceilingLeft_cases (r : WheelsetRecord) (fin : PerSide Geometry) (df : Geometry) (n : Nat) :
    (finishedRecord fin df n r).ceiling = ceilingLeft r.ceiling df ∧
    (finishedRecord fin df n r).matchDue = if ceilingLeft r.ceiling df = r.ceiling then r.matchDue else false := by
  unfold finishedRecord ceilingLeft
  cases r.ceiling with
  | none => exact ⟨rfl, rfl⟩
  | some c =>
    by_cases met : df ≤ c <;> simp [met]

/-- The occupant's record once the cut is finished (R177, R178, R181). -/
theorem ownRecordFinished_found (station : a.station st = x) (occupant : x.occupant = some r.serial)
    (found : findRecord a.history r.serial = some r) :
    ∃ q, findRecord (ownRecordFinished a st r.serial x p y ws).history r.serial = some q ∧
      q.diameters = finishedDiameters x ws ∧ q.profile = y.profileUsed.getD y.profileTried ∧
      q.cutCount = min (r.cutCount + 1) 65535 ∧ q.condemned = r.condemned ∧ q.position = r.position ∧
      nextEntry a (cutBody x p y ws) ∈ q.entries ∧
      deferredApplied x.deferred r.condemned (finishedDiameters x ws) (ceilingLeft r.ceiling (finishedDf x ws))
        (if ceilingLeft r.ceiling (finishedDf x ws) = r.ceiling then r.matchDue else false) q := by
  obtain ⟨upd, hupd⟩ : ∃ upd, upd =
    finishedRecord (finishedDiameters x ws) (finishedDf x ws) (y.profileUsed.getD y.profileTried) := ⟨_, rfl⟩
  obtain ⟨q1, hq1⟩ : ∃ q1, q1 = appendedRecord a r (cutBody x p y ws) id := ⟨_, rfl⟩
  obtain ⟨m, hm⟩ : ∃ m, m = useSlot (append a r.serial (cutBody x p y ws) id) st := ⟨_, rfl⟩
  have serial1 : q1.serial = r.serial := by rw [hq1]; rfl
  have found1 : findRecord m.history q1.serial = some q1 := by
    rw [serial1, hm, hq1]
    exact (findRecord_append found rfl).1
  have keeps : (upd q1).serial = q1.serial := by rw [hupd]; rfl
  have found2 := (findRecord_changeRecord found1 keeps).1
  have serial2 : (changedRecord q1 upd).serial = r.serial := keeps.trans serial1
  obtain ⟨w, hw⟩ : ∃ w, w = changeRecord m q1.serial upd := ⟨_, rfl⟩
  have stationW : w.station st = { x with reservation := x.reservation - 1 } := by
    rw [hw, station_changeRecord, hm]
    unfold useSlot
    rw [station_setStation_same, station_append, station]
  have occupantW : ({ x with reservation := x.reservation - 1 } : Station).occupant = some (changedRecord q1 upd).serial := by
    rw [serial2]
    exact occupant
  rw [← hw] at found2
  obtain ⟨q, foundQ, applied, fields, newest⟩ := applyDeferred_applied stationW occupantW
    (by rw [serial2, ← serial1]; exact found2)
  have whole : ownRecordFinished a st r.serial x p y ws = applyDeferred w st := by
    rw [hw, hupd, serial1, hm]
    rfl
  rw [whole, ← serial2]
  have last : (changedRecord q1 upd).entries.getLast? = some (nextEntry a (cutBody x p y ws)) := by
    have same : (changedRecord q1 upd).entries = q1.entries := by rw [hupd]; rfl
    rw [same, hq1]
    exact getLast_pushEntry _ _ _ _
  obtain ⟨ceiling, due⟩ := ceilingLeft_cases q1 (finishedDiameters x ws) (finishedDf x ws) (y.profileUsed.getD y.profileTried)
  have ceiling1 : q1.ceiling = r.ceiling := by rw [hq1]; rfl
  have due1 : q1.matchDue = r.matchDue := by rw [hq1]; rfl
  have condemned1 : q1.condemned = r.condemned := by rw [hq1]; rfl
  have applied' : deferredApplied x.deferred q1.condemned (finishedDiameters x ws) (upd q1).ceiling (upd q1).matchDue q := by
    rw [hupd] at applied ⊢
    exact applied
  rw [hupd, ceiling, due, ceiling1, due1, condemned1] at applied'
  refine ⟨q, foundQ, ?_, ?_, ?_, ?_, ?_, newest _ last, applied'⟩
  · rw [fields, hupd]; rfl
  · rw [fields, hupd]; rfl
  · rw [fields, hupd, hq1]; rfl
  · rw [fields, hupd, hq1]; rfl
  · rw [fields, hupd, hq1]; rfl

/-! ### The finish -/

/-- A partner place served depends on the other station and on the records alone, after the finish. -/
theorem partnerServed.congr (served : partnerServed s t p st own df c fate) (history : u.history = t.history)
    (deferred : (u.station (otherStation st)).deferred = (t.station (otherStation st)).deferred) :
    partnerServed s u p st own df c fate := by
  unfold partnerServed at served ⊢
  rw [history, deferred]
  exact served

/-- A partner place served from a state is served from each with the same records, clock and other station. -/
theorem partnerServed.before (served : partnerServed v t p st own df c fate) (history : v.history = s.history)
    (other : v.station (otherStation st) = s.station (otherStation st)) (clock : v.clock = s.clock) :
    partnerServed s t p st own df c fate := by
  unfold partnerServed at served ⊢
  unfold partnerAt at served ⊢
  rw [history, other, clock] at served
  exact served

theorem partnerAt_beside {touched : Serial → Prop} (inv : recordsInv a.history) (part : FinishPart st touched a b)
    (apart : ∀ serial, serial ≠ own → ¬ touched serial) : partnerAt b own c = partnerAt a own c := by
  have same : ∀ r, partnerAt b own c = some r ↔ partnerAt a own c = some r := by
    intro r
    rw [partnerAt_iff inv, partnerAt_iff (part.inv inv)]
    refine and_congr_right fun ne => ?_
    rw [part.kept _ (apart _ ne)]
  exact Option.ext same

/-- The end of a finish: the station's own fields cleared and its share released, and CUT-END posted (R177). -/
theorem finishCut_eq (station : v.station st = x) (occupant : x.occupant = some own) : ∃ w : State, ∃ fates written,
    (partnerCaptures p st).foldl (partnerCeiling p st own (finishedDf x ws))
      { state := ownRecordFinished v st own x p y ws, fates := [], written := [] } =
        { state := w, fates := fates, written := written } ∧
    finishCut v st p y ws = (post ((releaseShare (w.setStation st (finishedStation (w.station st))) st).setStation st
        { (releaseShare (w.setStation st (finishedStation (w.station st))) st).station st with work := .finished })
        .cutEnd (.station st) (.cutFinished x.accepted x.recuts
          ⟨(resultOf x .L, (finishedDiameters x ws).l), (resultOf x .R, (finishedDiameters x ws).r)⟩ (finishedDf x ws) fates),
      { finished := finishedDiameters x ws, df := finishedDf x ws, written := written }) := by
  obtain ⟨F, hF⟩ : ∃ F, F = (partnerCaptures p st).foldl (partnerCeiling p st own (finishedDf x ws))
      { state := ownRecordFinished v st own x p y ws, fates := [], written := [] } := ⟨_, rfl⟩
  refine ⟨F.state, F.fates, F.written, hF.symm, ?_⟩
  rw [hF]
  have named : (v.station st).occupant.getD [] = own := by
    rw [station, occupant]
    rfl
  subst station named
  rfl

/-- A cut finished from a state `v`, with what its report tells (R172, R174, R177 to R181). -/
theorem finishCut_finishes (p : Plan) (y : Share) (ws : PerSide WheelPlan) (station : v.station st = x)
    (occupant : x.occupant = some r.serial) (found : findRecord v.history r.serial = some r) :
    ∃ fates, finishes v (finishCut v st p y ws).1 st x p y ws r fates ∧
      (finishCut v st p y ws).2.finished = finishedDiameters x ws ∧ (finishCut v st p y ws).2.df = finishedDf x ws ∧
      (partnersApart v p st →
        (finishCut v st p y ws).2.written = ceilingsWritten v p st r.serial (finishedDf x ws) fates) ∧
      v.notices <+: (finishCut v st p y ws).1.notices ∧
      onlyChanges [.stations, .planner, .history] v (finishCut v st p y ws).1 := by
  have occupantV : (v.station st).occupant = some r.serial := by rw [station]; exact occupant
  have first : FinishPart st (· = r.serial) v (ownRecordFinished v st r.serial x p y ws) := ownRecordFinished_part occupantV
  obtain ⟨q, foundQ, diameters, profile, cutCount, condemned, position, entry, applied⟩ :=
    ownRecordFinished_found (p := p) (y := y) (ws := ws) station occupant found
  obtain ⟨a, ha⟩ : ∃ a, a = ownRecordFinished v st r.serial x p y ws := ⟨_, rfl⟩
  have occupantA : (a.station st).occupant = some r.serial := by
    obtain ⟨n, d, -, own_⟩ := first.own
    rw [ha, own_]
    exact occupantV
  have clearedA : (a.station st).deferred = none := by
    rw [ha]
    unfold ownRecordFinished
    rw [applyDeferred_own]
  obtain ⟨w, fates, written, folded, whole⟩ := finishCut_eq (p := p) (y := y) (ws := ws) station occupant
  obtain ⟨fates', w', written', made, places, second, served⟩ :=
    partnerCeilings_served p (finishedDf x ws) (partnerCaptures p st) { state := a, fates := [], written := [] } occupantA
  rw [ha, folded] at made
  obtain ⟨rfl, rfl, rfl⟩ := Finish.mk.inj made
  rw [List.nil_append] at *
  rw [ha] at second served
  rw [ha] at clearedA
  clear made
  obtain ⟨n, d, cleared, ownW⟩ := second.own
  have deferredW : d = none := cleared.elim id fun same => same.trans clearedA
  obtain ⟨n', d', -, ownA⟩ := first.own
  have stationW : w.station st = { x with reservation := n, deferred := none } := by
    rw [ownW, deferredW, ownA, station]
  obtain ⟨u, hu⟩ : ∃ u, u = releaseShare (w.setStation st (finishedStation (w.station st))) st := ⟨_, rfl⟩
  rw [← hu] at whole
  have ownU : u.station st = { finishedStation { x with reservation := n, deferred := none } with plan := none } := by
    rw [hu, releaseShare_own, station_setStation_same, stationW]
  obtain ⟨plan, otherU⟩ := releaseShare_other_eq (w.setStation st (finishedStation (w.station st))) st
  rw [← hu, station_setStation_other] at otherU
  obtain ⟨e, otherW⟩ := second.other
  obtain ⟨e', otherA⟩ := first.other
  have release := releaseShare_onlyChanges (w.setStation st (finishedStation (w.station st))) st
  rw [← hu] at release
  have historyU : u.history = w.history := release.2.2.2 .history (by simp)
  have noticesU : u.notices = w.notices := by
    rw [hu, releaseShare_notices]
    rfl
  obtain ⟨t, ht⟩ : ∃ t, t = (finishCut v st p y ws).1 := ⟨_, rfl⟩
  have madeT : t = post (u.setStation st { u.station st with work := .finished })
        .cutEnd (.station st) (.cutFinished x.accepted x.recuts
          ⟨(resultOf x .L, (finishedDiameters x ws).l), (resultOf x .R, (finishedDiameters x ws).r)⟩ (finishedDf x ws) fates) := by
    rw [ht, whole]
  have ownT : t.station st = { finishedStation { x with reservation := n, deferred := none } with plan := none, work := .finished } := by
    rw [madeT]
    change (u.setStation st { u.station st with work := .finished }).station st = _
    rw [station_setStation_same, ownU]
  have otherT : t.station (otherStation st) = { w.station (otherStation st) with plan := plan } := by
    rw [madeT]
    change (u.setStation st { u.station st with work := .finished }).station (otherStation st) = _
    rw [station_setStation_other, otherU]
  have historyT : t.history = w.history := by
    rw [madeT, ← historyU]
    rfl
  have notOwn : ∀ serial, serial ≠ r.serial → ¬ serial = r.serial := fun _ ne => ne
  rw [← ht]
  refine ⟨fates, ⟨?_, ?_, ?_, ?_, ?_, ?_, ?_, ?_, ?_, ?_, ?_, ?_, ⟨q, ?_, diameters, profile, cutCount, condemned, position,
    entry, applied⟩, places, fun apart i mem => ?_, ?_⟩, ?_, ?_, fun apart => ?_, ?_, ?_⟩
  · rw [ownT]
  · rw [ownT]; rfl
  · rw [ownT]; rfl
  · rw [ownT]; rfl
  · rw [ownT]; rfl
  · rw [ownT]; rfl
  · rw [ownT]; rfl
  · rw [ownT]
  · rw [ownT]; rfl
  · rw [ownT]; rfl
  · rw [ownT]; rfl
  · rw [otherT, otherW, otherA]
  · rw [historyT, second.kept _ fun touched => touched.1 rfl]
    exact foundQ
  · have inv := apart.1
    have placed := (served (first.inv inv) apart.2).1 i mem
    refine (placed.earlier first (partnerAt_beside inv first notOwn) fun q at_ => ?_).congr historyT (by rw [otherT])
    exact ((partnerAt_iff inv).mp at_).1
  · rw [madeT]
    exact List.mem_append_right _ (List.mem_singleton_self _)
  · rw [whole]
  · rw [whole]
  · rw [whole, ceilingsWritten_eq]
    have inv := apart.1
    refine (served (first.inv inv) apart.2).2.trans (List.filterMap_congr fun i mem => ?_)
    unfold placeWritten
    rw [partnerAt_beside inv first notOwn]
  · rw [madeT]
    refine (first.handed.trans second.handed).trans ?_
    rw [← noticesU]
    exact List.prefix_append _ _
  · rw [madeT]
    have parts := (first.frame.trans second.frame).mono (ps := [.stations, .history]) (qs := [.stations, .planner, .history]) (by simp)
    exact (((parts.setStation (by simp) st _).trans (release.mono (by simp))).setStation (by simp) st _).post _ _ _

/-! ### A finish within an event -/

theorem finishes.before (done : finishes v t st x p y ws r fates) (history : v.history = s.history)
    (other : v.station (otherStation st) = s.station (otherStation st)) (clock : v.clock = s.clock) :
    finishes s t st x p y ws r fates := by
  obtain ⟨work, reservation, recuts, progress, operation, held, accepted, plan, deferred, results, occupant, otherWork, record,
    places, served, posted⟩ := done
  rw [other] at otherWork
  rw [history, clock] at record
  refine ⟨work, reservation, recuts, progress, operation, held, accepted, plan, deferred, results, occupant, otherWork, record,
    places, fun apart i mem => ?_, posted⟩
  exact (served ⟨history ▸ apart.1, apart.2⟩ i mem).before history other clock

theorem finishes.shown (done : finishes s t st x p y ws r fates) (shows : Shows t u) :
    finishes s u st x p y ws r fates := by
  obtain ⟨work, reservation, recuts, progress, operation, held, accepted, plan, deferred, results, occupant, otherWork, record,
    places, served, posted⟩ := done
  have own := shows.station st
  rw [← own] at work reservation recuts progress operation held accepted plan deferred results occupant
  rw [← shows.station] at otherWork
  rw [← shows.history] at record
  exact ⟨work, reservation, recuts, progress, operation, held, accepted, plan, deferred, results, occupant, otherWork, record,
    places, fun apart i mem => (served apart i mem).congr shows.history (by rw [shows.station]), shows.notices posted⟩

end

end Sys2Proof.Machine

/-! ### The end of a verify and of a survey (R142, R143, R145, R171, R177) -/

namespace Sys2Proof.Machine

section
variable {s t u v : State} {st : StationId} {x : Station} {y : Scan}

theorem shareParts_congr (plan : (v.station st).plan = (s.station st).plan) (planner : v.planner = s.planner) :
    shareParts v st = shareParts s st := by
  unfold shareParts
  rw [planOf_congr plan planner]

theorem completeSurvey_handed (v : State) (st : StationId) : v.notices <+: (completeSurvey v st).notices ∧
    onlyChanges [.stations, .traces] v (completeSurvey v st) := by
  unfold completeSurvey
  split
  · exact ⟨List.prefix_refl _, onlyChanges_refl _ v⟩
  · refine ⟨List.prefix_append _ _, ?_⟩
    exact ((((onlyChanges_refl _ v).setTraceUnit (by simp) _ _).setStation (by simp) _ _).setStation (by simp) _ _).post _ _ _

/-! ### What a finish hands on, with or without its parts -/

theorem partnerCeiling_handed (p : Plan) (st : StationId) (own : Serial) (df : Geometry) (f : Finish) (c : Capture) :
    f.state.notices <+: (partnerCeiling p st own df f c).state.notices := by
  unfold partnerCeiling
  split
  · dsimp only
    split
    · exact List.prefix_refl _
    · split
      · exact List.prefix_refl _
      · split
        · exact List.prefix_refl _
        · exact append_handed _ _ _ _
  · exact List.prefix_refl _
  · exact List.prefix_refl _

theorem partnerCeilings_handed (p : Plan) (st : StationId) (own : Serial) (df : Geometry) (cs : List Capture) (f : Finish) :
    f.state.notices <+: (cs.foldl (partnerCeiling p st own df) f).state.notices := by
  induction cs generalizing f with
  | nil => exact List.prefix_refl _
  | cons c cs ih =>
    rw [List.foldl_cons]
    exact (partnerCeiling_handed p st own df f c).trans (ih _)

theorem applyDeferred_handed (v : State) (st : StationId) : v.notices <+: (applyDeferred v st).notices := by
  obtain ⟨t, made, ⟨-, same⟩ | ⟨-, same⟩⟩ := applyDeferred_eq v st
  · rw [same]
  · rw [same]
    rcases made with rfl | ⟨r, d, rfl⟩
    · exact List.prefix_refl _
    · exact append_handed _ _ _ _

theorem finishCut_handed (v : State) (st : StationId) (p : Plan) (y : Share) (ws : PerSide WheelPlan) :
    v.notices <+: (finishCut v st p y ws).1.notices := by
  have seenTo : v.notices <+: (ceilingsSeenTo v st p y ws).notices := by
    unfold ceilingsSeenTo
    refine List.IsPrefix.trans ?_ (partnerCeilings_handed p st _ _ _ _)
    refine List.IsPrefix.trans ?_ (applyDeferred_handed _ st)
    refine List.IsPrefix.trans ?_ (changeRecord_handed _ _ _)
    exact append_handed v _ _ _
  obtain ⟨c, hc⟩ : ∃ c, c = ceilingsSeenTo v st p y ws := ⟨_, rfl⟩
  rw [← hc] at seenTo
  have released : (releaseShare (c.setStation st (finishedStation (c.station st))) st).notices = c.notices :=
    releaseShare_notices _ _
  refine seenTo.trans ?_
  rw [← released, hc]
  exact List.prefix_append _ _

theorem endVerify_prefix (v : State) (st : StationId) : v.notices <+: (endVerify v st).notices := by
  unfold endVerify
  split
  · exact List.prefix_refl _
  · dsimp only
    split
    · split
      · exact List.prefix_refl _
      · exact finishCut_handed (keepResults v st) st _ _ _
    · exact List.prefix_append _ _

/-! ### The verify's end -/

theorem keepResults_onlyChanges (v : State) (st : StationId) : onlyChanges [.stations, .traces] v (keepResults v st) :=
  ((onlyChanges_refl _ v).setTraceUnit (by simp) _ _).setStation (by simp) _ _

theorem endVerify_onlyChanges (scan : (v.traceUnit st).scan = some y)
    (nonconform : ¬ (y.wheels.l.result = .conform ∧ y.wheels.r.result = .conform)) :
    onlyChanges [.stations, .traces] v (endVerify v st) := by
  unfold endVerify
  rw [scan]
  dsimp only
  rw [if_neg nonconform]
  exact ((keepResults_onlyChanges v st).setStation (by simp) _ _).post _ _ _

/-- A verify that finds both wheels CONFORM finishes the cut (R171, R177). -/
theorem endVerify_finishes {p : Plan} {ys : Share} {ws : PerSide WheelPlan} {r : WheelsetRecord} (ended : ScanEnded s v st x y)
    (conform : y.wheels.l.result = .conform ∧ y.wheels.r.result = .conform) (history : v.history = s.history)
    (clock : v.clock = s.clock) (parts : shareParts v st = some (p, ys, ws)) (occupant : x.occupant = some r.serial)
    (found : findRecord s.history r.serial = some r) :
    (∃ fates, finishes s (endVerify v st) st { x with results := some y } p ys ws r fates) ∧
    onlyChanges [.stations, .traces, .planner, .history] v (endVerify v st) ∧
    (endVerify v st).traces = s.traces.set st { s.traceUnit st with scan := none } := by
  have own : (keepResults v st).station st = { x with results := some y } := by
    rw [ended.kept, station_setStation_same]
  have kept : shareParts (keepResults v st) st = some (p, ys, ws) := by
    rw [← parts]
    refine shareParts_congr ?_ rfl
    rw [own, ended.station]
  have other : (keepResults v st).station (otherStation st) = s.station (otherStation st) := by
    rw [ended.kept, station_setStation_other]
    change v.stations.get (otherStation st) = _
    rw [ended.only]
    exact PerStation.get_set_ne _ (otherStation_ne st) _
  have foundK : findRecord (keepResults v st).history r.serial = some r := by
    change findRecord v.history r.serial = some r
    rw [history]
    exact found
  obtain ⟨fates, done, -, -, -, -, frame⟩ := finishCut_finishes p ys ws own occupant foundK
  have whole : endVerify v st = (finishCut (keepResults v st) st p ys ws).1 := by
    unfold endVerify
    rw [ended.scan]
    dsimp only
    rw [if_pos conform, kept]
  rw [whole]
  refine ⟨⟨fates, done.before history other clock⟩, ?_, ?_⟩
  · exact ((keepResults_onlyChanges v st).mono (by simp)).trans (frame.mono (by simp))
  · rw [frame.2.2.2 .traces (by simp)]
    exact ended.traces_released

end

/-- Settles O46: the ended scan's record is formed wheel by wheel, and with both results a survey returns, a verify holds the
station or finishes the cut. -/
theorem scanEndsFormResults : Obligations.ScanEndsFormResults := by
  refine ⟨fun p tol w v e hv he => ?_, fun p tol w v hv => ?_, fun s h rest x u y w scan hx hy => ?_⟩
  · obtain ⟨circ, d, f⟩ := advanceScan_sweep .verify p true w
    rw [← hv] at circ d f
    obtain ⟨j, hj⟩ : ∃ j, j = judgeSweep tol v := ⟨_, rfl⟩
    obtain ⟨fields, many, saturated, good⟩ := judgeSweep_spec tol v
    rw [← hj, circ] at fields many saturated good
    have made : e = { j with result := verifyResult tol j } := by
      rw [he, hj, hv]
      rfl
    have datum : j.datum = v.datum := by rw [fields]
    have firstOut : j.firstOut = v.firstOut := by rw [fields]
    have skips : j.skips = v.skips := by rw [fields]
    have miss : j.missCirc = some (missingCount 64 w.circ) := by rw [fields]
    rw [d, f] at many saturated
    refine ⟨?_, fun r q radius profile => ?_, circ, d, f, ?_, ?_, ?_, fun few clean some_ => ?_, fun o out => ?_, fun inside => ?_⟩
    · rw [made]
      have whole : ({ v with missCirc := j.missCirc, sweep := j.sweep, d := j.d, f := j.f } : ScanRecord) = j := by
        rw [miss]
        refine Eq.trans ?_ fields.symm
        rw [← circ]
      exact congrArg (fun q : ScanRecord => { q with result := verifyResult tol j }) whole.symm
    · subst hv profile
      exact advanceScan_ends radius
    · rw [made]
      exact miss
    · rw [made]
      exact many
    · rw [made]
      exact saturated
    · rw [made]
      exact ⟨_, _, sweepFigures_of_ne_nil some_, good few clean⟩
    · rw [made]
      exact verifyResult_out (firstOut.trans out)
    · obtain ⟨unset, set⟩ := verifyResult_inside (tol := tol) (firstOut.trans inside)
      rw [datum, skips] at *
      rw [made]
      exact ⟨unset, set⟩
  · have made : endScanRecord .survey p tol w =
        { v with result := if v.datum = .failed ∨ v.datum = .none then .noDatum else .surveyed } := by
      rw [hv]
      rfl
    rw [made]
    refine ⟨fun unset => ?_, fun r set => ?_⟩
    · have missing : v.datum = .failed ∨ v.datum = .none := by
        cases datum : v.datum with
        | radius r => exact absurd datum (unset r)
        | failed => exact Or.inl rfl
        | none => exact Or.inr rfl
      rw [if_pos missing]
    · rw [if_neg (by rw [set]; simp)]
  · obtain ⟨v, hv⟩ : ∃ v, v = ((s.setNotices rest).setTraceUnit h.station
        { s.traceUnit h.station with scan := some y }).setStation h.station x := ⟨_, rfl⟩
    have frame : onlyChanges [.stations, .traces] s v := by
      rw [hv]
      exact (((onlyChanges_refl _ s).setNotices rest).setTraceUnit (by simp) _ _).setStation (by simp) _ _
    have ended : ScanEnded s v h.station x y := {
      station := by rw [hv, station_setStation_same]
      only := by
        rw [hv]
        exact ((onlyStation_refl s h.station).of_stations rfl).setStation x
      unit := by
        rw [hv]
        exact traceUnit_setTraceUnit _ _ _
      traces := by
        have unit : v.traceUnit h.station = { s.traceUnit h.station with scan := some y } := by
          rw [hv]
          exact traceUnit_setTraceUnit _ _ _
        rw [unit, hv]
        rfl }
    have marked : endScanWheel (s.setNotices rest) h = v := by
      have unit : ((s.setNotices rest).traceUnit h.station).scan = some u := scan
      unfold endScanWheel
      dsimp only
      rw [unit, hv, hx, hy]
      rfl
    have before : v.notices = rest := by rw [hv]; rfl
    have history : v.history = s.history := by rw [hv]; rfl
    have clock : v.clock = s.clock := by rw [hv]; rfl
    have event_ {z : State} (made : (if bothComplete (v.station h.station) = true ∧ (v.station h.station).work = .scanning then
        if (v.station h.station).operation = some .survey then completeSurvey v h.station else endVerify v h.station
        else v) = z) : exec (.scanTaskEnd h) s = .next (settle s z) :=
      event_notice_made w (by
        rw [← marked] at made
        exact made)
    rw [ended.station] at event_
    by_cases going : bothComplete x = true ∧ x.work = .scanning
    · have notWaiting : ¬ (bothComplete x = false ∨ x.work ≠ .scanning) := fun either =>
        either.elim (fun no => absurd (no.symm.trans going.1) (by simp)) fun other => other going.2
      have on {z : State} (made : (if x.operation = some .survey then completeSurvey v h.station else endVerify v h.station) = z) :
          exec (.scanTaskEnd h) s = .next (settle s z) := event_ ((if_pos going).trans made)
      by_cases survey : x.operation = some .survey
      · obtain ⟨handed, completed⟩ := completeSurvey_handed v h.station
        refine ⟨_, on (if_pos survey), handsOn_settle_of (before ▸ handed), fun waits => absurd waits notWaiting,
          fun _ _ _ => ⟨(completeSurvey_completes ended).shown (shows_settle s _), (frame.trans completed).settle s⟩,
          fun _ _ other => absurd survey other, fun _ _ _ _ _ _ other => absurd survey other⟩
      · by_cases conform : y.wheels.l.result = .conform ∧ y.wheels.r.result = .conform
        · by_cases parts : ∃ p ys ws r, shareParts s h.station = some (p, ys, ws) ∧ x.occupant = some r.serial ∧
              findRecord s.history r.serial = some r
          · obtain ⟨p, ys, ws, r, parts, occupant, found⟩ := parts
            have partsV : shareParts v h.station = some (p, ys, ws) := by
              rw [← parts]
              refine shareParts_congr ?_ (by rw [hv]; rfl)
              rw [ended.station, hx]
            obtain ⟨⟨fates, done⟩, completed, traces⟩ := endVerify_finishes ended conform history clock partsV occupant found
            refine ⟨_, on (if_neg survey), handsOn_settle_of (before ▸ endVerify_prefix v h.station),
              fun waits => absurd waits notWaiting, fun _ _ yes => absurd yes survey,
              fun _ _ _ nonconform => absurd conform nonconform, fun p' ys' ws' r' _ _ _ _ _ parts' occupant' found' => ?_⟩
            obtain ⟨rfl, rfl, rfl⟩ : p = p' ∧ ys = ys' ∧ ws = ws' := by
              simpa using Option.some.inj (parts.symm.trans parts')
            obtain rfl : r = r' := by
              rw [Option.some.inj (occupant.symm.trans occupant'), found'] at found
              exact (Option.some.inj found).symm
            exact ⟨⟨fates, done.shown (shows_settle s _)⟩, traces,
              ((frame.mono (by simp)).trans completed).settle s⟩
          · refine ⟨_, on (if_neg survey), handsOn_settle_of (before ▸ endVerify_prefix v h.station),
              fun waits => absurd waits notWaiting, fun _ _ yes => absurd yes survey,
              fun _ _ _ nonconform => absurd conform nonconform,
              fun p ys ws r _ _ _ _ _ parts' occupant found => absurd ⟨p, ys, ws, r, parts', occupant, found⟩ parts⟩
        · have completed := endVerify_onlyChanges ended.scan conform
          exact ⟨_, on (if_neg survey), handsOn_settle_of (before ▸ endVerify_prefix v h.station), fun waits => absurd waits notWaiting,
            fun _ _ yes => absurd yes survey,
            fun _ _ _ _ => ⟨(endVerify_holds ended conform).shown (shows_settle s _), (frame.trans completed).settle s⟩,
            fun _ _ _ _ _ _ _ l r => absurd ⟨l, r⟩ conform⟩
    · have quiet : settle s v = v :=
        settle_replaced frame (by simp) (by rw [hv]; rfl) (by rw [hx]) (by rw [hx]; rfl)
      have e := event_ (if_neg going)
      rw [quiet] at e
      refine ⟨v, e, before ▸ List.prefix_refl _, fun _ => ⟨before, by rw [hv]; rfl, frame, by rw [hv]; rfl⟩,
        fun both scanning => absurd ⟨both, scanning⟩ going, fun both scanning => absurd ⟨both, scanning⟩ going,
        fun _ _ _ _ both scanning => absurd ⟨both, scanning⟩ going⟩

end Sys2Proof.Machine

/-! ### ACCEPT and RECUT (R174 to R176) -/

namespace Sys2Proof.Machine

section
variable {s : State} {st : StationId} {y : Share} {ws : PerSide WheelPlan} {r : Geometry}

/-- The task that a recut hands a head: its new pass alone (R176). -/
def recutTask (ws : PerSide WheelPlan) (r : Geometry) (d : Side) : HeadTask :=
  .passes [{ number := (ws.get d).count + (ws.get d).recuts + 1, depth := r }] 0

/-- A station's record where its recut begins, before the tasks are handed (R176). -/
def recutRecord (x : Station) : Station :=
  { x with recuts := x.recuts + 1, held := none, operation := some .cut, work := .cutting }

theorem beginRecut_eq (s : State) (st : StationId) (y : Share) (ws : PerSide WheelPlan) (r : Geometry) : beginRecut s st y ws r =
    send ((setShare s st { y with wheels := some (ws.map (recutWheel r)) }).setStation st
      (handedStation (recutRecord (s.station st)) (recutTask ws r))) (taskNotices st (recutTask ws r)) := by
  have task : (fun d => HeadTask.passes [{ number := ((ws.map (recutWheel r)).get d).count +
      ((ws.map (recutWheel r)).get d).recuts, depth := r }] 0) = recutTask ws r :=
    funext fun d => by cases d <;> rfl
  unfold beginRecut
  dsimp only
  rw [task, handTasks_eq, station_setStation_same, setStation_setStation, station_setShare]
  rfl

theorem heldAfterCut_of_reason {x : Station} (work : x.work = .held)
    (reason : x.held = some .nonconform ∨ x.held = some .unverified) : heldAfterCut x = true := by
  unfold heldAfterCut
  rcases reason with reason | reason <;> rw [work, reason] <;> rfl

end

/-- Settles O55: ACCEPT finishes a station held after its cut, RECUT hands each head one pass more, and both are refused
elsewhere. -/
theorem acceptAndRecut : Obligations.AcceptAndRecut := by
  refine ⟨fun s f b st asked named => ⟨fun p y ws r work reason parts occupant found => ?accept, fun elsewhere => ?refused⟩,
    fun s f b st p y ws slot prof r ds asked named parts used profile hr hds => ⟨fun met => ?recut, fun x failing => ?turnedAway⟩,
    fun s f b st asked named elsewhere => ?wrong⟩
  case accept =>
    obtain ⟨x, hx⟩ : ∃ x, x = { s.station st with accepted := true } := ⟨_, rfl⟩
    obtain ⟨v, hv⟩ : ∃ v, v = s.setStation st x := ⟨_, rfl⟩
    have station : v.station st = x := by rw [hv, station_setStation_same]
    have foundV : findRecord v.history r.serial = some r := by rw [hv]; exact found
    obtain ⟨fates, done, finished, df, written, handed, frame⟩ :=
      finishCut_finishes p y ws station (by rw [hx]; exact occupant) foundV
    obtain ⟨u, hu⟩ : ∃ u, u = finishCut v st p y ws := ⟨_, rfl⟩
    rw [← hu] at done finished df written handed frame
    have e : exec .accept s = .next (settle s (answer u.1 f (.done (.accepted u.2.finished u.2.df u.2.written)))) :=
      event_serve_changes asked (by decide) named (by
        rw [if_pos (heldAfterCut_of_reason work reason), parts]
        dsimp only
        rw [← hx, ← hv, ← hu])
    have parts : onlyChanges [.link, .stations, .planner, .history] s u.1 := by
      refine onlyChanges.trans ?_ (frame.mono (by simp))
      rw [hv]
      exact (onlyChanges_refl _ s).setStation (by simp) st x
    have link : u.1.link = s.link := by
      rw [frame.2.2.2 .link (by simp), hv]
      rfl
    have prefixed : s.notices <+: u.1.notices := by
      have same : v.notices = s.notices := by rw [hv]; rfl
      exact same ▸ handed
    have finishedHere : finishes s u.1 st x p y ws r fates :=
      done.before (by rw [hv]; rfl) (by rw [hv, station_setStation_other]) (by rw [hv]; rfl)
    refine ⟨_, x, fates, u.2.written, e, hx, finishedHere.shown (shows_settle_answer s _ f _), fun apart => ?_, ?_,
      handsOn_answer_settle s f _ prefixed, (parts.answer (by simp) f _).settle s⟩
    · have history : v.history = s.history := by rw [hv]; rfl
      rw [written ⟨history ▸ apart.1, apart.2⟩, ceilingsWritten_eq, ceilingsWritten_eq]
      unfold placeWritten partnerAt
      rw [history]
    · rw [← finished, ← df]
      exact settle_answered f _ link
  case refused =>
    exact event_serve_unchanged asked (by decide) named (by
      rw [if_neg (by rw [elsewhere]; exact Bool.false_ne_true)]
      rfl)
  case recut =>
    obtain ⟨plan, share⟩ : planOf s st = some p ∧ p.shares.get st = some y := by
      obtain ⟨p', plan, rest⟩ := Option.bind_eq_some_iff.mp parts
      obtain ⟨y', share, rest⟩ := Option.bind_eq_some_iff.mp rest
      obtain ⟨ws', -, same⟩ := Option.map_eq_some_iff.mp rest
      cases same
      exact ⟨plan, share⟩
    obtain ⟨z, hz⟩ : ∃ z : Share, z = { y with wheels := some (ws.map (recutWheel r)) } := ⟨_, rfl⟩
    obtain ⟨x, hx⟩ : ∃ x, x = handedStation (recutRecord (s.station st)) (recutTask ws r) := ⟨_, rfl⟩
    have whole := beginRecut_eq s st y ws r
    rw [← hz, ← hx] at whole
    obtain ⟨u, hu⟩ : ∃ u, u = beginRecut s st y ws r := ⟨_, rfl⟩
    rw [← hu] at whole
    obtain ⟨planner, same⟩ := setShare_eq s st z
    have depth : ((y.profileUsed.bind (profileAt s)).map recutDepth).getD 0 = r := by
      rw [used, Option.bind_some, profile, hr]
      rfl
    have e : exec .recut s = .next (settle s (answer u f .started)) :=
      event_serve_changes asked (by decide) named (by
        rw [parts]
        dsimp only
        rw [depth, ← hds, met, ← hu])
    have frame : onlyChanges [.link, .stations, .planner] s u := by
      rw [whole, same]
      exact (((onlyChanges_refl _ s).setPlanner (by simp) _).setStation (by simp) st _).send _
    have own : (settle s (answer u f .started)).station st = x := by
      rw [station_settle, station_answer, whole, station_send, station_setStation_same]
    have only : onlyStation s u st := by
      rw [whole]
      exact (((onlyStation_refl s st).of_stations (by rw [same]; rfl)).setStation x).of_stations rfl
    have notices : u.notices = s.notices ++ taskNotices st (recutTask ws r) := by
      rw [whole, same]
      rfl
    have handed : s.notices <+: u.notices := notices ▸ List.prefix_append _ _
    have shared : shareOf (settle s (answer u f .started)) st = some z := by
      have kept : shareOf u st = shareOf (setShare s st z) st := by
        rw [whole]
        exact shareOf_setStation_kept (by rw [hx, station_setShare]; rfl) st
      exact kept.trans (shareOf_setShare plan z)
    refine ⟨_, e, settle_answered f _ (by rw [whole, same]; rfl), only.of_stations rfl, ?_, ?_, ?_, ?_, ?_, ?_, ?_,
      ⟨ws.map (recutWheel r), by rw [shared, hz], fun d => ⟨?_, ?_, ?_, ?_, ?_, ?_⟩⟩, handsOn_settle_of handed,
      (frame.answer (by simp) f _).settle s⟩
    · rw [own, hx]; rfl
    · rw [own, hx]; rfl
    · rw [own, hx]; rfl
    · rw [own, hx]; rfl
    · rw [own, hx]; rfl
    · rw [own, hx]; rfl
    · rw [own, hx]; rfl
    · rw [PerSide.get_map]; rfl
    · rw [PerSide.get_map]; rfl
    · rw [PerSide.get_map]; rfl
    · rw [PerSide.get_map]; rfl
    · refine mem_settle_of_mem (n := answer u f .started) ?_
      change _ ∈ u.notices
      rw [notices]
      exact List.mem_append_right _ (mem_taskNotices st (recutTask ws r) d)
    · rw [own, hx]
      exact handedStation_handed _ (recutTask ws r) d
  case turnedAway =>
    have depth : ((y.profileUsed.bind (profileAt s)).map recutDepth).getD 0 = r := by
      rw [used, Option.bind_some, profile, hr]
      rfl
    exact event_serve_unchanged asked (by decide) named (by
      rw [parts]
      dsimp only
      rw [depth, ← hds, failing]
      rfl)
  case wrong =>
    exact event_serve_unchanged asked (by decide) named (by
      cases parts : shareParts s st with
      | none => rfl
      | some q =>
        have notHeld := elsewhere.resolve_right (by simp [parts])
        dsimp only
        unfold recutConditions
        rw [notHeld]
        rfl)

end Sys2Proof.Machine

/-! ### Pausing and resuming (R96, R97) -/

namespace Sys2Proof.Machine

section
variable {s t u v : State} {st : StationId} {x : Station} {op : Operation}

/-! ### Pausing -/

theorem pauseStation_eq (s : State) (st : StationId) (byZone : Bool) : pauseStation s st byZone =
    send (s.setStation st { s.station st with work := .paused })
      [.halt st, .posting .cutStopped (.station st) (.cutPaused (pauseData (s.station st) byZone))] := by
  unfold pauseStation
  dsimp only
  rw [station_send, station_setStation_same]
  simp [send, post, pauseData, State.setNotices]

theorem pauseStation_handed (s : State) (st : StationId) (byZone : Bool) : (pauseStation s st byZone).notices = s.notices ++
    [.halt st, .posting .cutStopped (.station st) (.cutPaused (pauseData (s.station st) byZone))] := by
  rw [pauseStation_eq]
  rfl

theorem pauseStation_own (s : State) (st : StationId) (byZone : Bool) :
    (pauseStation s st byZone).station st = { s.station st with work := .paused } := by
  rw [pauseStation_eq, station_send, station_setStation_same]

theorem onlyStation.pauseStation (only : onlyStation s t st) (byZone : Bool) :
    onlyStation s (pauseStation t st byZone) st := by
  rw [pauseStation_eq]
  exact (only.setStation _).of_stations rfl

theorem onlyChanges.pauseStation {ps : List Part} (h : onlyChanges ps s t) (stations : Part.stations ∈ ps) (byZone : Bool) :
    onlyChanges ps s (pauseStation t st byZone) := by
  rw [pauseStation_eq]
  exact (h.setStation stations _ _).send _

/-! ### The remainder handed on (R97) -/

theorem remainder_congr {d : Side} (cursor : (t.station st).cursor.get d = (s.station st).cursor.get d)
    (progress : (t.station st).progress = (s.station st).progress) (share : shareOf t st = shareOf s st) :
    remainder t st op d = remainder s st op d := by
  unfold remainder
  dsimp only
  rw [cursor, progress, stationPasses_congr share]

/-- A station's record once the head on one side has been handed the remainder of its task, where its part is not
complete. -/
def remainderRecord (x : Station) (d : Side) (task : HeadTask) : Station :=
  { x with cursor := if x.part.get d then x.cursor else x.cursor.set d (taskStart task) }

/-- The notice of a remainder handed on. -/
def remainderNotice (x : Station) (h : HeadId) (task : HeadTask) : List Notice :=
  if x.part.get h.side then [] else [.task h task]

theorem setStation_station (s : State) (st : StationId) : s.setStation st (s.station st) = s := by
  unfold State.setStation State.station
  rw [PerStation.set_self]
  rfl

theorem part_set_false {p : PerSide Bool} {d : Side} (open_ : p.get d = false) : p.set d false = p := by
  cases d <;> cases p <;> simp_all [PerSide.set, PerSide.get]

theorem handRemainder_eq (op : Operation) (s : State) (h : HeadId) : handRemainder op s h =
    send (s.setStation h.station (remainderRecord (s.station h.station) h.side (remainder s h.station op h.side)))
      (remainderNotice (s.station h.station) h (remainder s h.station op h.side)) := by
  unfold handRemainder remainderRecord remainderNotice
  by_cases complete : (s.station h.station).part.get h.side = true
  · simp only [complete, if_true]
    rw [setStation_station]
    simp [send, State.setNotices]
  · rw [if_neg complete, if_neg complete, if_neg complete]
    unfold handTask
    dsimp only
    rw [part_set_false (Bool.eq_false_iff.mpr complete)]

/-- What the remainders handed on make of a station's record. -/
def resumedRecord (x : Station) (task : Side → HeadTask) : Station :=
  remainderRecord (remainderRecord x .L (task .L)) .R (task .R)

theorem handRemainders_eq (op : Operation) (s : State) (st : StationId) : (headsOf st).foldl (handRemainder op) s =
    send (s.setStation st (resumedRecord (s.station st) (remainder s st op)))
      (remainderNotice (s.station st) ⟨st, .L⟩ (remainder s st op .L) ++
        remainderNotice (s.station st) ⟨st, .R⟩ (remainder s st op .R)) := by
  obtain ⟨a, ha⟩ : ∃ a, a = handRemainder op s ⟨st, .L⟩ := ⟨_, rfl⟩
  have one := ha.trans (handRemainder_eq op s ⟨st, .L⟩)
  have own : a.station st = remainderRecord (s.station st) .L (remainder s st op .L) := by
    rw [one, station_send, station_setStation_same]
  have share : shareOf a st = shareOf s st := by
    have kept : shareOf (s.setStation st (remainderRecord (s.station st) .L (remainder s st op .L))) st = shareOf s st :=
      shareOf_setStation rfl
    rw [one]
    exact kept
  have same : remainder a st op .R = remainder s st op .R := by
    refine remainder_congr ?_ (by rw [own]; rfl) share
    rw [own]
    unfold remainderRecord
    split
    · rfl
    · exact PerSide.get_set_ne _ (by decide : Side.R ≠ Side.L) _
  have fold : (headsOf st).foldl (handRemainder op) s = handRemainder op a ⟨st, .R⟩ := by
    rw [ha]
    rfl
  rw [fold, handRemainder_eq]
  dsimp only
  rw [same, own]
  unfold resumedRecord
  rw [one]
  dsimp only
  rw [show ∀ ns y, (send (s.setStation st (remainderRecord (s.station st) .L (remainder s st op .L))) ns).setStation st y =
    send ((s.setStation st (remainderRecord (s.station st) .L (remainder s st op .L))).setStation st y) ns from fun _ _ => rfl,
    setStation_setStation]
  have notice : remainderNotice (remainderRecord (s.station st) .L (remainder s st op .L)) ⟨st, .R⟩ (remainder s st op .R) =
      remainderNotice (s.station st) ⟨st, .R⟩ (remainder s st op .R) := rfl
  rw [notice]
  simp [send, State.setNotices]

/-- What each side of a resumed station's record shows. -/
theorem resumedRecord_side (x : Station) (task : Side → HeadTask) (d : Side) :
    (x.part.get d = true → (resumedRecord x task).cursor.get d = x.cursor.get d) ∧
    (x.part.get d = false → handedTask (resumedRecord x task) d (task d)) := by
  have part : (resumedRecord x task).part = x.part := rfl
  unfold handedTask
  rw [part]
  unfold resumedRecord remainderRecord
  cases d with
  | L =>
    refine ⟨fun complete => ?_, fun open_ => ⟨?_, open_⟩⟩
    · simp only [complete, if_true]
      split
      · rfl
      · exact PerSide.get_set_ne _ (by simp) _
    · simp only [open_, Bool.false_eq_true, if_false]
      split
      · exact PerSide.get_set_same _ _ _
      · exact (PerSide.get_set_ne _ (by simp) _).trans (PerSide.get_set_same _ _ _)
  | R =>
    refine ⟨fun complete => ?_, fun open_ => ⟨?_, open_⟩⟩
    · simp only [complete, if_true]
      split
      · rfl
      · exact PerSide.get_set_ne _ (by simp) _
    · simp only [open_, Bool.false_eq_true, if_false]
      exact PerSide.get_set_same _ _ _

theorem mem_remainderNotices (x : Station) (st : StationId) (task : Side → HeadTask) (d : Side) (open_ : x.part.get d = false) :
    Notice.task ⟨st, d⟩ (task d) ∈ remainderNotice x ⟨st, .L⟩ (task .L) ++ remainderNotice x ⟨st, .R⟩ (task .R) := by
  unfold remainderNotice
  cases d with
  | L => exact List.mem_append_left _ (by rw [if_neg (by rw [open_]; exact Bool.false_ne_true)]; exact List.mem_singleton_self _)
  | R => exact List.mem_append_right _ (by rw [if_neg (by rw [open_]; exact Bool.false_ne_true)]; exact List.mem_singleton_self _)

/-! ### A resumed operation that is complete -/

/-- A STATION RESUME with its conditions met. -/
theorem resume_event {f : Frame} {b : Byte} {z : State} (asked : asks s f 27 [b]) (named : stationOf b = some st)
    (work : (s.station st).work = .paused) (operation : (s.station st).operation = some op)
    (met : firstFailing (motionConditions s st headResumable) = none) (made : resumeStation s st op = z) :
    exec .stationResume s = .next (settle s (answer z f .started)) :=
  event_serve_changes asked (by decide) named (by
    have none_ : firstFailing (((s.station st).work == .paused, Reason.wrongState) :: motionConditions s st headResumable) =
        none := by
      rw [work]
      exact met
    rw [none_]
    dsimp only
    rw [operation]
    dsimp only
    rw [made])

/-- A PAUSED station taken back to the work of its operation (R97, step 1). -/
def resumed (s : State) (st : StationId) (op : Operation) : State :=
  s.setStation st { s.station st with work := resumedState op }

theorem resumed_station (s : State) (st : StationId) (op : Operation) :
    (resumed s st op).station st = { s.station st with work := resumedState op } := station_setStation_same _ _ _

theorem resumed_only (s : State) (st : StationId) (op : Operation) : onlyStation s (resumed s st op) st :=
  (onlyStation_refl s st).setStation _

theorem resumed_shareOf (s : State) (st : StationId) (op : Operation) : shareOf (resumed s st op) st = shareOf s st :=
  shareOf_setStation rfl

theorem onlyChanges.resumed {ps : List Part} (h : onlyChanges ps (resumed s st op) t) (stations : Part.stations ∈ ps) :
    onlyChanges ps s t :=
  ((onlyChanges_refl ps s).setStation stations st _).trans h

theorem resumed_scanEnded {y : Scan} (scan : (s.traceUnit st).scan = some y) (op : Operation) :
    ScanEnded s (resumed s st op) st { s.station st with work := resumedState op } y where
  station := resumed_station s st op
  only := resumed_only s st op
  unit := by
    change s.traceUnit st = _
    rw [← scan]
  traces := (PerStation.set_self s.traces st).symm

/-- A PAUSED station with both parts complete goes on to its operation's next phase or end. -/
theorem resumeStation_complete (both : bothComplete (s.station st) = true) (op : Operation) :
    resumeStation s st op = completeOperation (resumed s st op) st := by
  unfold resumeStation
  exact if_pos (by rw [station_setStation_same]; exact both)

theorem settle_same (s : State) : settle s s = s :=
  settle_still rfl (fun _ => rfl) rfl rfl (fun _ => rfl) rfl rfl rfl rfl rfl

theorem completeOperation_trace (operation : (v.station st).operation = some .trace) :
    completeOperation v st = completeTrace v st := by
  unfold completeOperation
  rw [operation]

theorem completeOperation_cut (operation : (v.station st).operation = some .cut) :
    completeOperation v st = beginVerify v st := by
  unfold completeOperation
  rw [operation]

theorem completeOperation_verify (operation : (v.station st).operation = some .verify) :
    completeOperation v st = endVerify v st := by
  unfold completeOperation
  rw [operation]

theorem completeOperation_survey (operation : (v.station st).operation = some .survey) :
    completeOperation v st = completeSurvey v st := by
  unfold completeOperation
  rw [operation]

end

/-- Settles O40: pauses keep the operation, and a resumed station hands on what remains or goes on to the next phase or
end. -/
theorem pauseAndResume : Obligations.PauseAndResume := by
  refine ⟨fun s f b st x d asked named hx hd => ⟨fun working => ?pause, fun idle => ?refused⟩,
    fun s st rest x d w hx hd => ?breach, fun s f b st op asked named work operation => ⟨fun met open_ => ?remains,
      fun met both isCut => ?cut, fun ws r met both isTrace walk occupant found => ?trace, fun y met both isSurvey scan => ?survey,
      fun y met both isVerify scan => ⟨fun nonconform => ?holds, fun p ys ws r l rr parts occupant found => ?finished⟩,
      fun r failing => ?turnedAway⟩, fun s f b st asked named elsewhere => ?wrong⟩
  case pause =>
    subst hx
    have data : pauseData (s.station st) false = d := hd.symm
    have e : exec .stationPause s = .next (settle s (answer (pauseStation s st false) f (.done (.paused d)))) :=
      event_serve_changes asked (by decide) named (by
        rw [if_pos working, data])
    have frame : onlyChanges [.link, .stations] s (pauseStation s st false) := (onlyChanges_refl _ s).pauseStation (by simp) false
    refine ⟨_, e, settle_answered f _ (by rw [pauseStation_eq]; rfl),
      ((onlyStation_refl s st).pauseStation false).of_stations rfl, pauseStation_own s st false, ?_,
      (frame.answer (by simp) f _).settle s⟩
    rw [← data]
    exact handsOn_settle (pauseStation_handed s st false)
  case refused =>
    subst hx
    exact event_serve_unchanged asked (by decide) named (by
      rw [if_neg (by rw [idle]; exact Bool.false_ne_true)]
      rfl)
  case breach =>
    obtain ⟨v, hv⟩ : ∃ v, v = (s.setNotices rest).setStation st x := ⟨_, rfl⟩
    have own : v.station st = x := by rw [hv, station_setStation_same]
    have only : onlyStation s v st := by
      rw [hv]
      exact ((onlyStation_refl s st).of_stations rfl).setStation x
    have frame : onlyChanges [.stations] s v := by
      rw [hv]
      exact ((onlyChanges_refl _ s).setNotices rest).setStation (by simp) st x
    have before : v.notices = rest := by rw [hv]; rfl
    have same : (s.station st).work = x.work := by rw [hx]
    have event_ {z : State} (made : (if stationWorking x.work = true then pauseStation v st true else v) = z) :
        exec (.stationBreachNotice st) s = .next (settle s z) :=
      event_notice_made w (by
        rw [← same, hv, hx] at made
        exact made)
    by_cases working : stationWorking x.work = true
    · have e := event_ (if_pos working)
      refine ⟨_, e, (only.pauseStation true).of_stations rfl, (frame.pauseStation (by simp) true).settle s, ?_⟩
      rw [if_pos working, station_settle, pauseStation_own, own]
      refine ⟨rfl, ?_⟩
      have data : pauseData (v.station st) true = d := by rw [own]; exact hd.symm
      rw [← before, ← data]
      exact handsOn_settle (pauseStation_handed v st true)
    · have e := event_ (if_neg working)
      have quiet : settle s v = v := by
        rw [hv]
        exact settle_setStation rest same.symm (by rw [hx]; rfl)
      rw [quiet] at e
      refine ⟨v, e, only, frame, ?_⟩
      rw [if_neg working]
      exact ⟨own, before⟩
  case remains =>
    obtain ⟨x, hx⟩ : ∃ x, x = { s.station st with work := resumedState op } := ⟨_, rfl⟩
    obtain ⟨z, hz⟩ : ∃ z, z = send (s.setStation st (resumedRecord x (remainder s st op)))
      (remainderNotice x ⟨st, .L⟩ (remainder s st op .L) ++ remainderNotice x ⟨st, .R⟩ (remainder s st op .R)) := ⟨_, rfl⟩
    have station : (resumed s st op).station st = x := (resumed_station s st op).trans hx.symm
    have same (d : Side) : remainder (resumed s st op) st op d = remainder s st op d :=
      remainder_congr (by rw [station, hx]) (by rw [station, hx]) (resumed_shareOf s st op)
    have whole : resumeStation s st op = z := by
      have handed := handRemainders_eq op (resumed s st op) st
      rw [station, funext same] at handed
      unfold resumeStation
      refine (if_neg ?_).trans (handed.trans ?_)
      · rw [station_setStation_same]
        exact fun both => absurd (open_.symm.trans both) (by simp)
      · rw [hz, resumed, setStation_setStation]
    have e := resume_event asked named work operation met whole
    have frame : onlyChanges [.link, .stations] s z := by
      rw [hz]
      exact ((onlyChanges_refl _ s).setStation (by simp) st _).send _
    have only : onlyStation s z st := by
      rw [hz]
      exact ((onlyStation_refl s st).setStation _).of_stations rfl
    have notices : s.notices <+: z.notices := by
      rw [hz]
      exact List.prefix_append _ _
    have part : x.part = (s.station st).part := by rw [hx]
    have cursor : x.cursor = (s.station st).cursor := by rw [hx]
    have own : (settle s (answer z f .started)).station st = resumedRecord x (remainder s st op) := by
      rw [station_settle, station_answer, hz, station_send, station_setStation_same]
    refine ⟨_, e, settle_answered f _ (by rw [hz]; rfl), only.of_stations rfl, by rw [own, hx]; rfl, by rw [own, hx]; rfl,
      fun d => ?_, handsOn_settle_of notices, (frame.answer (by simp) f _).settle s⟩
    rw [own, ← part, ← cursor]
    obtain ⟨complete, handed⟩ := resumedRecord_side x (remainder s st op) d
    refine ⟨complete, fun open_ => ⟨?_, handed open_⟩⟩
    refine mem_settle_of_mem (n := answer z f .started) ?_
    change _ ∈ z.notices
    rw [hz]
    exact List.mem_append_right _ (mem_remainderNotices x st (remainder s st op) d open_)
  case cut =>
    subst isCut
    have whole := (resumeStation_complete both .cut).trans (completeOperation_cut (by rw [resumed_station]; exact operation))
    have e := resume_event asked named work operation met whole
    have frame : onlyChanges [.stations, .traces] s (beginVerify (resumed s st .cut) st) :=
      ((onlyChanges_refl _ _).beginVerify (by simp) (by simp) st).resumed (by simp)
    have begun := beginVerify_begins (s := s) (resumed_station s st .cut) rfl (resumed_shareOf s st .cut)
      (beginVerify (resumed s st .cut) st)
    rw [settle_same] at begun
    have done : verifyBegins s (beginVerify (resumed s st .cut) st) st (s.station st) := begun
    have notices : s.notices <+: (beginVerify (resumed s st .cut) st).notices := by
      rw [beginVerify_eq]
      exact List.prefix_append _ _
    exact ⟨_, e, settle_answered f _ (frame.2.2.2 .link (by simp)), done.shown (shows_settle_answer s _ f _),
      handsOn_settle_of notices, ((frame.mono (by simp)).answer (by simp) f _).settle s⟩
  case trace =>
    subst isTrace
    have whole := (resumeStation_complete both .trace).trans (completeOperation_trace (by rw [resumed_station]; exact operation))
    have e := resume_event asked named work operation met whole
    obtain ⟨handed, completed⟩ := completeTrace_handed (resumed s st .trace) st
    have frame : onlyChanges [.stations, .traces, .history] s (completeTrace (resumed s st .trace) st) :=
      completed.resumed (by simp)
    have unit : (resumed s st .trace).traceUnit st = { s.traceUnit st with walk := some ws } := by
      rw [← walk]
      rfl
    have made := completeTrace_completes (resumed_station s st .trace) (resumed_only s st .trace) rfl rfl rfl unit rfl occupant found
    have done : traceCompletes s (completeTrace (resumed s st .trace) st) st (s.station st) ws r := made
    exact ⟨_, e, settle_answered f _ (frame.2.2.2 .link (by simp)), done.shown (shows_settle_answer s _ f _),
      handsOn_settle_of (before := s.notices) handed, ((frame.mono (by simp)).answer (by simp) f _).settle s⟩
  case survey =>
    subst isSurvey
    have whole := (resumeStation_complete both .survey).trans (completeOperation_survey (by rw [resumed_station]; exact operation))
    have e := resume_event asked named work operation met whole
    obtain ⟨handed, completed⟩ := completeSurvey_handed (resumed s st .survey) st
    have frame : onlyChanges [.stations, .traces] s (completeSurvey (resumed s st .survey) st) := completed.resumed (by simp)
    have made := completeSurvey_completes (resumed_scanEnded scan .survey)
    have done : surveyCompletes s (completeSurvey (resumed s st .survey) st) st (s.station st) y := made
    exact ⟨_, e, settle_answered f _ (frame.2.2.2 .link (by simp)), done.shown (shows_settle_answer s _ f _),
      handsOn_settle_of (before := s.notices) handed, ((frame.mono (by simp)).answer (by simp) f _).settle s⟩
  case holds =>
    subst isVerify
    have whole := (resumeStation_complete both .verify).trans (completeOperation_verify (by rw [resumed_station]; exact operation))
    have e := resume_event asked named work operation met whole
    have ended := resumed_scanEnded scan .verify
    have frame : onlyChanges [.stations, .traces] s (endVerify (resumed s st .verify) st) :=
      (endVerify_onlyChanges ended.scan nonconform).resumed (by simp)
    have made := endVerify_holds ended nonconform
    have done : verifyHolds s (endVerify (resumed s st .verify) st) st (s.station st) y := made
    have notices : s.notices <+: (endVerify (resumed s st .verify) st).notices := endVerify_prefix (resumed s st .verify) st
    exact ⟨_, e, settle_answered f _ (frame.2.2.2 .link (by simp)), done.shown (shows_settle_answer s _ f _),
      handsOn_settle_of notices, ((frame.mono (by simp)).answer (by simp) f _).settle s⟩
  case finished =>
    subst isVerify
    have whole := (resumeStation_complete both .verify).trans (completeOperation_verify (by rw [resumed_station]; exact operation))
    have e := resume_event asked named work operation met whole
    have partsV : shareParts (resumed s st .verify) st = some (p, ys, ws) :=
      (shareParts_congr (v := resumed s st .verify) (s := s) (by rw [resumed_station]) rfl).trans parts
    obtain ⟨⟨fates, made⟩, completed, -⟩ :=
      endVerify_finishes (resumed_scanEnded scan .verify) ⟨l, rr⟩ rfl rfl partsV occupant found
    have frame : onlyChanges [.stations, .traces, .planner, .history] s (endVerify (resumed s st .verify) st) :=
      completed.resumed (by simp)
    have done : finishes s (endVerify (resumed s st .verify) st) st { s.station st with results := some y } p ys ws r fates := made
    have notices : s.notices <+: (endVerify (resumed s st .verify) st).notices := endVerify_prefix (resumed s st .verify) st
    exact ⟨_, fates, e, settle_answered f _ (frame.2.2.2 .link (by simp)), done.shown (shows_settle_answer s _ f _),
      handsOn_settle_of notices, ((frame.mono (by simp)).answer (by simp) f _).settle s⟩
  case turnedAway =>
    exact event_serve_unchanged asked (by decide) named (by
      have first : firstFailing (((s.station st).work == .paused, Reason.wrongState) :: motionConditions s st headResumable) =
          some r := by
        rw [work]
        exact failing
      rw [first]
      rfl)
  case wrong =>
    exact event_serve_unchanged asked (by decide) named (by
      have first : firstFailing (((s.station st).work == .paused, Reason.wrongState) :: motionConditions s st headResumable) =
          some .wrongState := by
        have no : ((s.station st).work == .paused) = false := beq_false_of_ne elsewhere
        rw [no]
        rfl
      rw [first]
      rfl)

end Sys2Proof.Machine

/-! ### Operations abandoned (R98 to R100, R181) -/

namespace Sys2Proof.Machine

section
variable {s t u v : State} {st : StationId} {x : Station} {r : WheelsetRecord} {cause : AbandonCause} {op : Operation}

/-! ### The interrupted cut -/

/-- The body of the entry of an interrupted cut (R100, step 1). -/
def interruptedBody (cause : AbandonCause) (x : Station) (r : WheelsetRecord) : EntryBody :=
  .cutInterrupted cause x.recuts ⟨interruptedWheel x r .L, interruptedWheel x r .R⟩

theorem interruptedHistory_eq (station : v.station st = x) (occupant : x.occupant = some r.serial)
    (found : findRecord v.history r.serial = some r) : interruptedHistory v st cause =
      changeRecord (append v r.serial (interruptedBody cause x r) id) r.serial (loweredRecord x) := by
  have named : (v.station st).occupant.getD [] = r.serial := by
    rw [station, occupant]
    rfl
  unfold interruptedHistory
  rw [named, found, station]
  rfl

/-- The record of an interrupted cut's occupant before its deferred ceiling is judged (R100, steps 1 and 2). -/
def interruptedRecord (v : State) (x : Station) (cause : AbandonCause) (r : WheelsetRecord) : WheelsetRecord :=
  changedRecord (appendedRecord v r (interruptedBody cause x r) id) (loweredRecord x)

theorem findRecord_interruptedHistory (station : v.station st = x) (occupant : x.occupant = some r.serial)
    (found : findRecord v.history r.serial = some r) :
    findRecord (interruptedHistory v st cause).history r.serial = some (interruptedRecord v x cause r) := by
  rw [interruptedHistory_eq station occupant found]
  exact (findRecord_changeRecord (r := appendedRecord v r (interruptedBody cause x r) id) (findRecord_append found rfl).1 rfl).1

/-- The state of an interrupted cut before its deferred ceiling is judged (R100). -/
def cutEnded (v : State) (st : StationId) (cause : AbandonCause) : State :=
  let h := interruptedHistory v st cause
  let t := releaseShare (discardTrace (h.setStation st (interruptedStation (h.station st))) st) st
  t.setStation st { t.station st with work := .mounted }

theorem cutEnded_own (v : State) (st : StationId) (cause : AbandonCause) : (cutEnded v st cause).station st =
    { interruptedStation (v.station st) with results := none, plan := none, work := .mounted } := by
  unfold cutEnded
  rw [station_setStation_same, releaseShare_own, discardTrace_station_own, station_setStation_same, interruptedHistory_station]

theorem onlyChanges.discardTrace {ps : List Part} (h : onlyChanges ps s t) (stations : Part.stations ∈ ps)
    (traces : Part.traces ∈ ps) (st : StationId) : onlyChanges ps s (discardTrace t st) :=
  (h.setTraceUnit traces st _).setStation stations st _

/-- What an interrupted cut's end changes beside the record. -/
theorem cutEnded_onlyChanges (v : State) (st : StationId) (cause : AbandonCause) :
    onlyChanges [.stations, .traces, .planner] (interruptedHistory v st cause) (cutEnded v st cause) :=
  (((((onlyChanges_refl _ _).setStation (by simp) st _).discardTrace (by simp) (by simp) st).releaseShare (by simp) (by simp)
    st).setStation (by simp) st _)

theorem cutEnded_traces (v : State) (st : StationId) (cause : AbandonCause) :
    (cutEnded v st cause).traces = (interruptedHistory v st cause).traces.set st emptyTrace := by
  obtain ⟨d, hd⟩ : ∃ d, d = discardTrace ((interruptedHistory v st cause).setStation st
    (interruptedStation ((interruptedHistory v st cause).station st))) st := ⟨_, rfl⟩
  have release := (releaseShare_onlyChanges d st).2.2.2 .traces (by simp)
  have whole : (cutEnded v st cause).traces = (releaseShare d st).traces := by rw [hd]; rfl
  rw [whole]
  exact release.trans (by rw [hd]; rfl)

theorem interruptedHistory_kept (v : State) (st : StationId) (cause : AbandonCause) :
    v.notices <+: (interruptedHistory v st cause).notices ∧ onlyChanges [.history] v (interruptedHistory v st cause) := by
  unfold interruptedHistory
  split
  · exact ⟨List.prefix_refl _, onlyChanges_refl _ v⟩
  · exact ⟨(append_handed _ _ _ _).trans (changeRecord_handed _ _ _),
      ((onlyChanges_refl _ v).append (by simp) _ _ _).changeRecord (by simp) _ _⟩

theorem onlyChanges.applyDeferred {ps : List Part} (h : onlyChanges ps s t) (stations : Part.stations ∈ ps)
    (history : Part.history ∈ ps) (st : StationId) : onlyChanges ps s (applyDeferred t st) := by
  obtain ⟨u, made, ⟨-, same⟩ | ⟨-, same⟩⟩ := applyDeferred_eq t st
  · rw [same]
    exact h
  · rw [same]
    refine onlyChanges.setStation ?_ stations st _
    rcases made with rfl | ⟨r, d, rfl⟩
    · exact h
    · exact h.append history _ _ _

theorem interruptCut_onlyChanges (v : State) (st : StationId) (cause : AbandonCause) :
    onlyChanges [.stations, .traces, .planner, .history] v (interruptCut v st cause) :=
  (((interruptedHistory_kept v st cause).2.mono (by simp)).trans ((cutEnded_onlyChanges v st cause).mono (by simp))).applyDeferred
    (by simp) (by simp) st

theorem interruptCut_handed (v : State) (st : StationId) (cause : AbandonCause) :
    v.notices <+: (interruptCut v st cause).notices := by
  have same : (cutEnded v st cause).notices = (interruptedHistory v st cause).notices :=
    releaseShare_notices (discardTrace ((interruptedHistory v st cause).setStation st
      (interruptedStation ((interruptedHistory v st cause).station st))) st) st
  have handed := (interruptedHistory_kept v st cause).1
  rw [← same] at handed
  exact handed.trans (applyDeferred_handed _ st)

theorem interruptCut_traces (v : State) (st : StationId) (cause : AbandonCause) :
    (interruptCut v st cause).traces = v.traces.set st emptyTrace := by
  have applied := ((onlyChanges_refl [.stations, .history] (cutEnded v st cause)).applyDeferred (by simp) (by simp) st).2.2.2
    .traces (by simp)
  have kept := (interruptedHistory_kept v st cause).2.2.2.2 .traces (by simp)
  exact applied.trans ((cutEnded_traces v st cause).trans (congrArg (fun p : PerStation TraceUnit => p.set st emptyTrace) kept))

/-- The record of an interrupted cut's occupant (R100, R181). -/
theorem interruptCut_interrupted (station : v.station st = x) (occupant : x.occupant = some r.serial)
    (found : findRecord v.history r.serial = some r) :
    cutInterrupted (interruptCut v st cause) x cause r (v.history.counter + 1) v.clock := by
  obtain ⟨q1, hq1⟩ : ∃ q1, q1 = interruptedRecord v x cause r := ⟨_, rfl⟩
  have serial : q1.serial = r.serial := by rw [hq1]; rfl
  have found1 : findRecord (cutEnded v st cause).history q1.serial = some q1 := by
    have kept := (cutEnded_onlyChanges v st cause).2.2.2 .history (by simp)
    change (cutEnded v st cause).history = (interruptedHistory v st cause).history at kept
    rw [kept, serial, hq1]
    exact findRecord_interruptedHistory station occupant found
  have own := cutEnded_own v st cause
  rw [station] at own
  obtain ⟨q, foundQ, applied, fields, newest⟩ := applyDeferred_applied own (occupant.trans (congrArg some serial.symm)) found1
  rw [serial] at foundQ
  refine ⟨q, foundQ, ?_, ?_, ?_, ?_⟩
  · rw [fields, hq1]; rfl
  · rw [fields, hq1]; rfl
  · rw [hq1] at applied
    exact applied
  · refine newest _ ?_
    rw [hq1]
    exact getLast_pushEntry _ _ _ _

/-! ### Any operation abandoned -/

theorem withdrawn_mem {n : Notice} (mem : n ∈ s.notices) (kept : isHeadResult st n = false) : n ∈ (withdrawHeads s st).notices :=
  List.mem_append_left _ (List.mem_filter.mpr ⟨mem, by rw [kept]; rfl⟩)

theorem withdraw_mem (s : State) (st : StationId) : Notice.withdraw st ∈ (withdrawHeads s st).notices :=
  List.mem_append_right _ (List.mem_singleton_self _)

/-- Where an abandon's end keeps the notices that the withdrawal left, the heads are withdrawn and the other notices stay. -/
theorem withdrawn_handed (handed : (withdrawHeads s st).notices <+: t.notices) :
    Notice.withdraw st ∈ t.notices ∧ ∀ n ∈ s.notices, isHeadResult st n = false → n ∈ t.notices :=
  ⟨handed.subset (withdraw_mem s st), fun _ mem kept => handed.subset (withdrawn_mem mem kept)⟩

theorem withdrawHeads_onlyChanges (s : State) (st : StationId) (ps : List Part) : onlyChanges ps s (withdrawHeads s st) :=
  ((onlyChanges_refl _ s).setNotices _).send _

theorem abandonOperation_onlyChanges (s : State) (st : StationId) (cause : AbandonCause) :
    onlyChanges [.stations, .traces, .planner, .history] s (abandonOperation s st cause) := by
  have start := withdrawHeads_onlyChanges s st [.stations, .traces, .planner, .history]
  unfold abandonOperation
  dsimp only
  split
  · exact onlyChanges_refl _ s
  · exact ((start.setTraceUnit (by simp) st _).setStation (by simp) st _).post _ _ _
  · exact ((start.setTraceUnit (by simp) st _).setStation (by simp) st _).post _ _ _
  · exact ((start.setTraceUnit (by simp) st _).setStation (by simp) st _).post _ _ _
  · exact (start.trans (interruptCut_onlyChanges _ st cause)).post _ _ _

/-- A trace, a survey or a verify abandoned: the heads withdrawn, the trace records and the station's record replaced, and the
end posted (R99, R142). -/
def taskAbandoned (s : State) (st : StationId) (unit : TraceUnit) (y : Station) (kind : AttentionKind) (d : Detail) : State :=
  post (((withdrawHeads s st).setTraceUnit st unit).setStation st y) kind (.station st) d

theorem taskAbandoned_own (s : State) (st : StationId) (unit : TraceUnit) (y : Station) (kind : AttentionKind) (d : Detail) :
    (taskAbandoned s st unit y kind d).station st = y := station_setStation_same _ _ _

theorem taskAbandoned_other (s : State) (st : StationId) (unit : TraceUnit) (y : Station) (kind : AttentionKind) (d : Detail) :
    (taskAbandoned s st unit y kind d).station (otherStation st) = s.station (otherStation st) :=
  station_setStation_other _ _ _

theorem taskAbandoned_unit (s : State) (st : StationId) (unit : TraceUnit) (y : Station) (kind : AttentionKind) (d : Detail) :
    (taskAbandoned s st unit y kind d).traceUnit st = unit := traceUnit_setTraceUnit _ _ _

theorem taskAbandoned_history (s : State) (st : StationId) (unit : TraceUnit) (y : Station) (kind : AttentionKind) (d : Detail) :
    (taskAbandoned s st unit y kind d).history = s.history := by
  have kept (v : State) : (post ((v.setTraceUnit st unit).setStation st y) kind (.station st) d).history = v.history := rfl
  exact (kept (withdrawHeads s st)).trans rfl

theorem taskAbandoned_handed (s : State) (st : StationId) (unit : TraceUnit) (y : Station) (kind : AttentionKind) (d : Detail) :
    (taskAbandoned s st unit y kind d).notices = (withdrawHeads s st).notices ++ [.posting kind (.station st) d] := by
  have posted (v : State) : (post ((v.setTraceUnit st unit).setStation st y) kind (.station st) d).notices =
      v.notices ++ [.posting kind (.station st) d] := rfl
  exact posted (withdrawHeads s st)

theorem taskAbandoned_notices (s : State) (st : StationId) (unit : TraceUnit) (y : Station) (kind : AttentionKind) (d : Detail) :
    (Notice.withdraw st ∈ (taskAbandoned s st unit y kind d).notices ∧
      ∀ n ∈ s.notices, isHeadResult st n = false → n ∈ (taskAbandoned s st unit y kind d).notices) ∧
    Notice.posting kind (.station st) d ∈ (taskAbandoned s st unit y kind d).notices := by
  obtain ⟨t, ht⟩ : ∃ t, t = taskAbandoned s st unit y kind d := ⟨_, rfl⟩
  have handed := taskAbandoned_handed s st unit y kind d
  rw [← ht] at handed ⊢
  refine ⟨withdrawn_handed ⟨_, handed.symm⟩, ?_⟩
  rw [handed]
  exact List.mem_append_right _ (List.mem_singleton_self _)

theorem abandonOperation_trace (operation : (s.station st).operation = some .trace) : abandonOperation s st cause =
    taskAbandoned s st { s.traceUnit st with walk := none }
      { endOperation (s.station st) with claim := false, work := (s.station st).prior.getD .mounted } .traceEnd
      (.traceFailed .trace cause) := by
  have held : ((withdrawHeads s st).station st).operation = some .trace := operation
  unfold abandonOperation
  dsimp only
  rw [held]
  rfl

theorem abandonOperation_survey (operation : (s.station st).operation = some .survey) : abandonOperation s st cause =
    taskAbandoned s st { s.traceUnit st with scan := none }
      { endOperation (s.station st) with work := (s.station st).prior.getD .mounted } .traceEnd
      (.traceFailed .survey cause) := by
  have held : ((withdrawHeads s st).station st).operation = some .survey := operation
  unfold abandonOperation
  dsimp only
  rw [held]
  rfl

theorem abandonOperation_verify (operation : (s.station st).operation = some .verify) : abandonOperation s st cause =
    taskAbandoned s st { s.traceUnit st with scan := none }
      { endOperation (s.station st) with
        work := .held, held := some .unverified
        results := (s.traceUnit st).scan.map (fun y => { y with abandoned := true, wheels := y.wheels.map abandonedRecord }) }
      .cutStopped (.verifyAbandoned cause .held) := by
  have held : ((withdrawHeads s st).station st).operation = some .verify := operation
  unfold abandonOperation
  dsimp only
  rw [held]
  rfl

theorem abandonOperation_cut (operation : (s.station st).operation = some .cut) : abandonOperation s st cause =
    postInterrupted (interruptCut (withdrawHeads s st) st cause) st false cause (s.station st).progress := by
  have held : ((withdrawHeads s st).station st).operation = some .cut := operation
  unfold abandonOperation
  dsimp only
  rw [held]
  rfl

/-- The operation in hand abandoned (R98 to R100, R142). -/
theorem abandonOperation_abandons (operation : (s.station st).operation = some op) (cause : AbandonCause) :
    abandons s (abandonOperation s st cause) st op cause := by
  unfold abandons
  cases op with
  | trace =>
    rw [abandonOperation_trace operation, taskAbandoned_own, taskAbandoned_other]
    dsimp only
    rw [taskAbandoned_unit, taskAbandoned_history]
    obtain ⟨⟨withdrawn, kept⟩, posted⟩ := taskAbandoned_notices s st { s.traceUnit st with walk := none }
      { endOperation (s.station st) with claim := false, work := (s.station st).prior.getD .mounted } .traceEnd
      (.traceFailed .trace cause)
    exact ⟨withdrawn, kept, rfl, rfl, rfl, rfl, rfl, rfl, posted⟩
  | survey =>
    rw [abandonOperation_survey operation, taskAbandoned_own, taskAbandoned_other]
    dsimp only
    rw [taskAbandoned_unit, taskAbandoned_history]
    obtain ⟨⟨withdrawn, kept⟩, posted⟩ := taskAbandoned_notices s st { s.traceUnit st with scan := none }
      { endOperation (s.station st) with work := (s.station st).prior.getD .mounted } .traceEnd (.traceFailed .survey cause)
    exact ⟨withdrawn, kept, rfl, rfl, rfl, rfl, rfl, rfl, posted⟩
  | verify =>
    rw [abandonOperation_verify operation, taskAbandoned_own, taskAbandoned_other]
    dsimp only
    rw [taskAbandoned_unit, taskAbandoned_history]
    obtain ⟨⟨withdrawn, kept⟩, posted⟩ := taskAbandoned_notices s st { s.traceUnit st with scan := none }
      { endOperation (s.station st) with
        work := .held, held := some .unverified
        results := (s.traceUnit st).scan.map (fun y => { y with abandoned := true, wheels := y.wheels.map abandonedRecord }) }
      .cutStopped (.verifyAbandoned cause .held)
    exact ⟨withdrawn, kept, rfl, rfl, rfl, rfl, rfl, rfl, rfl, rfl, rfl, rfl, rfl, posted⟩
  | cut =>
    obtain ⟨v, hv⟩ : ∃ v, v = withdrawHeads s st := ⟨_, rfl⟩
    have station : v.station st = s.station st := by rw [hv]; rfl
    have whole := abandonOperation_cut (cause := cause) operation
    rw [← hv] at whole
    obtain ⟨t, ht⟩ : ∃ t, t = postInterrupted (interruptCut v st cause) st false cause (s.station st).progress := ⟨_, rfl⟩
    rw [whole, ← ht]
    have own : t.station st = _ := (congrArg (fun t => State.station t st) ht).trans (interruptCut_own v st cause)
    obtain ⟨plan, -, other⟩ := interruptCut_other v st cause
    have otherT : t.station (otherStation st) = { s.station (otherStation st) with plan := plan } := by
      rw [ht]
      refine Eq.trans other ?_
      rw [hv]
      rfl
    have unit : t.traceUnit st = emptyTrace := by
      unfold State.traceUnit
      have traces : t.traces = v.traces.set st emptyTrace := by rw [ht]; exact interruptCut_traces v st cause
      rw [traces]
      exact PerStation.get_set_same _ _ _
    have handed : v.notices <+: t.notices := by
      rw [ht]
      exact (interruptCut_handed v st cause).trans (List.prefix_append _ _)
    obtain ⟨withdrawn, kept⟩ := withdrawn_handed (s := s) (st := st) (t := t) (hv ▸ handed)
    rw [own, otherT, unit]
    refine ⟨withdrawn, kept, rfl, rfl, rfl, rfl, rfl, rfl, rfl, rfl, rfl, rfl, rfl, fun r occupant found => ?_, ?_⟩
    · have interrupted := interruptCut_interrupted (cause := cause) station occupant (by rw [hv]; exact found)
      rw [ht]
      rw [hv] at interrupted ⊢
      exact interrupted
    · rw [ht]
      exact List.mem_append_right _ (List.mem_singleton_self _)

/-! ### An abandon within an event -/

theorem abandons.shown (done : abandons s t st op cause) (shows : Shows t u) : abandons s u st op cause := by
  obtain ⟨withdrawn, kept, operation, other, ends⟩ := done
  refine ⟨shows.notices withdrawn, fun n mem result => shows.notices (kept n mem result), by rw [shows.station]; exact operation,
    by rw [shows.station]; exact other, ?_⟩
  cases op with
  | trace =>
    obtain ⟨work, claim, history, unit, posted⟩ := ends
    exact ⟨by rw [shows.station]; exact work, by rw [shows.station]; exact claim, shows.history.trans history,
      (shows.traceUnit st).trans unit, shows.notices posted⟩
  | survey =>
    obtain ⟨work, results, history, unit, posted⟩ := ends
    exact ⟨by rw [shows.station]; exact work, by rw [shows.station]; exact results, shows.history.trans history,
      (shows.traceUnit st).trans unit, shows.notices posted⟩
  | verify =>
    dsimp only at ends ⊢
    rw [shows.station, shows.history, shows.traceUnit]
    obtain ⟨work, held, history, plan, reservation, recuts, progress, unit, results, posted⟩ := ends
    exact ⟨work, held, history, plan, reservation, recuts, progress, unit, results, shows.notices posted⟩
  | cut =>
    dsimp only at ends ⊢
    unfold cutInterrupted at ends ⊢
    rw [shows.station, shows.history, shows.traceUnit]
    obtain ⟨work, held, reservation, recuts, progress, plan, results, deferred, unit, record, posted⟩ := ends
    exact ⟨work, held, reservation, recuts, progress, plan, results, deferred, unit, record, shows.notices posted⟩

/-- An abandon is the same whatever the station's view shows. -/
theorem abandons.of_view {w : PitView}
    (done : abandons (u.setStation st { u.station st with view := w }) t st op cause) : abandons u t st op cause := by
  have own : (u.setStation st { u.station st with view := w }).station st = { u.station st with view := w } :=
    station_setStation_same _ _ _
  unfold abandons at done ⊢
  rw [own, station_setStation_other] at done
  cases op <;> exact done

end

end Sys2Proof.Machine

/-! ### STATION ABANDON and the notices that force an abandon (R98) -/

namespace Sys2Proof.Machine

section
variable {s u v : State} {st : StationId} {op : Operation} {cause : AbandonCause} {n : Notice} {rest : List Notice} {c : Instr}

theorem forceAbandon_idle (idle : operationInHand v st = false) : forceAbandon v st cause = v :=
  if_neg (by rw [idle]; exact Bool.false_ne_true)

theorem forceAbandon_busy (busy : operationInHand v st = true) : forceAbandon v st cause = abandonOperation v st cause :=
  if_pos busy

theorem forceAbandon_onlyChanges (v : State) (st : StationId) (cause : AbandonCause) :
    onlyChanges [.stations, .traces, .planner, .history] v (forceAbandon v st cause) := by
  unfold forceAbandon
  split
  · exact abandonOperation_onlyChanges v st cause
  · exact onlyChanges_refl _ v

/-- The view that a forced abandon's notice leaves its station with: the break notice brings the stop chain's state. -/
def noticedView (s : State) (st : StationId) (c : Instr) : PitView :=
  if c = .stationBreakNotice st then { (s.station st).view with stop := s.zone.stop } else (s.station st).view

/-- The state in which a notice forces its abandon. -/
def noticed (s : State) (rest : List Notice) (st : StationId) (c : Instr) : State :=
  (s.setNotices rest).setStation st { s.station st with view := noticedView s st c }

theorem noticed_unless_break (other : c ≠ .stationBreakNotice st) : noticed s rest st c = s.setNotices rest := by
  unfold noticed noticedView
  rw [if_neg other]
  exact setStation_station (s.setNotices rest) st

/-- Each notice that forces an abandon forces it from the state that it leaves (R98). -/
theorem forced_event (w : waits s (fun m => m == n) n rest)
    (force : (c = .stationBreakNotice st ∧ n = .stationBreak st ∧ cause = .stopped) ∨
      (c = .liftFaultedNotice st ∧ n = .liftFaulted st ∧ cause = .lift) ∨
      (c = .clampFailedNotice st ∧ n = .clampFailed st ∧ cause = .clamp) ∨
      (c = .headFailedNotice st ∧ n = .headFailed st ∧ cause = .head)) :
    exec c s = .next (settle s (forceAbandon (noticed s rest st c) st cause)) := by
  rcases force with ⟨rfl, rfl, rfl⟩ | ⟨rfl, rfl, rfl⟩ | ⟨rfl, rfl, rfl⟩ | ⟨rfl, rfl, rfl⟩
  · exact event_notice_made w (by
      unfold noticed noticedView
      rw [if_pos rfl]
      rfl)
  · rw [noticed_unless_break (by simp)]
    exact event_notice_made w rfl
  · rw [noticed_unless_break (by simp)]
    exact event_notice_made w rfl
  · rw [noticed_unless_break (by simp)]
    exact event_notice_made w rfl

end

/-- Settles O41: with an operation in hand STATION ABANDON and each forcing notice end it as R99 and R100 give, and otherwise
they leave the station's work. -/
theorem abandonsEndTheOperation : Obligations.AbandonsEndTheOperation := by
  refine ⟨fun s f b st asked named => ⟨fun op busy operation => ?asked, fun idle => ?refused⟩,
    fun s u st c n cause rest w hu force => ?forced⟩
  case asked =>
    obtain ⟨t, ht⟩ : ∃ t, t = abandonOperation s st .host := ⟨_, rfl⟩
    have e : exec .stationAbandon s = .next (settle s (answer t f (.done (.stationState (t.station st).work)))) :=
      event_serve_changes asked (by decide) named (by
        rw [if_pos busy, ← ht])
    have frame := abandonOperation_onlyChanges s st .host
    have done := abandonOperation_abandons operation .host
    rw [← ht] at frame done
    exact ⟨_, e, settle_answered f _ (frame.2.2.2 .link (by simp)), done.shown (shows_settle_answer s _ f _),
      ((frame.mono (by simp)).answer (by simp) f _).settle s⟩
  case refused =>
    exact event_serve_unchanged asked (by decide) named (by
      rw [if_neg (by rw [idle]; exact Bool.false_ne_true)]
      rfl)
  case forced =>
    have e := forced_event w force
    obtain ⟨v, hv⟩ : ∃ v, v = noticed s rest st c := ⟨_, rfl⟩
    rw [← hv] at e
    have own : v.station st = { s.station st with view := noticedView s st c } := by
      rw [hv, noticed, station_setStation_same]
    have busySame : operationInHand v st = operationInHand s st := by
      unfold operationInHand
      rw [own]
    have frame : onlyChanges [.stations, .traces, .planner, .history] s v := by
      rw [hv]
      exact ((onlyChanges_refl _ s).setNotices rest).setStation (by simp) st _
    refine ⟨_, e, (frame.trans (forceAbandon_onlyChanges v st cause)).settle s, fun op busy operation => ?_, fun idle => ?_⟩
    · rw [forceAbandon_busy (busySame.trans busy)]
      have done := abandonOperation_abandons (s := v) (op := op) (by rw [own]; exact operation) cause
      have viewed : v = u.setStation st { u.station st with view := noticedView s st c } := by
        rw [hv, hu]
        rfl
      refine abandons.shown ?_ (shows_settle s _)
      generalize abandonOperation v st cause = t at done
      rw [viewed] at done
      exact done.of_view
    · rw [forceAbandon_idle (busySame.trans idle)]
      have quiet : settle s v = v := by
        rw [hv]
        exact settle_setStation rest rfl rfl
      rw [quiet, own]
      refine ⟨by rw [hv]; rfl, ?_, by rw [hv]; rfl, rfl⟩
      rw [hv]
      exact ((onlyStation_refl s st).of_stations rfl).setStation _

end Sys2Proof.Machine

/-! ### MOUNT and DISMOUNT (R93, R94) -/

namespace Sys2Proof.Machine

section
variable {s t u v d : State} {st : StationId}

theorem shareOf_congr {o : StationId} (plan : (t.station o).plan = (s.station o).plan) (planner : t.planner = s.planner) :
    shareOf t o = shareOf s o := by
  rw [shareOf_eq, shareOf_eq, planOf_congr plan planner]

/-- A share released from a state with the same plans leaves the other station's surviving share of the same plan. -/
theorem releaseShare_survives (plan : (d.station st).plan = (s.station st).plan)
    (other : (d.station (otherStation st)).plan = (s.station (otherStation st)).plan) (planner : d.planner = s.planner)
    (same : (s.station (otherStation st)).plan = (s.station st).plan)
    (survives : shareCondemned (shareOf s (otherStation st)) = false) :
    shareOf (releaseShare d st) (otherStation st) = shareOf s (otherStation st) := by
  have share := shareOf_congr other planner
  have kept := ((releaseShare_partner (other.trans (same.trans plan.symm))).2 (by rw [share]; exact survives)).2
  exact kept.trans share

theorem interruptCut_survives (cause : AbandonCause) (same : (s.station (otherStation st)).plan = (s.station st).plan)
    (survives : shareCondemned (shareOf s (otherStation st)) = false) :
    shareOf (interruptCut s st cause) (otherStation st) = shareOf s (otherStation st) := by
  obtain ⟨h, hh⟩ : ∃ h, h = interruptedHistory s st cause := ⟨_, rfl⟩
  obtain ⟨d, hd⟩ : ∃ d, d = discardTrace (h.setStation st (interruptedStation (h.station st))) st := ⟨_, rfl⟩
  have history := (interruptedHistory_kept s st cause).2
  rw [← hh] at history
  have plan : (d.station st).plan = (s.station st).plan := by
    rw [hd, discardTrace_station_own, station_setStation_same, hh, interruptedHistory_station]
    rfl
  have other : (d.station (otherStation st)).plan = (s.station (otherStation st)).plan := by
    rw [hd, discardTrace_station_other, station_setStation_other, hh, interruptedHistory_station]
  have planner : d.planner = s.planner := by
    rw [hd]
    exact history.2.2.2 .planner (by simp)
  have whole : interruptCut s st cause =
      applyDeferred ((releaseShare d st).setStation st { (releaseShare d st).station st with work := .mounted }) st := by
    rw [hd, hh]
    rfl
  rw [whole]
  refine (shareOf_congr ?_ (applyDeferred_planner _ st)).trans ?_
  · rw [applyDeferred_other]
  · have kept : shareOf ((releaseShare d st).setStation st { (releaseShare d st).station st with work := .mounted })
        (otherStation st) = shareOf (releaseShare d st) (otherStation st) :=
      shareOf_congr (by rw [station_setStation_other]) rfl
    exact kept.trans (releaseShare_survives plan other planner same survives)

theorem shareCondemned_false {y : Share} (outcome : y.outcome ≠ .condemned) : shareCondemned (some y) = false := by
  unfold shareCondemned
  simpa using outcome

/-! ### The station dismounted -/

/-- The state once the cut in hand of a dismounted station has been interrupted (R94, step 1). -/
def dismountEnded (s : State) (st : StationId) : State :=
  if 0 < (s.station st).reservation then
    postInterrupted (interruptCut s st .host) st true .host (s.station st).progress
  else s

/-- The state once a dismounted station's trace, results and share have gone (R94, step 2). -/
def dismountReleased (s : State) (st : StationId) : State :=
  releaseShare (discardTrace (dismountEnded s st) st) st

/-- The state once an idle partner's share has gone too (R94, step 3). -/
def dismountIdled (s : State) (st : StationId) : State :=
  if idlePartner s st then idled (dismountReleased s st) (otherStation st) else dismountReleased s st

theorem dismountStation_eq (s : State) (st : StationId) : dismountStation s st =
    (dismountIdled s st).setStation st (emptiedStation ((dismountIdled s st).station st)) := rfl

theorem dismountEnded_resting (rest : (s.station st).reservation = 0) : dismountEnded s st = s :=
  if_neg (by rw [rest]; exact Nat.lt_irrefl 0)

theorem dismountEnded_cut (cut : 0 < (s.station st).reservation) : dismountEnded s st =
    postInterrupted (interruptCut s st .host) st true .host (s.station st).progress := if_pos cut

theorem dismountEnded_view (s : State) (st : StationId) : ((dismountEnded s st).station st).view = (s.station st).view := by
  unfold dismountEnded
  split
  · have own : (postInterrupted (interruptCut s st .host) st true .host (s.station st).progress).station st = _ :=
      interruptCut_own s st .host
    rw [own]
    rfl
  · rfl

theorem dismountEnded_other (s : State) (st : StationId) :
    ∃ plan, (dismountEnded s st).station (otherStation st) = { s.station (otherStation st) with plan := plan } := by
  unfold dismountEnded
  split
  · obtain ⟨plan, -, other⟩ := interruptCut_other s st .host
    exact ⟨plan, other⟩
  · exact ⟨_, rfl⟩

theorem dismountEnded_traces (s : State) (st : StationId) :
    (dismountEnded s st).traces.set st emptyTrace = s.traces.set st emptyTrace := by
  unfold dismountEnded
  split
  · exact (congrArg (fun p : PerStation TraceUnit => p.set st emptyTrace) (interruptCut_traces s st .host)).trans
      (PerStation.set_set _ _ _ _)
  · rfl

theorem dismountReleased_other (s : State) (st : StationId) :
    ∃ plan, (dismountReleased s st).station (otherStation st) = { s.station (otherStation st) with plan := plan } := by
  obtain ⟨plan, ended⟩ := dismountEnded_other s st
  obtain ⟨plan', other⟩ := releaseShare_other_eq (discardTrace (dismountEnded s st) st) st
  rw [discardTrace_station_other, ended] at other
  exact ⟨plan', other⟩

theorem dismountReleased_view (s : State) (st : StationId) :
    ((dismountReleased s st).station st).view = (s.station st).view := by
  unfold dismountReleased
  rw [releaseShare_own, discardTrace_station_own]
  exact dismountEnded_view s st

/-- The partner's surviving share stays where the dismounted station's own has gone (R94). -/
theorem dismountReleased_survives (same : (s.station (otherStation st)).plan = (s.station st).plan)
    (survives : shareCondemned (shareOf s (otherStation st)) = false) :
    shareOf (dismountReleased s st) (otherStation st) = shareOf s (otherStation st) := by
  unfold dismountReleased
  by_cases cut : 0 < (s.station st).reservation
  · rw [dismountEnded_cut cut]
    obtain ⟨v, hv⟩ : ∃ v, v = postInterrupted (interruptCut s st .host) st true .host (s.station st).progress := ⟨_, rfl⟩
    rw [← hv]
    have own : ((discardTrace v st).station st).plan = none := by
      rw [discardTrace_station_own, hv]
      exact congrArg Station.plan (interruptCut_own s st .host)
    rw [releaseShare_planless own]
    have shared : shareOf v (otherStation st) = shareOf s (otherStation st) := by
      rw [hv]
      exact interruptCut_survives .host same survives
    rw [← shared]
    exact shareOf_congr (by rw [discardTrace_station_other]) rfl
  · rw [dismountEnded_resting (Nat.eq_zero_of_not_pos cut)]
    exact releaseShare_survives (by rw [discardTrace_station_own]) (by rw [discardTrace_station_other]) rfl same survives

/-- What a dismount leaves of the parts beside the stations' records. -/
theorem dismountIdled_kept (s : State) (st : StationId) :
    (dismountIdled s st).notices = (dismountEnded s st).notices ∧ (dismountIdled s st).history = (dismountEnded s st).history ∧
    (dismountIdled s st).traces = s.traces.set st emptyTrace ∧
    onlyChanges [.stations, .traces, .planner] (dismountEnded s st) (dismountIdled s st) := by
  obtain ⟨d, hd⟩ : ∃ d, d = discardTrace (dismountEnded s st) st := ⟨_, rfl⟩
  have released : dismountReleased s st = releaseShare d st := by rw [hd]; rfl
  have base : onlyChanges [.stations, .planner] d (dismountIdled s st) := by
    unfold dismountIdled
    rw [released]
    split
    · exact ((onlyChanges_refl _ d).releaseShare (by simp) (by simp) st).idled (by simp) (by simp) _
    · exact (onlyChanges_refl _ d).releaseShare (by simp) (by simp) st
  have notices : (dismountIdled s st).notices = d.notices := by
    unfold dismountIdled
    rw [released]
    split
    · rw [idled_notices, releaseShare_notices]
    · exact releaseShare_notices d st
  have start : onlyChanges [.stations, .traces, .planner] (dismountEnded s st) d := by
    rw [hd]
    exact (onlyChanges_refl _ _).discardTrace (by simp) (by simp) st
  refine ⟨notices.trans (by rw [hd]; rfl), (base.2.2.2 .history (by simp)).trans (by rw [hd]; rfl), ?_,
    start.trans (base.mono (by simp))⟩
  refine (base.2.2.2 .traces (by simp)).trans (Eq.trans ?_ (dismountEnded_traces s st))
  rw [hd]
  rfl

theorem dismountIdled_view (s : State) (st : StationId) : ((dismountIdled s st).station st).view = (s.station st).view := by
  unfold dismountIdled
  split
  · have cases_ := idled_other_cases (dismountReleased s st) (otherStation st)
    rw [otherStation_otherStation] at cases_
    rcases cases_ with same | gone
    · rw [same]
      exact dismountReleased_view s st
    · rw [gone]
      exact dismountReleased_view s st
  · exact dismountReleased_view s st

theorem dismountStation_own (s : State) (st : StationId) :
    (dismountStation s st).station st = { vacantStation with view := (s.station st).view } := by
  rw [dismountStation_eq, station_setStation_same]
  exact congrArg (fun w => { vacantStation with view := w }) (dismountIdled_view s st)

theorem dismountStation_other (s : State) (st : StationId) :
    (dismountStation s st).station (otherStation st) = (dismountIdled s st).station (otherStation st) := by
  rw [dismountStation_eq, station_setStation_other]

/-- The other station's record of a dismount: its occupant stays; an idle partner becomes TRACED, and any other keeps its
work (R94, step 3). -/
theorem dismountStation_partner (s : State) (st : StationId) :
    ((dismountStation s st).station (otherStation st)).occupant = (s.station (otherStation st)).occupant ∧
    (idlePartner s st = true → (dismountStation s st).station (otherStation st) =
      { s.station (otherStation st) with work := .traced, held := none, plan := none }) ∧
    (idlePartner s st = false → ((dismountStation s st).station (otherStation st)).work = (s.station (otherStation st)).work ∧
      (shareOf (dismountStation s st) (otherStation st)) = shareOf (dismountReleased s st) (otherStation st)) := by
  obtain ⟨plan, released⟩ := dismountReleased_other s st
  rw [dismountStation_other]
  unfold dismountIdled
  by_cases idle : idlePartner s st = true
  · rw [if_pos idle, idled_own, released]
    exact ⟨rfl, fun _ => rfl, fun no => absurd (idle.symm.trans no) (by simp)⟩
  · rw [if_neg idle, released]
    refine ⟨rfl, fun yes => absurd yes idle, fun _ => ⟨rfl, ?_⟩⟩
    have whole : dismountStation s st = (dismountReleased s st).setStation st (emptiedStation ((dismountReleased s st).station st)) := by
      have same : dismountIdled s st = dismountReleased s st := if_neg idle
      rw [dismountStation_eq, same]
    rw [whole]
    exact shareOf_congr (by rw [station_setStation_other]) rfl

theorem dismountStation_traceUnit (s : State) (st : StationId) : (dismountStation s st).traceUnit st = emptyTrace ∧
    (dismountStation s st).traceUnit (otherStation st) = s.traceUnit (otherStation st) := by
  have traces : (dismountStation s st).traces = s.traces.set st emptyTrace := (dismountIdled_kept s st).2.2.1
  unfold State.traceUnit
  rw [traces]
  exact ⟨PerStation.get_set_same _ _ _, PerStation.get_set_ne _ (otherStation_ne st) _⟩

theorem dismountStation_onlyChanges (s : State) (st : StationId) :
    onlyChanges [.stations, .traces, .planner] (dismountEnded s st) (dismountStation s st) := by
  rw [dismountStation_eq]
  exact (dismountIdled_kept s st).2.2.2.setStation (by simp) st _

end

/-- Settles O39: MOUNT sets the occupant of a VACANT station, and DISMOUNT clears a station at rest, interrupting its cut and
discarding an idle partner's share. -/
theorem mountAndDismount : Obligations.MountAndDismount := by
  refine ⟨fun s f body st serial asked read => ⟨fun met => ?mount, fun r failing => ?refused⟩,
    fun s f b st o idle asked named ho hidle => ?dismount⟩
  case mount =>
    obtain ⟨x, hx⟩ : ∃ x, x = { s.station st with
      occupant := some serial, work := .mounted, reservation := 0, recuts := 0, progress := noProgress, prior := none
      held := none } := ⟨_, rfl⟩
    have e : exec .mount s = .next (settle s (answer (s.setStation st x) f (.done .empty))) :=
      event_serve_changes asked (by decide) read (by
        dsimp only
        rw [met, ← hx])
    refine ⟨_, e, settle_answered f _ rfl, ((onlyStation_refl s st).setStation x).of_stations rfl, ?_, handsOn_settle rfl,
      (((onlyChanges_refl _ s).setStation (by simp) st x).answer (by simp) f _).settle s⟩
    rw [station_settle, station_answer, station_setStation_same, hx]
  case refused =>
    exact event_serve_unchanged asked (by decide) read (by
      dsimp only
      rw [failing]
      rfl)
  case dismount =>
    obtain ⟨u, hu⟩ : ∃ u, u = dismountStation s st := ⟨_, rfl⟩
    have idle_ : idle ↔ idlePartner s st = true := by
      rw [hidle, ho, idlePartner_iff]
    have taken (rest : dismountable (s.station st).work = true) (opened : (s.clamp st).state = .opened) :
        exec .dismount s = .next (settle s (answer u f (.done .empty))) :=
      event_serve_changes asked (by decide) named (by
        rw [rest, opened, hu]
        rfl)
    have own : u.station st = { vacantStation with view := (s.station st).view } := hu ▸ dismountStation_own s st
    obtain ⟨occupant, idled_, other⟩ := dismountStation_partner s st
    obtain ⟨unit, unitOther⟩ := dismountStation_traceUnit s st
    have frame := dismountStation_onlyChanges s st
    have kept := dismountIdled_kept s st
    have notices : u.notices = (dismountEnded s st).notices := by
      rw [hu]
      exact kept.1
    have history : u.history = (dismountEnded s st).history := by
      rw [hu]
      exact kept.2.1
    rw [← hu] at occupant idled_ other unit unitOther frame
    refine ⟨fun rest opened => ?_, fun rest opened free => ?_, fun rest opened cut => ?_, fun moving => ?_, fun rest shut => ?_⟩
    · refine ⟨_, taken rest opened, fun yes => ho ▸ idled_ (idle_.mp yes), fun no => ?_⟩
      obtain ⟨work, share⟩ := other (Bool.not_eq_true _ ▸ fun yes => no (idle_.mpr yes))
      refine ⟨ho ▸ work, fun y same held outcome => ?_⟩
      have survives : shareCondemned (shareOf s (otherStation st)) = false := by
        rw [held]
        exact shareCondemned_false outcome
      exact share.trans ((dismountReleased_survives (ho ▸ same) survives).trans held)
    · rw [dismountEnded_resting free] at notices history frame
      exact ⟨_, taken rest opened, settle_answered f _ (frame.2.2.2 .link (by simp)), own, unit, unitOther, occupant,
        settle_onlyViews (n := answer u f (.done .empty)) notices (Nat.le_of_eq (congrArg (·.exportQueue.length) history)),
        ((frame.mono (by simp)).answer (by simp) f _).settle s⟩
    · rw [dismountEnded_cut cut] at notices history frame
      have interrupted : onlyChanges [.stations, .traces, .planner, .history] s u :=
        ((interruptCut_onlyChanges s st .host).post _ _ _).trans (frame.mono (by simp))
      refine ⟨_, taken rest opened, settle_answered f _ (interrupted.2.2.2 .link (by simp)), own, unit, unitOther, occupant,
        fun r seated found => ?_, handsOn_answer_settle s f _ ?_, mem_settle_of_mem (n := answer u f (.done .empty)) ?_,
        ((interrupted.mono (by simp)).answer (by simp) f _).settle s⟩
      · have done := interruptCut_interrupted (cause := .host) (v := s) rfl seated found
        unfold cutInterrupted at done ⊢
        have same : (settle s (answer u f (.done .empty))).history = (interruptCut s st .host).history := history
        rw [same]
        exact done
      · rw [notices]
        exact (interruptCut_handed s st .host).trans (List.prefix_append _ _)
      · change _ ∈ u.notices
        rw [notices]
        exact List.mem_append_right _ (List.mem_singleton_self _)
    · exact event_serve_unchanged asked (by decide) named (by
        rw [moving]
        rfl)
    · exact event_serve_unchanged asked (by decide) named (by
        have no : ((s.clamp st).state == .opened) = false := beq_false_of_ne shut
        rw [rest, no]
        rfl)

end Sys2Proof.Machine

/-! ### Coming up with a cut in hand at a station without an occupant (R100, R101) -/

namespace Sys2Proof.Machine

/-- A record of the empty serial. -/
def unnamedRecord : WheelsetRecord :=
  { serial := [], position := none, profile := 0, ds := 0, dlt := 0, diameters := ⟨0, 0⟩, ceiling := none, condemned := false
    matchDue := false, retraceDue := false, cutCount := 0, revision := 0, entries := [] }

/-- Two cuts in hand: one of the wheelset with the empty serial at station A, and one, with a depth completed, at station B,
which has no occupant. -/
def unseatedCut : State :=
  ((State.reset.setHistory { records := [unnamedRecord], exportQueue := [], counter := 0 }).setStation .A
    { vacantStation with occupant := some [], reservation := 1 }).setStation .B
    { vacantStation with reservation := 1, progress := ⟨{ passes := 1, depth := 5 }, { passes := 0, depth := 0 }⟩ }

/-- The interruption of the cut at the station without an occupant lowers the record of the empty serial. -/
theorem unseatedCut_lowered : ((findRecord (comeUp ((unseatedCut.setClock startClock).setUptime 0)).history []).map
    (fun q => q.diameters.l)) = some (-10) := by decide +kernel

/-- Refutes O59: a cut in hand at a station without an occupant is interrupted on the record of the empty serial `[]`. Where
that record is the other station's occupant, its diameters end lower than that station's passes took. -/
theorem not_powerKeepsStoredAndRecovers : ¬ Obligations.PowerKeepsStoredAndRecovers := by
  intro holds
  obtain ⟨t, ran, -, -, -, -, -, -, -, -, -, -, -, -, -, -, -, -, -, -, -, -, interrupted, -⟩ :=
    holds.2 unseatedCut .powerUp (Or.inl rfl)
  have made : comeUp ((unseatedCut.setClock startClock).setUptime 0) = t := Host.Outcome.next.inj ran
  obtain ⟨seq, ⟨q, found, -, diameters, -⟩, -⟩ := interrupted .A unnamedRecord (by decide) (Or.inr (by decide)) rfl rfl
  have lowered := unseatedCut_lowered
  rw [made, show ([] : Serial) = unnamedRecord.serial from rfl, found] at lowered
  have kept : q.diameters.l = 0 := by
    rw [diameters]
    rfl
  exact absurd (kept.symm.trans (Option.some.inj lowered)) (by decide)

end Sys2Proof.Machine

/-! ### The share that planning makes (R156, R159) -/

namespace Sys2Proof.Machine

section
variable {r : WheelsetRecord} {tr : StationTrace} {cvisit : Geometry} {w : Planned} {s t u : State} {st : StationId}

/-! ### Findings and the held reason -/

theorem heldReasonOf_append (fs gs : List (Finding × HeldReason)) :
    heldReasonOf (fs ++ gs) = (heldReasonOf fs).or (heldReasonOf gs) := by
  unfold heldReasonOf
  rw [List.find?_append]
  cases fs.find? (fun f => f.1.hold) <;> rfl

/-- A finding that holds gives its reason where it stands. -/
theorem heldReasonOf_ite {c : Prop} [Decidable c] {f : Finding} (k : HeldReason) (hold : f.hold = true) :
    heldReasonOf (if c then [(f, k)] else []) = if c then some k else none := by
  split
  · simp [heldReasonOf, hold]
  · rfl

/-- A finding that only notes gives none. -/
theorem heldReasonOf_note {c : Prop} [Decidable c] {f : Finding} (k : HeldReason) (note : f.hold = false) :
    heldReasonOf (if c then [(f, k)] else []) = none := by
  split
  · simp [heldReasonOf, note]
  · rfl

theorem heldReasonOf_holds (fs : List Finding) :
    heldReasonOf ((fs.filter (·.hold)).map (fun f => (f, HeldReason.limit))) = if anyHold fs = true then some .limit else none := by
  unfold anyHold
  induction fs with
  | nil => rfl
  | cons f fs ih =>
    cases hold : f.hold with
    | true => simp [heldReasonOf, hold]
    | false =>
      rw [List.filter_cons_of_neg (by simp [hold]), ih]
      simp [hold]

theorem excess_iff (cvisit : Geometry) (c : Calc) :
    ((excessOf cvisit c.wheels.l).isSome || (excessOf cvisit c.wheels.r).isSome) = true ↔
      cvisit < c.wheels.l.c ∨ cvisit < c.wheels.r.c := by
  unfold excessOf
  by_cases l : cvisit < c.wheels.l.c <;> by_cases r : cvisit < c.wheels.r.c <;> simp [l, r]

/-- A surviving share's held reason (R159). -/
theorem heldReason_share (r : WheelsetRecord) (tr : StationTrace) (cvisit : Geometry) (slot : Nat) (fb : Bool) (c : Calc) :
    heldReasonOf (shareFindings r tr cvisit slot fb c) = if anyHold tr.findings = true then some .limit
      else if min c.wheels.l.final c.wheels.r.final < r.dlt then some .lastTurn
      else if cvisit < c.wheels.l.c ∨ cvisit < c.wheels.r.c then some .excess else none := by
  have excess := excess_iff cvisit c
  unfold shareFindings
  rw [heldReasonOf_append, heldReasonOf_append, heldReasonOf_append, heldReasonOf_append, heldReasonOf_holds,
    heldReasonOf_ite .lastTurn rfl, heldReasonOf_ite .excess rfl, heldReasonOf_note .limit rfl, heldReasonOf_note .limit rfl]
  simp only [excess]
  unfold smallerFinal
  by_cases held : anyHold tr.findings = true
  · simp [held]
  · simp only [held, if_false, Option.none_or, Option.or_none, Bool.false_eq_true]
    split <;> rfl

theorem map_ite_single {α β : Type} {c : Prop} [Decidable c] (f : α → β) (a : α) :
    (if c then [a] else []).map f = if c then [f a] else [] := by
  split <;> rfl

/-- A surviving share's findings (R159). -/
theorem findings_share (r : WheelsetRecord) (tr : StationTrace) (cvisit : Geometry) (slot : Nat) (fb : Bool) (c : Calc) :
    (shareFindings r tr cvisit slot fb c).map (·.1) = tr.findings.filter (·.hold) ++
      (if min c.wheels.l.final c.wheels.r.final < r.dlt then
        [planFinding .lastTurn true (some (min c.wheels.l.final c.wheels.r.final)) (some r.dlt) none] else []) ++
      (if cvisit < c.wheels.l.c ∨ cvisit < c.wheels.r.c then
        [planFinding .excess true (excessOf cvisit c.wheels.l) (excessOf cvisit c.wheels.r) (some cvisit)] else []) ++
      (if fb = true then [planFinding .fallback false (some r.profile) (some slot) none] else []) ++
      (if c.lowered = true then [planFinding .ceiling false r.ceiling (some c.stepTwo) none] else []) := by
  have excess := excess_iff cvisit c
  have same : ((tr.findings.filter (·.hold)).map (fun f => (f, HeldReason.limit))).map (·.1) = tr.findings.filter (·.hold) := by
    rw [List.map_map]
    exact List.map_id _
  unfold shareFindings
  rw [List.map_append, List.map_append, List.map_append, List.map_append, same, map_ite_single, map_ite_single, map_ite_single,
    map_ite_single]
  simp only [excess]
  rfl

/-! ### Outcomes -/

/-- A share is CONDEMNED where its wheelset is not adopted. -/
theorem makeShare_condemned (r : WheelsetRecord) (tr : StationTrace) (cvisit : Geometry) (w : Planned) :
    (makeShare r tr cvisit w).outcome = .condemned ↔ w = .flagged ∨ ∃ c f, w = .scrap c f := by
  cases w with
  | flagged => exact ⟨fun _ => Or.inl rfl, fun _ => rfl⟩
  | scrap c f => exact ⟨fun _ => Or.inr ⟨c, f, rfl⟩, fun _ => rfl⟩
  | adopted slot p fb c low =>
    refine ⟨fun out => ?_, fun either => ?_⟩
    · unfold makeShare at out
      dsimp only at out
      split at out <;> exact nomatch out
    · rcases either with same | ⟨c, f, same⟩ <;> exact nomatch same

theorem condemnRecord_kept (unscrapped : ∀ c f, w ≠ .scrap c f) : condemnRecord s r w = s := by
  cases w with
  | scrap c f => exact absurd rfl (unscrapped c f)
  | flagged => rfl
  | adopted slot p fb c low => rfl

theorem condemnRecord_handed (s : State) (r : WheelsetRecord) (w : Planned) :
    s.notices <+: (condemnRecord s r w).notices ∧ onlyChanges [.history] s (condemnRecord s r w) := by
  cases w with
  | scrap c f => exact ⟨append_handed _ _ _ _, (onlyChanges_refl _ s).append (by simp) _ _ _⟩
  | flagged => exact ⟨List.prefix_refl _, onlyChanges_refl _ s⟩
  | adopted slot p fb c low => exact ⟨List.prefix_refl _, onlyChanges_refl _ s⟩

/-- The record of a wheelset condemned SCRAP (R156, R161). -/
theorem condemnRecord_scrap {c : Calc} {f : Option (Nat × Calc)} (found : findRecord s.history r.serial = some r) :
    ∃ q, findRecord (condemnRecord s r (.scrap c f)).history r.serial = some q ∧ q.condemned = true ∧
      nextEntry s (condemnedBody r c f) ∈ q.entries :=
  ⟨_, (findRecord_append found rfl).1, rfl, mem_appendedRecord _ _ _ _⟩

/-- Another record is not touched. -/
theorem condemnRecord_other {serial : Serial} (apart : serial ≠ r.serial) :
    findRecord (condemnRecord s r w).history serial = findRecord s.history serial := by
  cases w with
  | scrap c f => exact findRecord_append_other (fun _ => rfl) apart
  | flagged => rfl
  | adopted slot p fb c low => rfl

/-! ### What PLAN works on -/

theorem planInputs_found {p : Profile} (inputs : planInputs s st = some (r, p, tr)) :
    (s.station st).occupant = some r.serial ∧ findRecord s.history r.serial = some r ∧ profileAt s r.profile = some p := by
  unfold planInputs at inputs
  cases found : (s.station st).occupant.bind (findRecord s.history) with
  | none =>
    rw [found] at inputs
    exact nomatch inputs
  | some q =>
    rw [found] at inputs
    dsimp only at inputs
    obtain ⟨serial, occupant, record⟩ := Option.bind_eq_some_iff.mp found
    cases profile : profileAt s q.profile with
    | none =>
      rw [profile] at inputs
      exact nomatch inputs
    | some p' =>
      rw [profile] at inputs
      cases held : (s.traceUnit st).held with
      | none =>
        rw [held] at inputs
        exact nomatch inputs
      | some tr' =>
        rw [held] at inputs
        obtain ⟨rfl, rfl, rfl⟩ : q = r ∧ p' = p ∧ tr' = tr := by simpa using inputs
        have same := findRecord_serial record
        subst same
        exact ⟨occupant, record, profile⟩

theorem occupantHasProfile_of_inputs {p : Profile} (inputs : planInputs s st = some (r, p, tr)) :
    occupantHasProfile s st = true := by
  obtain ⟨occupant, record, profile⟩ := planInputs_found inputs
  unfold occupantHasProfile occupantProfile
  rw [occupant, Option.bind_some, record, Option.bind_some, profile]
  rfl

/-! ### A station takes its outcome -/

/-- A station's record once it has taken its share's outcome (R161, step 4). -/
def outcomeRecord (y : Station) (slot : Option PlanSlot) (x : Share) : Station :=
  { y with
    plan := slot, held := x.heldReason
    work := match x.outcome with
      | .planned => .planned
      | .held => .held
      | .condemned => .condemned }

theorem postPlanEnd_mem (s : State) (st : StationId) (kind : PlanKind) (x : Share) : Notice.posting .planEnd (.station st)
    (.planEnd (planEndDetail kind (planEndOutcome x.outcome) none x)) ∈ (postPlanEnd s st kind x).notices :=
  List.mem_append_right _ (List.mem_singleton_self _)

/-- A plan set in a slot is found by the stations that refer to the slot. -/
theorem planOf_of_slot {slot : PlanSlot} {q : Plan} (ref : (t.station st).plan = some slot)
    (planner : t.planner = u.planner.set slot (some q)) : planOf t st = some q := by
  rw [planOf_eq, ref, planner, Option.bind_some, Planner.get_set_same]

end

end Sys2Proof.Machine

/-! ### PLAN naming one station (R149, R156 to R162) -/

namespace Sys2Proof.Machine

section
variable {s t u : State} {st : StationId} {r : WheelsetRecord} {tr : StationTrace} {w : Planned} {x : Share}

/-- The single plan that PLAN makes for a surviving share (R151, R152). -/
def singlePlan (s : State) (st : StationId) (r : WheelsetRecord) (x : Share) : Plan :=
  planOfSettings s .single (capturesSingle s st r.serial) (PerStation.set (.both none) st (some x))

/-- The plans after a PLAN of one station. -/
def singlePlanner (s : State) (st : StationId) (r : WheelsetRecord) (x : Share) : Planner :=
  if x.outcome = .condemned then s.planner
  else s.planner.set (freePlanSlot s.planner) (some (singlePlan s st r x))

/-- The plan reference that a station takes from a PLAN of its own. -/
def singleRef (s : State) (x : Share) : Option PlanSlot :=
  if x.outcome = .condemned then none else some (freePlanSlot s.planner)

/-- The conditions of PLAN are met where the station is TRACED with a usable trace, a profile and room (R149). -/
theorem planConditions_met {p : Profile} (traced : (s.station st).work = .traced) (usable : traceUsable s st = true)
    (inputs : planInputs s st = some (r, p, tr)) (room : totalReservation s + 1 ≤ roomCount s) :
    firstFailing (plain [((s.station st).work == .traced, Reason.wrongState), (traceUsable s st, .traceUnusable),
      (occupantHasProfile s st, .noProfile)] ++ [roomFor s 1]) = none := by
  rw [traced, usable, occupantHasProfile_of_inputs inputs]
  unfold roomFor
  rw [decide_eq_true room]
  rfl

/-- The state of a PLAN of one station (R161). -/
theorem makeSingle_eq (hx : x = makeShare r tr s.settings.cvisit w) : makeSingle s st r tr w =
    (postPlanEnd (((condemnRecord s r w).setPlanner (singlePlanner (condemnRecord s r w) st r x)).setStation st
      (outcomeRecord ((condemnRecord s r w).station st) (singleRef (condemnRecord s r w) x) x)) st .single x,
      .done (.planned [planReply x])) := by
  unfold makeSingle singlePlanner singleRef
  dsimp only
  rw [← hx]
  by_cases out : x.outcome = .condemned
  · simp only [out, if_true]
    rfl
  · simp only [out, if_false]
    rfl

end

/-- Settles O50: PLAN makes the share that the arithmetic gives and its station takes the share's outcome, or PLAN is refused
with none of its effects. -/
theorem planMakesSinglePlan : Obligations.PlanMakesSinglePlan := by
  refine ⟨fun r tr cvisit slot p fb low c x small beyond hx hsmall hbeyond => ?share, fun r tr cvisit w out => ?condemned,
    fun s f b st x asked named failing => ?refused,
    fun s f b st r p tr w x asked named traced usable inputs room hw hx => ⟨fun inRange => ?plans, fun y out => ?cut⟩⟩
  case share =>
    have reason := heldReason_share r tr cvisit slot fb c
    rw [← hsmall] at reason
    refine ⟨?_, ?_, ?_, ?_, ?_, ?_, ?_⟩
    · rw [hx, hsmall, hbeyond]
      exact findings_share r tr cvisit slot fb c
    · rw [hx]
      exact reason
    · rw [hx]
      unfold makeShare
      dsimp only
      by_cases free : heldReasonOf (shareFindings r tr cvisit slot fb c) = none
      · rw [if_pos free, if_neg (by rw [free]; exact Bool.false_ne_true)]
      · rw [if_neg free, if_pos (Option.isSome_iff_ne_none.mpr free)]
    · rw [hx]; rfl
    · rw [hx]; rfl
    · rw [hx]; rfl
    · rw [hx]; rfl
  case condemned =>
    rcases out with rfl | ⟨c, f, rfl⟩ <;> exact ⟨rfl, rfl, rfl, rfl⟩
  case refused =>
    exact event_serve_unchanged_mine asked (by decide) (namesOne_of_asks asked named) named (by
      have first : firstFailing (plain [((s.station st).work == .traced, .wrongState), (traceUsable s st, .traceUnusable),
        (occupantHasProfile s st, .noProfile)] ++ [roomFor s 1]) = some x := failing
      rw [first]
      rfl)
  case plans =>
    obtain ⟨occupant, found, -⟩ := planInputs_found inputs
    have met := planConditions_met traced usable inputs room
    obtain ⟨v, hv⟩ : ∃ v, v = condemnRecord s r w := ⟨_, rfl⟩
    obtain ⟨y, hy⟩ : ∃ y, y = outcomeRecord (v.station st) (singleRef v x) x := ⟨_, rfl⟩
    obtain ⟨u, hu⟩ : ∃ u, u = postPlanEnd ((v.setPlanner (singlePlanner v st r x)).setStation st y) st .single x := ⟨_, rfl⟩
    have whole := makeSingle_eq (st := st) hx
    rw [← hv, ← hy, ← hu] at whole
    have e : exec .plan s = .next (settle s (answer u f (.done (.planned [planReply x])))) :=
      event_serve_mine asked (by decide) (namesOne_of_asks asked named) named (by
        rw [met]
        dsimp only
        rw [inputs]
        dsimp only
        rw [← hw, inRange]
        exact whole)
    obtain ⟨handed, history⟩ := condemnRecord_handed s r w
    rw [← hv] at handed history
    have stations : v.stations = s.stations := history.2.2.2 .stations (by simp)
    have planner : v.planner = s.planner := history.2.2.2 .planner (by simp)
    have historyU : u.history = v.history := by rw [hu]; rfl
    have plannerU : u.planner = singlePlanner v st r x := by rw [hu]; rfl
    have frame : onlyChanges [.stations, .planner, .history] s u := by
      rw [hu]
      exact (((history.mono (by simp)).setPlanner (by simp) _).setStation (by simp) st _).post _ _ _
    have own : u.station st = y := by
      rw [hu]
      exact station_setStation_same _ _ _
    have only : onlyStation s u st := by
      have start := ((onlyStation_refl s st).of_stations (u := v.setPlanner (singlePlanner v st r x)) stations).setStation y
      rw [hu]
      exact start.of_stations rfl
    have posted : Notice.posting .planEnd (.station st) (.planEnd (planEndDetail .single (planEndOutcome x.outcome) none x)) ∈
        u.notices := by
      rw [hu]
      exact postPlanEnd_mem _ st .single x
    have notices : s.notices <+: u.notices := by
      rw [hu]
      exact handed.trans (List.prefix_append _ _)
    have ownT : (settle s (answer u f (.done (.planned [planReply x])))).station st = y := own
    refine ⟨_, e, settle_answered f _ (frame.2.2.2 .link (by simp)), only.of_stations rfl, ?_, ?_,
      mem_settle_of_mem (n := answer u f (.done (.planned [planReply x]))) posted, fun survives => ?_, fun out => ?_,
      fun flagged => ?_, fun c fb scrap => ?_, handsOn_answer_settle s f _ notices,
      ((frame.mono (by simp)).answer (by simp) f _).settle s⟩
    · rw [ownT, hy]
      rfl
    · rw [ownT, hy]
      rfl
    · have unscrapped : ∀ c f, w ≠ .scrap c f := fun c f same =>
        survives (hx ▸ (makeShare_condemned r tr s.settings.cvisit w).mpr (Or.inr ⟨c, f, same⟩))
      have kept : v = s := hv.trans (condemnRecord_kept unscrapped)
      have ref : (u.station st).plan = some (freePlanSlot s.planner) := by
        rw [own, hy, kept]
        exact if_neg survives
      have set_ : u.planner = s.planner.set (freePlanSlot s.planner) (some (singlePlan s st r x)) := by
        rw [plannerU, kept]
        exact if_neg survives
      have plan : planOf u st = some (singlePlan s st r x) := planOf_of_slot ref set_
      have share : shareOf u st = some x := by
        rw [shareOf_of_planOf plan]
        exact PerStation.get_set_same _ _ _
      exact ⟨share, historyU.trans (by rw [kept]), _, plan, rfl, rfl, rfl, rfl, rfl, rfl⟩
    · rw [ownT, hy]
      refine ⟨if_pos out, plannerU.trans ?_⟩
      exact (if_pos out).trans planner
    · have kept : v = s := hv.trans (by rw [flagged]; rfl)
      exact historyU.trans (by rw [kept])
    · have scrapped := condemnRecord_scrap (s := s) (c := c) (f := fb) found
      rw [← scrap, ← hv, ← historyU] at scrapped
      exact scrapped
  case cut =>
    have met := planConditions_met traced usable inputs room
    exact event_serve_unchanged_mine asked (by decide) (namesOne_of_asks asked named) named (by
      rw [met]
      dsimp only
      rw [inputs]
      dsimp only
      rw [← hw, out]
      rfl)

end Sys2Proof.Machine

/-! ### PLAN naming both stations (R150, R157, R158, R161, R162) -/

namespace Sys2Proof.Machine

section
variable {s t u v : State} {ra rb : WheelsetRecord} {ta tb : StationTrace} {wa wb : Planned} {xa xb : Share}

/-- The joint plan that PLAN makes where a wheelset survives (R151, R152). -/
def jointPlan (v : State) (ra rb : WheelsetRecord) (xa xb : Share) : Plan :=
  planOfSettings v .joint (capturesJoint v ra.serial rb.serial) ⟨some xa, some xb⟩

/-- The plans after a PLAN of both stations. -/
def jointPlanner (v : State) (ra rb : WheelsetRecord) (xa xb : Share) : Planner :=
  if xa.outcome = .condemned ∧ xb.outcome = .condemned then v.planner
  else v.planner.set (freePlanSlot v.planner) (some (jointPlan v ra rb xa xb))

/-- The plan reference that both stations take from a PLAN that names both. -/
def jointRef (v : State) (xa xb : Share) : Option PlanSlot :=
  if xa.outcome = .condemned ∧ xb.outcome = .condemned then none else some (freePlanSlot v.planner)

/-- The stations with their outcomes taken (R161, step 4). -/
def outcomesTaken (v : State) (planner : Planner) (ref : Option PlanSlot) (xa xb : Share) : State :=
  ((v.setPlanner planner).setStation .A (outcomeRecord (v.station .A) ref xa)).setStation .B
    (outcomeRecord (v.station .B) ref xb)

/-- The state of a PLAN of both stations (R161). -/
theorem makeJoint_eq (ha : xa = makeShare ra ta s.settings.cvisit wa) (hb : xb = makeShare rb tb s.settings.cvisit wb)
    (hv : v = condemnRecord (condemnRecord s ra wa) rb wb) : makeJoint s ra ta wa rb tb wb =
      (postPlanEnd (postPlanEnd (outcomesTaken v (jointPlanner v ra rb xa xb) (jointRef v xa xb) xa xb) .A .joint xa) .B .joint xb,
        .done (.planned [planReply xa, planReply xb])) := by
  unfold makeJoint jointPlanner jointRef
  dsimp only
  rw [← ha, ← hb, ← hv]
  by_cases out : xa.outcome = .condemned ∧ xb.outcome = .condemned
  · rw [if_pos out, if_pos out, if_pos out]
    rfl
  · rw [if_neg out, if_neg out, if_neg out]
    rfl

theorem outcomesTaken_station (v : State) (planner : Planner) (ref : Option PlanSlot) (xa xb : Share) :
    (outcomesTaken v planner ref xa xb).station .A = outcomeRecord (v.station .A) ref xa ∧
    (outcomesTaken v planner ref xa xb).station .B = outcomeRecord (v.station .B) ref xb :=
  ⟨(station_setStation_other _ .B _).trans (station_setStation_same _ .A _), station_setStation_same _ .B _⟩

theorem condemnedAt_of_found {q : WheelsetRecord} {serial : Serial} (found : findRecord t.history serial = some q) :
    condemnedAt t serial = q.condemned := by
  unfold condemnedAt
  rw [found]

/-- Where the serials are apart each wheelset condemned SCRAP has its record flagged (R156, R161). -/
theorem condemnBoth_flagged (apart : ra.serial ≠ rb.serial) (foundA : findRecord s.history ra.serial = some ra)
    (foundB : findRecord s.history rb.serial = some rb) (hv : v = condemnRecord (condemnRecord s ra wa) rb wb) :
    ((∃ c f, wa = .scrap c f) → condemnedAt v ra.serial = true) ∧
    ((∃ c f, wb = .scrap c f) → condemnedAt v rb.serial = true) := by
  refine ⟨?_, ?_⟩
  · rintro ⟨c, f, rfl⟩
    obtain ⟨q, found, flagged, -⟩ := condemnRecord_scrap (c := c) (f := f) foundA
    rw [condemnedAt_of_found (q := q) (by rw [hv, condemnRecord_other apart]; exact found)]
    exact flagged
  · rintro ⟨c, f, rfl⟩
    obtain ⟨q, found, flagged, -⟩ := condemnRecord_scrap (s := condemnRecord s ra wa) (c := c) (f := f)
      ((condemnRecord_other (Ne.symm apart)).trans foundB)
    rw [condemnedAt_of_found (q := q) (by rw [hv]; exact found)]
    exact flagged

end

/-- Settles O51: PLAN of both stations makes one joint plan of the matched shares, or is refused with nothing changed. -/
theorem planBothMakesJointPlan : Obligations.PlanBothMakesJointPlan := by
  refine ⟨fun s f x asked failing => ?refused, fun s f ra rb pa pb ta tb w x asked met inputsA inputsB hw out => ?cut,
    fun s f ra rb pa pb ta tb w xa xb asked met inputsA inputsB apart hw inA inB ha hb => ?plans⟩
  case refused =>
    exact event_serve_unchanged_mine asked (by decide) (namesBoth_of_asks asked) (if_pos rfl) (by
      rw [failing]
      rfl)
  case cut =>
    have first : (cutOutOfRange .A w.1).or (cutOutOfRange .B w.2) = some x := by
      rcases out with one | ⟨none_, two⟩
      · rw [one]
        rfl
      · rw [none_, two]
        rfl
    exact event_serve_unchanged_mine asked (by decide) (namesBoth_of_asks asked) (if_pos rfl) (by
      rw [met]
      dsimp only
      rw [inputsA, inputsB]
      dsimp only
      rw [← hw, first]
      rfl)
  case plans =>
    obtain ⟨-, foundA, -⟩ := planInputs_found inputsA
    obtain ⟨-, foundB, -⟩ := planInputs_found inputsB
    obtain ⟨v, hv⟩ : ∃ v, v = condemnRecord (condemnRecord s ra w.1) rb w.2 := ⟨_, rfl⟩
    obtain ⟨u, hu⟩ : ∃ u, u = outcomesTaken v (jointPlanner v ra rb xa xb) (jointRef v xa xb) xa xb := ⟨_, rfl⟩
    obtain ⟨z, hz⟩ : ∃ z, z = postPlanEnd (postPlanEnd u .A .joint xa) .B .joint xb := ⟨_, rfl⟩
    have whole := makeJoint_eq ha hb hv
    rw [← hu, ← hz] at whole
    have e : exec .planBoth s = .next (settle s (answer z f (.done (.planned [planReply xa, planReply xb])))) :=
      event_serve_mine asked (by decide) (namesBoth_of_asks asked) (if_pos rfl) (by
        rw [met]
        dsimp only
        rw [inputsA, inputsB]
        dsimp only
        rw [← hw, inA, inB]
        exact whole)
    obtain ⟨handedA, historyA⟩ := condemnRecord_handed s ra w.1
    obtain ⟨handedB, historyB⟩ := condemnRecord_handed (condemnRecord s ra w.1) rb w.2
    have handed := handedA.trans handedB
    have start := historyA.trans historyB
    rw [← hv] at handed start
    have planner : v.planner = s.planner := start.2.2.2 .planner (by simp)
    have clock : v.clock = s.clock := start.2.2.2 .clock (by simp)
    obtain ⟨ownA, ownB⟩ := outcomesTaken_station v (jointPlanner v ra rb xa xb) (jointRef v xa xb) xa xb
    rw [← hu] at ownA ownB
    have frameU : onlyChanges [.stations, .planner, .history] s u := by
      rw [hu]
      exact (((start.mono (by simp)).setPlanner (by simp) _).setStation (by simp) _ _).setStation (by simp) _ _
    have plannerU : u.planner = jointPlanner v ra rb xa xb := by rw [hu]; rfl
    have historyU : u.history = v.history := by rw [hu]; rfl
    have noticesU : u.notices = v.notices := by rw [hu]; rfl
    have frame : onlyChanges [.stations, .planner, .history] s z := by
      rw [hz]
      exact (frameU.post _ _ _).post _ _ _
    have notices : s.notices <+: z.notices := by
      rw [hz]
      refine handed.trans ?_
      rw [← noticesU]
      exact (List.prefix_append _ _).trans (List.prefix_append _ _)
    have flagged := condemnBoth_flagged apart foundA foundB hv
    have condemned (serial : Serial) : condemnedAt (settle s (answer z f (.done (.planned [planReply xa, planReply xb])))) serial =
        condemnedAt v serial := by
      have same : (settle s (answer z f (.done (.planned [planReply xa, planReply xb])))).history = v.history := by
        rw [← historyU, hz]
        rfl
      unfold condemnedAt
      rw [same]
    have shownU : Shows u (settle s (answer z f (.done (.planned [planReply xa, planReply xb])))) := by
      have z_ : Shows u z := by
        rw [hz]
        exact ⟨rfl, rfl, rfl, rfl, fun n mem => List.mem_append_left _ (List.mem_append_left _ mem)⟩
      have settled := shows_settle_answer s z f (.done (.planned [planReply xa, planReply xb]))
      exact ⟨settled.stations.trans z_.stations, settled.traces.trans z_.traces, settled.planner.trans z_.planner,
        settled.history.trans z_.history, fun n mem => settled.notices (z_.notices mem)⟩
    refine ⟨_, e, settle_answered f _ (frame.2.2.2 .link (by simp)), ?_, ?_, fun survives => ?_, fun outA outB => ?_,
      fun keptA keptB => ?_, fun c fb scrap => ?_, fun c fb scrap => ?_,
      mem_settle_of_mem (n := answer z f (.done (.planned [planReply xa, planReply xb]))) ?_,
      mem_settle_of_mem (n := answer z f (.done (.planned [planReply xa, planReply xb]))) ?_,
      handsOn_answer_settle s f _ notices, ((frame.mono (by simp)).answer (by simp) f _).settle s⟩
    · rw [shownU.station, ownA]
      rfl
    · rw [shownU.station, ownB]
      rfl
    · have some_ : ¬ (xa.outcome = .condemned ∧ xb.outcome = .condemned) := fun both =>
        survives.elim (fun a => a both.1) fun b => b both.2
      have set_ : u.planner = v.planner.set (freePlanSlot v.planner) (some (jointPlan v ra rb xa xb)) :=
        plannerU.trans (if_neg some_)
      have refA : (u.station .A).plan = some (freePlanSlot v.planner) := by
        rw [ownA]
        exact if_neg some_
      have refB : (u.station .B).plan = some (freePlanSlot v.planner) := by
        rw [ownB]
        exact if_neg some_
      have planA : planOf u .A = some (jointPlan v ra rb xa xb) := planOf_of_slot refA set_
      have planB : planOf u .B = some (jointPlan v ra rb xa xb) := planOf_of_slot refB set_
      have shares (o : StationId) : shareOf (settle s (answer z f (.done (.planned [planReply xa, planReply xb])))) o =
          shareOf u o := shareOf_congr (by rw [shownU.station]) shownU.planner
      rw [shares, shares, shownU.station, shownU.station, planOf_congr (by rw [shownU.station]) shownU.planner]
      exact ⟨by rw [shareOf_of_planOf planA]; rfl, by rw [shareOf_of_planOf planB]; rfl, refA.trans refB.symm, _, planA, rfl, clock⟩
    · rw [shownU.station, shownU.station, ownA, ownB]
      exact ⟨if_pos ⟨outA, outB⟩, if_pos ⟨outA, outB⟩,
        shownU.planner.trans (plannerU.trans ((if_pos ⟨outA, outB⟩).trans planner))⟩
    · have kept : v = s := by rw [hv, condemnRecord_kept keptA, condemnRecord_kept keptB]
      exact shownU.history.trans (historyU.trans (by rw [kept]))
    · rw [condemned]
      exact flagged.1 ⟨c, fb, scrap⟩
    · rw [condemned]
      exact flagged.2 ⟨c, fb, scrap⟩
    · change _ ∈ z.notices
      rw [hz]
      exact List.mem_append_left _ (postPlanEnd_mem u .A .joint xa)
    · change _ ∈ z.notices
      rw [hz]
      exact postPlanEnd_mem _ .B .joint xb

end Sys2Proof.Machine
